-- ==== Sys2Proof/Word.lean ====
section
/-! DEFINITION. The word types of the Rhuza 1620 and the numbers of its fixed sets (00_scope.md, Conventions). -/

namespace Sys2Proof

/-- A byte of the console link or of the axis link (R189, R198). -/
abbrev Byte := BitVec 8

/-- One of the sixteen axes 0 to 15 (R24). -/
abbrev Axis := Fin 16

/-- One of the 32 move slots; slot number n of the manual is `n - 1` here (R1). -/
abbrev MoveSlot := Fin 32

/-- One of the rig lines L0 to L11 (R179). -/
abbrev Line := Fin 12

/-- One of the hand-wheels 0 to 3 (R169). -/
abbrev Wheel := Fin 4

/-- One of the pass slots; slot number n of the manual is `n - 1` here (R146). -/
abbrev PassSlot := Fin 4

/-- The pool's 16,384 keys (R4). -/
abbrev poolSize : Nat := 16384

/-- The most keys a track or a staging list may hold (R3, R21). -/
abbrev maxTrackKeys : Nat := 4096

/-- The most frame records a pass slot may hold (R151). -/
abbrev maxFrameRecords : Nat := 16384

/-- The subframes of one frame (00_scope.md, Terms). -/
abbrev subframes : Nat := 65536

/-- The largest value of an unsigned 32-bit field. -/
abbrev maxU32 : Nat := 4294967295

/-- The least value of a signed 32-bit field. -/
abbrev minI32 : Int := -2147483648

/-- The largest value of a signed 32-bit field. -/
abbrev maxI32 : Int := 2147483647

end Sys2Proof
end

