-- ==== Sys2Proof/Syntax.lean ====
section
/-! DEFINITION. The commands of the Rhuza 1620: one constructor for each row of spec/opcode_table.json.

A request of the console carries its tag and its body as the frame of R189 carries them; the meaning reads the body by the
layouts of R197, so that the form test of R191 is part of it (entry 5). An event carries what the rig presents with it. -/

namespace Sys2Proof

inductive Instr where
  /-- R196: power-up or the RESET pin. -/
  | powerOnReset
  /-- R90: the console's soft reset. -/
  | rigReset (tag : Byte) (body : List Byte)
  | moveCreate (tag : Byte) (body : List Byte)
  | moveDelete (tag : Byte) (body : List Byte)
  | moveList (tag : Byte) (body : List Byte)
  | trackWrite (tag : Byte) (body : List Byte)
  | trackRead (tag : Byte) (body : List Byte)
  | trackClear (tag : Byte) (body : List Byte)
  | trackCopy (tag : Byte) (body : List Byte)
  | trackShift (tag : Byte) (body : List Byte)
  | keyEdit (tag : Byte) (body : List Byte)
  | keyInsert (tag : Byte) (body : List Byte)
  | keyDelete (tag : Byte) (body : List Byte)
  | axisSet (tag : Byte) (body : List Byte)
  | axisGet (tag : Byte) (body : List Byte)
  | mapLoad (tag : Byte) (body : List Byte)
  | mapClear (tag : Byte) (body : List Byte)
  | evalProbe (tag : Byte) (body : List Byte)
  | clockSet (tag : Byte) (body : List Byte)
  | clockGet (tag : Byte) (body : List Byte)
  | takeLoad (tag : Byte) (body : List Byte)
  | takeGet (tag : Byte) (body : List Byte)
  | check (tag : Byte) (body : List Byte)
  | arm (tag : Byte) (body : List Byte)
  | go (tag : Byte) (body : List Byte)
  | hold (tag : Byte) (body : List Byte)
  | stop (tag : Byte) (body : List Byte)
  /-- RETURN (R84). -/
  | returnToPath (tag : Byte) (body : List Byte)
  | jog (tag : Byte) (body : List Byte)
  | jogBind (tag : Byte) (body : List Byte)
  | captureSet (tag : Byte) (body : List Byte)
  | wheelGet (tag : Byte) (body : List Byte)
  | drivesOn (tag : Byte) (body : List Byte)
  | drivesOff (tag : Byte) (body : List Byte)
  | drivePass (tag : Byte) (body : List Byte)
  | linkGet (tag : Byte) (body : List Byte)
  | monitorSet (tag : Byte) (body : List Byte)
  | monitorGet (tag : Byte) (body : List Byte)
  | clearFaults (tag : Byte) (body : List Byte)
  | logReference (tag : Byte) (body : List Byte)
  | logClear (tag : Byte) (body : List Byte)
  | logIndex (tag : Byte) (body : List Byte)
  | logRead (tag : Byte) (body : List Byte)
  | reportSet (tag : Byte) (body : List Byte)
  | status (tag : Byte) (body : List Byte)
  | lineSet (tag : Byte) (body : List Byte)
  | lineRead (tag : Byte) (body : List Byte)
  | cueLoad (tag : Byte) (body : List Byte)
  | cueGet (tag : Byte) (body : List Byte)
  /-- R191: a taken frame whose kind is no request kind. -/
  | unknownKind (kind : Byte) (tag : Byte) (body : List Byte)
  /-- R189: bytes of the console link reach the receiver. -/
  | frameReceive (bytes : List Byte)
  /-- R189: more than 1 ms has passed since the last byte of a frame that is not complete. -/
  | interByteTimeout
  /-- R191: the oldest buffered frame is taken. -/
  | takeRequest
  /-- R192: the oldest queued message begins sending. -/
  | messageSend
  /-- R44, R49: the servo timer expires; `pins` holds the levels of L0 to L11 sampled then (bit i is line i). -/
  | servoTimerExpiry (pins : BitVec 12)
  | rampAtRest
  | triggerEnd
  /-- R184: the pin of L0 rises from low to high. -/
  | cameraPulse
  | cameraLostExpiry
  | pendingClearExpiry (line : Line)
  | lineFilterEdge (line : Line)
  /-- R109: the bytes that reach the 1620 from the axis link within the present slot. -/
  | driveReply (bytes : List Byte)
  | slotEnd
  | enableTimeout (axis : Axis)
  | prerollArrival
  | returnArrival
  | checkCompletion
  | jogRefreshExpiry (axis : Axis)
  /-- R169: one step of a hand-wheel, `up` in the direction that raises its counter. -/
  | wheelStep (wheel : Wheel) (up : Bool)
  deriving DecidableEq, Repr

namespace Instr

/-- The body a request carries, and none for an event. -/
def body? : Instr → Option (List Byte)
  | rigReset _ b | moveCreate _ b | moveDelete _ b | moveList _ b | trackWrite _ b | trackRead _ b | trackClear _ b
  | trackCopy _ b | trackShift _ b | keyEdit _ b | keyInsert _ b | keyDelete _ b | axisSet _ b | axisGet _ b | mapLoad _ b
  | mapClear _ b | evalProbe _ b | clockSet _ b | clockGet _ b | takeLoad _ b | takeGet _ b | check _ b | arm _ b | go _ b
  | hold _ b | stop _ b | returnToPath _ b | jog _ b | jogBind _ b | captureSet _ b | wheelGet _ b | drivesOn _ b
  | drivesOff _ b | drivePass _ b | linkGet _ b | monitorSet _ b | monitorGet _ b | clearFaults _ b | logReference _ b
  | logClear _ b | logIndex _ b | logRead _ b | reportSet _ b | status _ b | lineSet _ b | lineRead _ b | cueLoad _ b
  | cueGet _ b | unknownKind _ _ b => some b
  | powerOnReset | frameReceive _ | interByteTimeout | takeRequest | messageSend | servoTimerExpiry _ | rampAtRest
  | triggerEnd | cameraPulse | cameraLostExpiry | pendingClearExpiry _ | lineFilterEdge _ | driveReply _ | slotEnd
  | enableTimeout _ | prerollArrival | returnArrival | checkCompletion | jogRefreshExpiry _ | wheelStep _ _ => none

end Instr

end Sys2Proof
end

