-- ==== Sys2Proof/Machine/Kinds.lean ====
section
/-! DEFINITION. The kind codes of Table 11-5 and the request a taken frame stands for (R191). -/

namespace Sys2Proof

namespace Kind
def moveCreate : Byte := 0x01
def moveDelete : Byte := 0x02
def moveList : Byte := 0x03
def trackWrite : Byte := 0x04
def trackRead : Byte := 0x05
def trackClear : Byte := 0x06
def trackCopy : Byte := 0x07
def trackShift : Byte := 0x08
def keyEdit : Byte := 0x09
def keyInsert : Byte := 0x0A
def keyDelete : Byte := 0x0B
def axisSet : Byte := 0x10
def axisGet : Byte := 0x11
def mapLoad : Byte := 0x12
def mapClear : Byte := 0x13
def evalProbe : Byte := 0x14
def clockSet : Byte := 0x18
def clockGet : Byte := 0x19
def takeLoad : Byte := 0x20
def takeGet : Byte := 0x21
def check : Byte := 0x22
def arm : Byte := 0x23
def go : Byte := 0x24
def hold : Byte := 0x25
def stop : Byte := 0x26
def returnToPath : Byte := 0x27
def jog : Byte := 0x28
def jogBind : Byte := 0x29
def captureSet : Byte := 0x2A
def wheelGet : Byte := 0x2B
def drivesOn : Byte := 0x30
def drivesOff : Byte := 0x31
def drivePass : Byte := 0x32
def linkGet : Byte := 0x33
def monitorSet : Byte := 0x38
def monitorGet : Byte := 0x39
def clearFaults : Byte := 0x3A
def logReference : Byte := 0x40
def logClear : Byte := 0x41
def logIndex : Byte := 0x42
def logRead : Byte := 0x43
def lineSet : Byte := 0x48
def lineRead : Byte := 0x49
def cueLoad : Byte := 0x4A
def cueGet : Byte := 0x4B
def reportSet : Byte := 0x50
def status : Byte := 0x51
def rigReset : Byte := 0x5F
end Kind

/-- The kinds of Table 11-5 that are requests. -/
def requestKinds : List Byte :=
  [Kind.moveCreate, Kind.moveDelete, Kind.moveList, Kind.trackWrite, Kind.trackRead, Kind.trackClear, Kind.trackCopy,
   Kind.trackShift, Kind.keyEdit, Kind.keyInsert, Kind.keyDelete] ++
  [Kind.axisSet, Kind.axisGet, Kind.mapLoad, Kind.mapClear, Kind.evalProbe, Kind.clockSet, Kind.clockGet] ++
  [Kind.takeLoad, Kind.takeGet, Kind.check, Kind.arm, Kind.go, Kind.hold, Kind.stop, Kind.returnToPath, Kind.jog,
   Kind.jogBind, Kind.captureSet, Kind.wheelGet] ++
  [Kind.drivesOn, Kind.drivesOff, Kind.drivePass, Kind.linkGet, Kind.monitorSet, Kind.monitorGet, Kind.clearFaults] ++
  [Kind.logReference, Kind.logClear, Kind.logIndex, Kind.logRead, Kind.lineSet, Kind.lineRead, Kind.cueLoad, Kind.cueGet,
   Kind.reportSet, Kind.status, Kind.rigReset]

/-- The request a taken frame stands for by its kind, and UNKNOWN_KIND for every other kind (R191). -/
def Instr.ofFrame (kind tag : Byte) (body : List Byte) : Instr :=
  match kind.toNat with
  | 0x01 => .moveCreate tag body
  | 0x02 => .moveDelete tag body
  | 0x03 => .moveList tag body
  | 0x04 => .trackWrite tag body
  | 0x05 => .trackRead tag body
  | 0x06 => .trackClear tag body
  | 0x07 => .trackCopy tag body
  | 0x08 => .trackShift tag body
  | 0x09 => .keyEdit tag body
  | 0x0A => .keyInsert tag body
  | 0x0B => .keyDelete tag body
  | 0x10 => .axisSet tag body
  | 0x11 => .axisGet tag body
  | 0x12 => .mapLoad tag body
  | 0x13 => .mapClear tag body
  | 0x14 => .evalProbe tag body
  | 0x18 => .clockSet tag body
  | 0x19 => .clockGet tag body
  | 0x20 => .takeLoad tag body
  | 0x21 => .takeGet tag body
  | 0x22 => .check tag body
  | 0x23 => .arm tag body
  | 0x24 => .go tag body
  | 0x25 => .hold tag body
  | 0x26 => .stop tag body
  | 0x27 => .returnToPath tag body
  | 0x28 => .jog tag body
  | 0x29 => .jogBind tag body
  | 0x2A => .captureSet tag body
  | 0x2B => .wheelGet tag body
  | 0x30 => .drivesOn tag body
  | 0x31 => .drivesOff tag body
  | 0x32 => .drivePass tag body
  | 0x33 => .linkGet tag body
  | 0x38 => .monitorSet tag body
  | 0x39 => .monitorGet tag body
  | 0x3A => .clearFaults tag body
  | 0x40 => .logReference tag body
  | 0x41 => .logClear tag body
  | 0x42 => .logIndex tag body
  | 0x43 => .logRead tag body
  | 0x48 => .lineSet tag body
  | 0x49 => .lineRead tag body
  | 0x4A => .cueLoad tag body
  | 0x4B => .cueGet tag body
  | 0x50 => .reportSet tag body
  | 0x51 => .status tag body
  | 0x5F => .rigReset tag body
  | _ => .unknownKind kind tag body

end Sys2Proof
end

