-- ==== Sys2Proof/Decode.lean ====
section
/-! DEFINITION. The command a word spells by the table's bits. -/

namespace Sys2Proof

/-- spec/opcode_table.json gives no row any bits, so that no word spells a command (entry 27). The frames of the console are read
by the meanings of FRAME_RECEIVE and TAKE_REQUEST. -/
def decodeTableWord (_nbits _w : Nat) : Option Instr := none

end Sys2Proof
end

