-- ==== Sys2Proof/Config.lean ====
section
/-! DEFINITION. The values the manual leaves open. Each is a constant with no body, so that nothing can be proved of it
but what holds of every value. -/

namespace Sys2Proof

/-- DESIGN CHOICE (entry 9; safe): by how many check frames the walk of a check under way rises at one reading (R91, R103 say that
it rises from 0 to N_end and no more). Applied to the count of open values read so far. -/
opaque Config.freeWalk : Nat → Nat

/-- DESIGN CHOICE (entry 3; safe): the levels that the rig presents at the pins of L0 to L11 as a request that reads them is handled
(R181, R182); bit i is line i. Applied to the count of open values read so far. -/
opaque Config.freePins : Nat → BitVec 12

/-- DESIGN CHOICE (entry 19; safe): the eight bytes of a signed eight-byte field (R197) for a value that leaves its range. -/
opaque Config.freeWide : Int → BitVec 64

end Sys2Proof
end

