-- ==== Sys2Proof/Machine/State.lean ====
section
/-! DEFINITION. The state of the Rhuza 1620: everything the manual gives it, as plain data, block by block (00_scope.md,
Blocks), and the state after power-on reset. -/

namespace Sys2Proof.Machine

/-! ### Move store (01_moves_tracks_and_keys.md) -/

/-- Shape of the segment a key opens (Table 1-1). -/
inductive Segment where
  | step | linear | smooth
  deriving DecidableEq, Repr

/-- Tangent mode of a key, with the two tangents a SET key carries in 1/65,536 units per frame (R2). -/
inductive Tangents where
  | auto
  | set (inT outT : Int)
  deriving DecidableEq, Repr

/-- A key record (R2): `time` in subframes. -/
structure Key where
  time : Nat
  value : Int
  segment : Segment
  tangents : Tangents
  deriving DecidableEq, Repr

/-- A track's keys in time order (R3). -/
abbrev Track := List Key

/-- A move: its name in character codes and its sixteen track positions (R1). -/
structure Move where
  name : List Byte
  tracks : Vector (Option Track) 16
  deriving DecidableEq, Repr

/-- One capture staging list (R20): its target axis, its keys, and whether a refusal has closed it (R21). -/
structure StagingList where
  axis : Axis
  keys : List Key
  closed : Bool
  deriving DecidableEq, Repr

/-- The move store (R1, R4, R20, R21). -/
structure Store where
  moves : Vector (Option Move) 32
  free : Nat
  staging : List StagingList
  stagingTarget : Option MoveSlot
  /-- the pool has refused a key of this pass, so no list takes a further one (R21) -/
  poolRefused : Bool
  deriving DecidableEq, Repr

/-! ### Axis table (02_path_evaluation.md) -/

/-- An axis record (R24, Table 2-1). -/
structure AxisRec where
  configured : Bool
  softMin : Int
  softMax : Int
  origin : Int
  velLimit : Nat
  accLimit : Nat
  jogVel : Nat
  jogAcc : Nat
  window : Nat
  deriving DecidableEq, Repr

/-- A lens map: inputs in map units with their outputs in counts, inputs rising (R30). -/
abbrev LensMap := List (Int × Int)

/-- The axis table (R24, R30). -/
structure AxisTable where
  recs : Vector AxisRec 16
  maps : Vector (Option LensMap) 16
  deriving DecidableEq, Repr

/-! ### Move clock (03_move_time_and_the_camera.md) -/

inductive SyncMode where
  | free | master | follower
  deriving DecidableEq, Repr

/-- The seven clock settings (R44, Table 3-1). -/
structure ClockSettings where
  sync : SyncMode
  frameRate : Nat
  servoRate : Nat
  trigWidth : Nat
  holdRamp : Nat
  resumeRamp : Nat
  faultRamp : Nat
  deriving DecidableEq, Repr

inductive ClockState where
  | stopped | waiting | advancing | atRest
  deriving DecidableEq, Repr

inductive Direction where
  | forward | reverse
  deriving DecidableEq, Repr

/-- What started a down ramp, which says where it leads (R51). -/
inductive RampKind where
  | hold | stop | fault
  deriving DecidableEq, Repr

/-- The ramp of the effective speed (R51, R52). -/
inductive Ramp where
  | none
  | up (target step : Nat)
  | down (kind : RampKind) (dec : Nat)
  deriving DecidableEq, Repr

/-- The follower lock: its pulse count j and its base travel E0 (R59, R60). -/
structure Lock where
  pulses : Nat
  base : Nat
  deriving DecidableEq, Repr

/-- The move clock (R44, R47). -/
structure Clock where
  cfg : ClockSettings
  state : ClockState
  time : Nat
  dir : Direction
  travel : Nat
  passFrame : Nat
  rem : Nat
  speed : Nat
  ramp : Ramp
  lock : Option Lock
  budget : Int
  /-- time to expiry of the camera-lost timer, in microseconds; absent while stopped (R61) -/
  lostTimer : Option Nat
  /-- a camera loss has been evaluated true and no pulse has followed (R61, R135) -/
  lost : Bool
  /-- periods remaining of the trigger; absent while inactive, 0 when its end is due (R58, entry 1) -/
  trigger : Option Nat
  /-- the servo period T in force, in microseconds (R44, R45) -/
  period : Nat
  deriving DecidableEq, Repr

/-! ### Run controller (04_takes_and_the_run_controller.md) -/

/-- A run entry (R63, Table 4-1). -/
structure RunEntry where
  slot : MoveSlot
  startFrame : Nat
  endFrame : Nat
  speed : Nat
  holdAtEnd : Bool
  deriving DecidableEq, Repr

/-- The controller states (R66, Table 4-2). -/
inductive CtrlState where
  | idle | checking | preroll | armed | running | holding | held | jogging | returning | stopping | faultStopping | faulted
  deriving DecidableEq, Repr

inductive StopForm where
  | path | generator
  deriving DecidableEq, Repr

inductive PassKind where
  | play | capture
  deriving DecidableEq, Repr

/-- The check purpose: CHECK, or ARM with a pass kind (R66). -/
inductive Purpose where
  | check
  | arm (kind : PassKind)
  deriving DecidableEq, Repr

/-- The return record (R82). -/
structure ReturnRec where
  entry : Nat
  landing : Bool
  time : Nat
  dir : Direction
  travel : Nat
  passFrame : Nat
  rem : Nat
  speed : Nat
  setpoints : Vector Int 16
  deriving DecidableEq, Repr

/-- The run controller (R63, R66, R67). -/
structure Ctrl where
  runList : List RunEntry
  state : CtrlState
  stopForm : Option StopForm
  purpose : Option Purpose
  armSetpoints : Option (Vector Int 16)
  prerollTargets : Option (Vector Int 16)
  inPos : Nat
  pass : Option PassKind
  entry : Nat
  landing : Bool
  ret : Option ReturnRec
  /-- the setpoint each axis last received (R67) -/
  setpoints : Vector Int 16
  /-- the CLAMPED flag that came with it (R41, R114) -/
  clamped : Vector Bool 16
  deriving DecidableEq, Repr

/-! ### Run check (05_the_run_check.md) -/

inductive ViolationKind where
  | softLimit | join | velocity | accel
  deriving DecidableEq, Repr

/-- A violation the walk found (Table 5-1). -/
structure Violation where
  kind : ViolationKind
  axis : Axis
  frame : Nat
  entry : Nat
  found : Int
  limit : Int
  deriving DecidableEq, Repr

inductive CheckOutcome where
  | pass | fail | cancelled
  deriving DecidableEq, Repr

/-- The notes of a check record (R101). -/
structure CheckNotes where
  speedIgnored : Bool
  unusedTracks : List Axis
  unconfiguredEntries : List Nat
  deriving DecidableEq, Repr

/-- An axis's peaks, each floored (R99). -/
structure AxisPeaks where
  axis : Axis
  velocity : Nat
  accel : Nat
  deriving DecidableEq, Repr

/-- The check result record (Table 5-1). -/
structure CheckRecord where
  purpose : Purpose
  outcome : CheckOutcome
  total : Nat
  walked : Nat
  violation : Option Violation
  peaks : Option (List AxisPeaks)
  headroom : Option Nat
  notes : Option CheckNotes
  signature : Option (BitVec 32)
  deriving DecidableEq, Repr

/-- An axis's peaks so far, exact: the velocity in counts/s × 10⁶, the acceleration in counts/s² × 10¹² (R91, R97, R98). -/
structure ExactPeaks where
  velocity : Nat
  accel : Nat
  deriving DecidableEq, Repr

/-- The check progress (R91, R92): `taken` check frames have all their samples taken, and `first` and `peaks` are the results of
those (entry 9); the time left to the completion is in microseconds (R103). -/
structure CheckProgress where
  purpose : Purpose
  start : Vector Int 16
  total : Nat
  taken : Nat
  first : Option Violation
  peaks : Vector ExactPeaks 16
  timeLeft : Nat
  deriving DecidableEq, Repr

/-- The run check (R91). -/
structure RunCheck where
  progress : Option CheckProgress
  record : Option CheckRecord
  deriving DecidableEq, Repr

/-! ### Axis link (06_the_axis_link.md) -/

inductive DriveState where
  | off | enabling | on
  deriving DecidableEq, Repr

/-- The four status flags of a drive (R109). -/
structure DriveFlags where
  ready : Bool
  fault : Bool
  limitPos : Bool
  limitNeg : Bool
  deriving DecidableEq, Repr

/-- The link record of one axis (R107, Table 6-1). -/
structure LinkRec where
  drive : DriveState
  enableCount : Nat
  enabling : Option Int
  measured : Int
  flags : DriveFlags
  stale : Bool
  misses : Nat
  lastSent : Int
  deriving DecidableEq, Repr

inductive AcyclicOp where
  | read | write
  deriving DecidableEq, Repr

/-- A queued acyclic transaction (R120); `flying` while its attempt is in its slot (R111). -/
structure Acyclic where
  axis : Axis
  index : Byte
  op : AcyclicOp
  value : BitVec 32
  tag : Byte
  age : Nat
  fails : Nat
  flying : Bool
  deriving DecidableEq, Repr

/-- The transaction in the present slot that still awaits its good reply (R108, R111). -/
inductive SlotUse where
  | unused
  | setpoint (axis : Axis) (retry : Bool)
  | acyclic
  deriving DecidableEq, Repr

/-- The slots of the period in progress (R108, R111, R113). -/
structure LinkPeriod where
  /-- slots of the period after the present one -/
  left : Nat
  axes : List Axis
  first : List Axis
  retries : List Axis
  good : List Axis
  current : SlotUse
  /-- the aged claim of R111 has been granted in this period -/
  agedDone : Bool
  deriving DecidableEq, Repr

/-- One axis's item of a feedback batch (R114). -/
structure BatchItem where
  setpoint : Int
  measured : Int
  stale : Bool
  clamped : Bool
  detached : Bool
  flags : DriveFlags
  drive : DriveState
  deriving DecidableEq, Repr

/-- What LINK_GET shows of an axis as it stood at the last close (R123). -/
structure LinkSnap where
  configured : Bool
  stale : Bool
  misses : Nat
  measured : Int
  flags : DriveFlags
  deriving DecidableEq, Repr

/-- The axis link controller (R107, R120). -/
structure Link where
  recs : Vector LinkRec 16
  queue : List Acyclic
  period : Option LinkPeriod
  batch : Vector (Option BatchItem) 16
  prevBatch : Vector (Option BatchItem) 16
  snap : Vector LinkSnap 16
  /-- the transactions in the queue at the last close (R123) -/
  snapQueue : Nat
  /-- the axes whose enable timeout fell at a close and waits for its evaluation (R117, R132, entry 1) -/
  due : Vector Bool 16
  /-- the frame last sent on the axis link (R198) -/
  sent : List Byte
  deriving DecidableEq, Repr

/-! ### Monitor unit (07_monitors_and_fault_stops.md) -/

/-- The conditions evaluated for each axis (R125, Table 7-2). -/
inductive AxisCond where
  | follow | overspeed | limitSw | driveFault | link | repeatDev
  deriving DecidableEq, Repr

/-- One of the 99 condition instances: condition c of axis a is `16 * c + a`; ESTOP, CAMERA_LOST and CAMERA_SLIP are
96, 97 and 98 (R125). -/
abbrev CondId := Fin 99

inductive MonMode where
  | latched | selfClearing | reportOnly | off
  deriving DecidableEq, Repr

/-- The actions, in rising severity (R126, R139). -/
inductive Action where
  | axisHalt | pathStop | driveOff
  deriving DecidableEq, Repr

/-- The settings of one monitor (R126, Table 7-1); a threshold or blanking the monitor has not is 0. -/
structure Monitor where
  mode : MonMode
  action : Action
  threshold : Nat
  deglitch : Nat
  blanking : Nat
  deriving DecidableEq, Repr

/-- Causes of DRIVE_FAULT and of LIMIT_SW (R125). -/
inductive Cause where
  | status | enableTimeout | pos | neg | both
  deriving DecidableEq, Repr

/-- The stamp of an activation: the period count, and the pass number and pass frame when a pass existed (R125). -/
structure Stamp where
  period : BitVec 32
  pass : Option (Nat × Nat)
  deriving DecidableEq, Repr

/-- A condition instance (R125); `latched` holds the latched action while it is latched. -/
structure CondInst where
  active : Bool
  latched : Option Action
  trueRun : Nat
  falseRun : Nat
  last : Bool
  cause : Option Cause
  value : Option Nat
  stamp : Option Stamp
  deriving DecidableEq, Repr

/-- The monitor unit (R125, R126, R131, R140). -/
structure Mon where
  settings : Vector Monitor 99
  insts : Vector CondInst 99
  /-- the instances that have detached each axis; an axis is detached while the list is not empty (R140) -/
  detached : Vector (List CondId) 16
  blank : Vector Nat 16
  periodCount : BitVec 32
  deriving DecidableEq, Repr

/-! ### Pass log (08_the_pass_log.md) -/

inductive PassOutcome where
  | running | complete | stopped | faulted
  deriving DecidableEq, Repr

inductive NoCompare where
  | kind | noReference | signature
  deriving DecidableEq, Repr

/-- How a pass stands to a reference: why it was not compared, or the slot and pass number compared with (Table 8-1). -/
inductive Comparison where
  | absent (why : NoCompare)
  | against (slot : PassSlot) (number : Nat)
  deriving DecidableEq, Repr

/-- Repeat accuracy of one axis (Table 8-1). -/
structure Summary where
  maxDev : Nat
  atFrame : Option Nat
  compared : Nat
  deriving DecidableEq, Repr

/-- A pass header (Table 8-1); its frame count is the number of records its slot holds. -/
structure PassHeader where
  number : Nat
  kind : PassKind
  signature : BitVec 32
  axes : Vector Bool 16
  outcome : PassOutcome
  truncated : Bool
  captureShort : Bool
  comparison : Comparison
  summary : Vector Summary 16
  deriving DecidableEq, Repr

/-- What a frame record holds for one axis (R147). -/
structure AxisSample where
  setpoint : Int
  measured : Int
  stale : Bool
  clamped : Bool
  detached : Bool
  deriving DecidableEq, Repr

/-- A frame record (R147): samples are present for the axes of the pass's axis set. -/
structure FrameRec where
  passFrame : Nat
  entry : Nat
  time : Nat
  samples : Vector (Option AxisSample) 16
  deriving DecidableEq, Repr

/-- What a pass slot holds (R146): records in pass-frame order. -/
structure PassRec where
  header : PassHeader
  records : List FrameRec
  deriving DecidableEq, Repr

/-- A crossing whose record waits for its period's batch (R150), with the report settings as they stood at it (R194). -/
structure Crossing where
  passFrame : Nat
  entry : Nat
  time : Nat
  interval : Nat
  mask : BitVec 16
  deriving DecidableEq, Repr

/-- The pass log (R146, R148, R149, R154, R155). -/
structure PassLog where
  slots : Vector (Option PassRec) 4
  age : List PassSlot
  reference : Option PassSlot
  recording : Option PassSlot
  heldSlot : Option PassSlot
  counter : Nat
  crossing : Option Crossing
  /-- the outcome of a pass whose header is held open for its last record (R154) -/
  closing : Option PassOutcome
  deriving DecidableEq, Repr

/-! ### Motion generator and hand-wheels (09_preroll_jog_return_and_capture.md) -/

inductive GenMode where
  | idle | target | resting | velocity | wheel | capture | halt
  deriving DecidableEq, Repr

/-- A wheel binding with its bases (R170). -/
structure WheelBase where
  wheel : Wheel
  ratio : Int
  baseSetpoint : Int
  baseCount : BitVec 32
  deriving DecidableEq, Repr

/-- The generator record of one axis (R160, Table 9-1). -/
structure GenRec where
  mode : GenMode
  x : Int
  v : Int
  target : Option Int
  jogVel : Option Int
  /-- time to expiry of the refresh timer in microseconds; absent while stopped (R168) -/
  refresh : Option Nat
  wheel : Option WheelBase
  captureStart : Option Int
  /-- RESTING after CAPTURE keeps the axis's velocity limit and acceleration limit (R161) -/
  pathLimits : Bool
  deriving DecidableEq, Repr

/-- The motion generator; `captureBase` holds the base count w0 of each capture binding, in binding order (R174). -/
structure Gen where
  recs : Vector GenRec 16
  captureBase : List (BitVec 32)
  deriving DecidableEq, Repr

/-- A capture binding (R172). -/
structure Binding where
  axis : Axis
  wheel : Wheel
  ratio : Int
  deriving DecidableEq, Repr

/-- The hand-wheel inputs (R169, R172). -/
structure Wheels where
  counters : Vector (BitVec 32) 4
  bindings : List Binding
  stride : Nat
  deriving DecidableEq, Repr

/-! ### Lines and cues (10_rig_lines_and_cues.md) -/

inductive LineMode where
  | input | output
  deriving DecidableEq, Repr

/-- The items of one rig line (Table 10-1). `selected` says that the line's function of Table 10-2 is selected; a pending
clear of 0 periods is due (R187, entry 1). -/
structure RigLine where
  mode : LineMode
  latch : Bool
  selected : Bool
  pendingClear : Option Nat
  deriving DecidableEq, Repr

/-- An input filter (R182): its filtered level (active or not) and its count; a count of 4 is a filtered edge due
(entry 1). -/
structure Filter where
  active : Bool
  count : Nat
  deriving DecidableEq, Repr

inductive CueAction where
  | set | clear | pulse (width : Nat)
  deriving DecidableEq, Repr

inductive CueKinds where
  | play | capture | both
  deriving DecidableEq, Repr

/-- A cue entry (R185). -/
structure Cue where
  passFrame : Nat
  line : Line
  action : CueAction
  kinds : CueKinds
  deriving DecidableEq, Repr

/-- The line and cue unit (R179, R182, R184, R185); the filters are those of L1, L2 and L3. -/
structure Lines where
  lines : Vector RigLine 12
  filterL1 : Filter
  filterL2 : Filter
  filterL3 : Filter
  edgeArmed : Bool
  cues : List Cue
  /-- the pin levels as last seen (entry 3) -/
  pins : BitVec 12
  deriving DecidableEq, Repr

/-! ### Console link (11_the_console_link.md) -/

/-- A good frame in the input buffer (R190). -/
structure InFrame where
  kind : Byte
  tag : Byte
  body : List Byte
  deriving DecidableEq, Repr

/-- A message of the output queue (R192 to R194). A FAULT report's contents are formed when its sending begins (R193). -/
inductive Message where
  | reply (kind tag : Byte) (body : List Byte)
  | state (state : CtrlState) (pass : Option PassKind) (entry count : Nat)
  | fault
  | check (body : List Byte)
  | pass (body : List Byte)
  | frame (body : List Byte)
  deriving DecidableEq, Repr

/-- The console link interface (R189 to R194). -/
structure Console where
  rx : List Byte
  inBuf : List InFrame
  outQ : List Message
  held : List Message
  badFrames : Nat
  discarded : Nat
  interval : Nat
  mask : BitVec 16
  skipped : Nat
  /-- the message being sent, as the bytes of its frame (R192, R196) -/
  sending : List Byte
  deriving DecidableEq, Repr

/-! ### The machine -/

/-- The whole state of the 1620, with the queue of the commands that wait. -/
structure State where
  store : Store
  axes : AxisTable
  clock : Clock
  ctrl : Ctrl
  check : RunCheck
  link : Link
  mon : Mon
  log : PassLog
  gen : Gen
  wheels : Wheels
  lines : Lines
  console : Console
  /-- the commands that wait, first in first out: the model's own -/
  pending : List Instr
  /-- open values read so far: the model's own, DESIGN CHOICE (entry 9) -/
  openReads : Nat
  deriving DecidableEq, Repr

/-- No command makes the 1620 stop: the manual gives every command an effect in every state, so there is no fault to name
(entry 28; safe). -/
inductive Fault where
  deriving DecidableEq, Repr

/-- What the model refuses. No meaning answers with a refusal (entry 28). -/
inductive Refusal where
  /-- Raised by an arm of `exec` for a row with no meaning yet; none is left. Safe: nothing can be proved of what follows. -/
  | notModelled (mnemonic : String)
  deriving DecidableEq, Repr

/-- What a command answers. -/
abbrev Answer := Host.Outcome State Fault Refusal

/-! ### Power-on reset -/

/-- Every entry of a table at one value. -/
def fill (n : Nat) {α : Type} (x : α) : Vector α n := Vector.replicate n x

/-- R23. -/
def Store.reset : Store :=
  { moves := fill 32 none, free := poolSize, staging := [], stagingTarget := none, poolRefused := false }

/-- R25, Table 2-3. -/
def AxisRec.reset : AxisRec :=
  { configured := false, softMin := minI32, softMax := maxI32, origin := 0, velLimit := 100000, accLimit := 1000000
    jogVel := 10000, jogAcc := 100000, window := 100 }

/-- R25, R30. -/
def AxisTable.reset : AxisTable := { recs := fill 16 AxisRec.reset, maps := fill 16 none }

/-- R44, Table 3-1. -/
def ClockSettings.reset : ClockSettings :=
  { sync := .free, frameRate := 24000, servoRate := 1000, trigWidth := 2, holdRamp := 500, resumeRamp := 500
    faultRamp := 100 }

/-- R44, R47, Table 3-2. -/
def Clock.reset : Clock :=
  { cfg := ClockSettings.reset, state := .stopped, time := 0, dir := .forward, travel := 0, passFrame := 0, rem := 0
    speed := 0, ramp := .none, lock := none, budget := 0, lostTimer := none, lost := false, trigger := none
    period := 1000 }

/-- R63, R66, Table 4-2. The setpoints of axes not yet configured are 0: DESIGN CHOICE (entry 6; unsafe). -/
def Ctrl.reset : Ctrl :=
  { runList := [], state := .idle, stopForm := none, purpose := none, armSetpoints := none, prerollTargets := none
    inPos := 0, pass := none, entry := 0, landing := false, ret := none, setpoints := fill 16 0
    clamped := fill 16 false }

/-- R106. -/
def RunCheck.reset : RunCheck := { progress := none, record := none }

def DriveFlags.clear : DriveFlags := { ready := false, fault := false, limitPos := false, limitNeg := false }

/-- Table 6-1, after power-on reset and on configuring. -/
def LinkRec.reset : LinkRec :=
  { drive := .off, enableCount := 0, enabling := none, measured := 0, flags := DriveFlags.clear, stale := true, misses := 0
    lastSent := 0 }

/-- R120, R124. -/
def Link.reset : Link :=
  { recs := fill 16 LinkRec.reset, queue := [], period := none, batch := fill 16 none, prevBatch := fill 16 none
    snap := fill 16 { configured := false, stale := true, misses := 0, measured := 0, flags := DriveFlags.clear }
    snapQueue := 0, due := fill 16 false, sent := [] }

/-- Table 7-2: the defaults of the monitor of instance i. -/
def Monitor.default (i : CondId) : Monitor :=
  if i.val < 16 then
    { mode := .latched, action := .pathStop, threshold := 10000, deglitch := 2, blanking := 50 }
  else if i.val < 32 then
    { mode := .latched, action := .pathStop, threshold := 2000000, deglitch := 3, blanking := 0 }
  else if i.val < 48 then
    { mode := .latched, action := .pathStop, threshold := 0, deglitch := 1, blanking := 0 }
  else if i.val < 64 then
    { mode := .latched, action := .driveOff, threshold := 0, deglitch := 1, blanking := 0 }
  else if i.val < 80 then
    { mode := .latched, action := .driveOff, threshold := 3, deglitch := 1, blanking := 0 }
  else if i.val < 96 then
    { mode := .reportOnly, action := .pathStop, threshold := 100, deglitch := 1, blanking := 0 }
  else if i.val = 96 then
    { mode := .latched, action := .driveOff, threshold := 0, deglitch := 1, blanking := 0 }
  else if i.val = 97 then
    { mode := .latched, action := .pathStop, threshold := 0, deglitch := 1, blanking := 0 }
  else
    { mode := .reportOnly, action := .pathStop, threshold := 8192, deglitch := 1, blanking := 0 }

/-- R145. -/
def CondInst.reset : CondInst :=
  { active := false, latched := none, trueRun := 0, falseRun := 0, last := false, cause := none, value := none
    stamp := none }

/-- R126, R145. -/
def Mon.reset : Mon :=
  { settings := Vector.ofFn Monitor.default, insts := fill 99 CondInst.reset, detached := fill 16 [], blank := fill 16 0
    periodCount := 0 }

/-- R148. -/
def PassLog.reset : PassLog :=
  { slots := fill 4 none, age := [0, 1, 2, 3], reference := none, recording := none, heldSlot := none, counter := 0
    crossing := none, closing := none }

/-- Table 9-1. -/
def GenRec.reset : GenRec :=
  { mode := .idle, x := 0, v := 0, target := none, jogVel := none, refresh := none, wheel := none, captureStart := none
    pathLimits := false }

/-- R160. -/
def Gen.reset : Gen := { recs := fill 16 GenRec.reset, captureBase := [] }

/-- R169, R172. -/
def Wheels.reset : Wheels := { counters := fill 4 0, bindings := [], stride := 1 }

/-- Table 10-1; ESTOP_IN is selected on L1. -/
def RigLine.reset (l : Line) : RigLine :=
  { mode := .input, latch := false, selected := l = 1, pendingClear := none }

/-- R188. The pin levels are low: DESIGN CHOICE (entry 3; unsafe). The filters of L2 and L3 start afresh when their
function is selected (R182). -/
def Lines.reset : Lines :=
  { lines := Vector.ofFn RigLine.reset, filterL1 := { active := false, count := 0 }
    filterL2 := { active := false, count := 0 }, filterL3 := { active := false, count := 0 }, edgeArmed := false, cues := []
    pins := 0 }

/-- R196. R194 gives the skipped count no power-on value: it is 0 (DESIGN CHOICE, entry 6). -/
def Console.reset : Console :=
  { rx := [], inBuf := [], outQ := [], held := [], badFrames := 0, discarded := 0, interval := 0, mask := 0, skipped := 0
    sending := [] }

/-- The 1620 after power-on reset (R23, R25, R30, R44, R47, R63, R66, R106, R124, R145, R148, R160, R188, R196). -/
def State.reset : State :=
  { store := Store.reset, axes := AxisTable.reset, clock := Clock.reset, ctrl := Ctrl.reset, check := RunCheck.reset
    link := Link.reset, mon := Mon.reset, log := PassLog.reset, gen := Gen.reset, wheels := Wheels.reset
    lines := Lines.reset, console := Console.reset, pending := [], openReads := 0 }

end Sys2Proof.Machine
end

