-- ==== Sys2Proof/Machine/Ops.lean ====
section
/-! DEFINITION. The named operations the meanings share: tables, rounding, the queues of the console link, the lookups that
read one block for another. -/

namespace Sys2Proof.Machine

/-! ### Tables -/

/-- The table whose entry i is `f i`. -/
def tabulate {n : Nat} {α : Type} (f : Fin n → α) : Vector α n := Vector.ofFn f

/-- The table with entry i replaced. -/
def put {n : Nat} {α : Type} (v : Vector α n) (i : Fin n) (x : α) : Vector α n := v.set i.val x i.isLt

/-- The sixteen axes in ascending order. -/
def allAxes : List Axis := [0, 1, 2, 3, 4, 5, 6, 7, 8, 9, 10, 11, 12, 13, 14, 15]

/-- The twelve lines in order. -/
def allLines : List Line := [0, 1, 2, 3, 4, 5, 6, 7, 8, 9, 10, 11]

/-- The 32 move slots in order. -/
def allMoveSlots : List MoveSlot :=
  [0, 1, 2, 3, 4, 5, 6, 7, 8, 9, 10, 11, 12, 13, 14, 15, 16, 17, 18, 19, 20, 21, 22, 23, 24, 25, 26, 27, 28, 29, 30, 31]

/-- The four pass slots in order. -/
def allPassSlots : List PassSlot := [0, 1, 2, 3]

/-! ### Numbers (00_scope.md, Conventions) -/

/-- The nearest integer to n / d, ties going away from zero (00_scope.md, Rounding). -/
def roundDiv (n : Int) (d : Nat) : Int :=
  if 0 ≤ n then (2 * n + d) / (2 * d) else -((2 * (-n) + d) / (2 * d))

/-- Saturation to a signed 32-bit field (00_scope.md, Saturation). -/
def sat32 (z : Int) : Int := max minI32 (min maxI32 z)

/-- The least integer not below n / d. -/
def ceilDiv (n d : Nat) : Nat := (n + d - 1) / d

/-- A count that stops at its largest value. -/
def satSucc (most n : Nat) : Nat := min most (n + 1)

/-- Whether z fits a signed 32-bit field. -/
def fits32 (z : Int) : Bool := minI32 ≤ z && z ≤ maxI32

/-! ### Status codes of replies (R197) -/

inductive Status where
  | ok | accepted | asStop | badForm | badValue | noSuch | inUse | wrongState | full | faultActive | notSettable
  | noResponse | aborted
  deriving DecidableEq, Repr

/-- Table 11-5's status byte. -/
def statusCode : Status → Byte
  | .ok => 0x00
  | .accepted => 0x01
  | .asStop => 0x02
  | .badForm => 0x10
  | .badValue => 0x11
  | .noSuch => 0x12
  | .inUse => 0x13
  | .wrongState => 0x14
  | .full => 0x15
  | .faultActive => 0x16
  | .notSettable => 0x17
  | .noResponse => 0x18
  | .aborted => 0x19

/-! ### The output queue (R192 to R194) -/

/-- The positions of the output queue (R192). -/
abbrev queueSize : Nat := 64

def isFrameReport : Message → Bool
  | .frame _ => true
  | _ => false

def isStateReport : Message → Bool
  | .state .. => true
  | _ => false

def isFaultReport : Message → Bool
  | .fault => true
  | _ => false

/-- The queue less its newest FRAME report, when it holds one (R192). -/
def removeNewestFrame : List Message → Option (List Message)
  | [] => none
  | m :: rest =>
    match removeNewestFrame rest with
    | some rest' => some (m :: rest')
    | none => if isFrameReport m then some rest else none

/-- Held messages enter the queue, oldest first, while positions are free (R192). -/
def refill (c : Console) : Console :=
  let room := queueSize - c.outQ.length
  { c with outQ := c.outQ ++ c.held.take room, held := c.held.drop room }

/-- R192: a message other than a FRAME report becomes due. -/
def queueMessage (c : Console) (m : Message) : Console :=
  if c.held.isEmpty && c.outQ.length < queueSize then { c with outQ := c.outQ ++ [m] }
  else
    match removeNewestFrame c.outQ with
    | some q => refill { c with outQ := q, held := c.held ++ [m], skipped := satSucc 255 c.skipped }
    | none => { c with held := c.held ++ [m] }

/-- R194: a FRAME report becomes due. It joins while fewer than 48 positions are occupied, carrying the skipped count. -/
def queueFrameReport (c : Console) (body : List Byte) : Console :=
  if c.outQ.length < 48 then
    { c with outQ := c.outQ ++ [.frame (body ++ [BitVec.ofNat 8 c.skipped])], skipped := 0 }
  else { c with skipped := satSucc 255 c.skipped }

/-- R193: the waiting STATE report updated in place, when there is one. -/
def updateStateReport (st : CtrlState) (kind : Option PassKind) (entry : Nat) : List Message → Option (List Message)
  | [] => none
  | .state _ _ _ count :: rest => some (.state st kind entry (satSucc 255 count) :: rest)
  | m :: rest => (updateStateReport st kind entry rest).map (m :: ·)

/-- R193: the run controller hands on a change of state. -/
def queueStateReport (c : Console) (st : CtrlState) (kind : Option PassKind) (entry : Nat) : Console :=
  match updateStateReport st kind entry c.outQ with
  | some q => { c with outQ := q }
  | none =>
    match updateStateReport st kind entry c.held with
    | some h => { c with held := h }
    | none => queueMessage c (.state st kind entry 1)

/-- R193: the monitor unit hands on a change of the fault set. -/
def queueFaultReport (c : Console) : Console :=
  if c.outQ.any isFaultReport || c.held.any isFaultReport then c else queueMessage c .fault

namespace State

/-- A message joins the output queue (R192). -/
def post (s : State) (m : Message) : State := { s with console := queueMessage s.console m }

/-- R191: a reply bears its request's kind with the top bit set, its tag, and a body that opens with the status byte. -/
def reply (s : State) (kind tag : Byte) (st : Status) (fields : List Byte) : State :=
  s.post (.reply (kind ||| 0x80#8) tag (statusCode st :: fields))

/-- R68: the change of controller state is handed to the console link as the record now stands. -/
def reportState (s : State) : State :=
  { s with console := queueStateReport s.console s.ctrl.state s.ctrl.pass s.ctrl.entry }

/-- R142. -/
def reportFaults (s : State) : State := { s with console := queueFaultReport s.console }

/-- R142: the fault set is reported when the event changed it. -/
def reportFaultsIf (s : State) (changed : Bool) : State := if changed then s.reportFaults else s

/-! ### Lookups -/

/-- R24. -/
def configured (s : State) (a : Axis) : Bool := s.axes.recs[a].configured

/-- The configured axes in ascending order. -/
def configuredAxes (s : State) : List Axis := allAxes.filter s.configured

/-- R140. -/
def isDetached (s : State) (a : Axis) : Bool := !s.mon.detached[a].isEmpty

def driveOf (s : State) (a : Axis) : DriveState := s.link.recs[a].drive

/-- R18: whether a run is pending. -/
def runPending (s : State) : Bool :=
  match s.ctrl.state with
  | .idle | .faulted => false
  | .jogging => s.ctrl.ret.isSome
  | _ => true

/-- R18: a move is frozen when a run is pending and some run entry names its slot. -/
def frozen (s : State) (m : MoveSlot) : Bool := s.runPending && s.ctrl.runList.any (fun e => e.slot = m)

/-- R67, R112: the setpoint of an axis as its drive state gives it: the measured position while OFF, the enabling setpoint
while ENABLING, and else the one it last received (entry 31). -/
def currentSetpoint (s : State) (a : Axis) : Int :=
  match s.link.recs[a].drive with
  | .off => s.link.recs[a].measured
  | .enabling => (s.link.recs[a].enabling).getD s.link.recs[a].measured
  | .on => s.ctrl.setpoints[a]

/-- R63: the run entry numbered from 1. -/
def runEntry? (s : State) (n : Nat) : Option RunEntry := if n = 0 then none else s.ctrl.runList[n - 1]?

def currentEntry? (s : State) : Option RunEntry := s.runEntry? s.ctrl.entry

/-- R119, R183: the e-stop input is active while L1's filtered level is active. -/
def estopActive (s : State) : Bool := s.lines.filterL1.active

/-! ### Updates of one block -/

def setGen (s : State) (a : Axis) (g : GenRec) : State := { s with gen := { s.gen with recs := put s.gen.recs a g } }

def setLinkRec (s : State) (a : Axis) (l : LinkRec) : State := { s with link := { s.link with recs := put s.link.recs a l } }

def setLine (s : State) (l : Line) (r : RigLine) : State := { s with lines := { s.lines with lines := put s.lines.lines l r } }

end State

/-- R63: FORWARD when the end frame is above the start frame. -/
def entryDirection (e : RunEntry) : Direction := if e.startFrame < e.endFrame then .forward else .reverse

/-- R93: the whole frames of an entry. -/
def entryLength (e : RunEntry) : Nat := (e.endFrame - e.startFrame) + (e.startFrame - e.endFrame)

/-! ### Refused requests -/

/-- Why a request is refused: its status, and the further item its rule names (R197). -/
structure Refused where
  status : Status
  extra : List Byte
  deriving DecidableEq, Repr

/-- The outcome of a request's tests: refused, or what it goes on with. -/
abbrev Tested (α : Type) := Except Refused α

/-- A test that must give a value. -/
def need {α : Type} (st : Status) : Option α → Tested α
  | some x => .ok x
  | none => .error { status := st, extra := [] }

/-- A test that must hold. -/
def ensure (st : Status) (b : Bool) : Tested Unit := if b then .ok () else .error { status := st, extra := [] }

/-- A refused request changes nothing but the output queue, which gets its reply; an accepted one gives its next state. -/
def conclude (s : State) (kind tag : Byte) : Tested State → Answer
  | .ok t => .next t
  | .error r => .next (s.reply kind tag r.status r.extra)

end Sys2Proof.Machine
end

