-- ==== Sys2Proof/Machine/Bytes.lean ====
section
/-! DEFINITION. Byte order, field encodings and check sequences (R102, R109, R189, R197). -/

namespace Sys2Proof.Machine

/-! ### Writing fields (R197): most significant byte first, signed fields in two's complement -/

/-- The low n bytes of v, most significant first. -/
def beBytes : Nat → Nat → List Byte
  | 0, _ => []
  | n + 1, v => BitVec.ofNat 8 (v / 256 ^ n) :: beBytes n v

def u8 (v : Nat) : List Byte := beBytes 1 v
def u16 (v : Nat) : List Byte := beBytes 2 v
def u32 (v : Nat) : List Byte := beBytes 4 v

/-- A signed 32-bit field. -/
def i32 (z : Int) : List Byte := beBytes 4 (z % 4294967296).toNat

/-- A signed field of eight bytes, which R197 gives to a number whose range is not stated. A value beyond eight bytes has
bytes that the manual does not give: DESIGN CHOICE (entry 19). -/
def i64 (z : Int) : List Byte :=
  if -9223372036854775808 ≤ z ∧ z ≤ 9223372036854775807 then beBytes 8 (z % 18446744073709551616).toNat
  else beBytes 8 (Config.freeWide z).toNat

/-- An item that is yes or no, set or clear (R197, Flags). -/
def flag (b : Bool) : List Byte := [if b then 1 else 0]

/-- An item present in some cases: its presence byte, and the item when it is present (R197, Flags). -/
def optional {α : Type} (f : α → List Byte) : Option α → List Byte
  | none => [0]
  | some x => 1 :: f x

/-- A list preceded by its item count in two bytes (R197, Lists). -/
def counted {α : Type} (f : α → List Byte) (xs : List α) : List Byte := u16 xs.length ++ xs.flatMap f

/-- An axis mask: bit i stands for axis i (R197, Axes). -/
def maskOf (p : Axis → Bool) : Nat := (allAxes.filter p).foldl (fun m a => m + 2 ^ a.val) 0

/-- A list over a set of axes, preceded by the mask of the axes it covers (R197, Lists). -/
def overAxes (p : Axis → Bool) (f : Axis → List Byte) : List Byte := u16 (maskOf p) ++ (allAxes.filter p).flatMap f

/-! ### Reading fields -/

/-- The unsigned number that bytes spell, most significant first. -/
def beNat (bs : List Byte) : Nat := bs.foldl (fun n b => n * 256 + b.toNat) 0

/-- The next n bytes as an unsigned field. -/
def readNat (n : Nat) (bs : List Byte) : Option (Nat × List Byte) :=
  if n ≤ bs.length then some (beNat (bs.take n), bs.drop n) else none

/-- The next four bytes as a signed field. -/
def readI32 (bs : List Byte) : Option (Int × List Byte) :=
  match readNat 4 bs with
  | some (n, rest) => some (if n < 2147483648 then (n : Int) else (n : Int) - 4294967296, rest)
  | none => none

/-- A presence byte and the item that follows it when it is 1; any other value than 0 and 1 fits no layout (entry 15). -/
def readOptional {α : Type} (f : List Byte → Option (α × List Byte)) : List Byte → Option (Option α × List Byte)
  | [] => none
  | b :: rest =>
    if b = 0 then some (none, rest)
    else if b = 1 then
      match f rest with
      | some (x, rest') => some (some x, rest')
      | none => none
    else none

/-- Items laid one after another up to the end of the bytes; `fuel` bounds their number. -/
def readAll {α : Type} (f : List Byte → Option (α × List Byte)) : Nat → List Byte → Option (List α)
  | _, [] => some []
  | 0, _ :: _ => none
  | fuel + 1, bs =>
    match f bs with
    | some (x, rest) =>
      match readAll f fuel rest with
      | some xs => some (x :: xs)
      | none => none
    | none => none

/-- Items laid one after another, `n` of them, with what follows. -/
def readMany {α : Type} (f : List Byte → Option (α × List Byte)) : Nat → List Byte → Option (List α × List Byte)
  | 0, bs => some ([], bs)
  | n + 1, bs =>
    match f bs with
    | some (x, rest) =>
      match readMany f n rest with
      | some (xs, rest') => some (x :: xs, rest')
      | none => none
    | none => none

/-- A value once the body has ended, and none when bytes are left over (R191). -/
def atEnd {α : Type} (x : α) (rest : List Byte) : Option α := if rest = [] then some x else none

/-! ### Check sequences -/

/-- One bit into the 16-bit register of R189: generator x¹⁶ + x¹² + x⁵ + 1. -/
def crc16Bit (r : BitVec 16) (b : Bool) : BitVec 16 :=
  if r.msb ^^ b then (r <<< 1) ^^^ 0x1021#16 else r <<< 1

/-- R189: each byte most significant bit first. -/
def crc16Byte (r : BitVec 16) (b : Byte) : BitVec 16 :=
  [7, 6, 5, 4, 3, 2, 1, 0].foldl (fun r i => crc16Bit r (b.getLsbD i)) r

/-- R189: the register starts at all ones and there is no final inversion. -/
def crc16 (bs : List Byte) : BitVec 16 := bs.foldl crc16Byte 0xFFFF#16

/-- One bit into the 32-bit register of R102. -/
def crc32Bit (r : BitVec 32) (b : Bool) : BitVec 32 :=
  if r.msb ^^ b then (r <<< 1) ^^^ 0x04C11DB7#32 else r <<< 1

/-- R102: each byte least significant bit first. -/
def crc32Byte (r : BitVec 32) (b : Byte) : BitVec 32 :=
  [0, 1, 2, 3, 4, 5, 6, 7].foldl (fun r i => crc32Bit r (b.getLsbD i)) r

/-- R102: the register starts at all ones; at the end its bit order is reversed and every bit inverted. -/
def crc32 (bs : List Byte) : BitVec 32 := ~~~(bs.foldl crc32Byte 0xFFFFFFFF#32).reverse

/-! ### Frames of the console link (Table 11-1) -/

/-- The start byte C3h (R189). -/
def startByte : Byte := 0xC3

/-- The bytes of a frame: start byte, length, kind, tag, body and check sequence. -/
def frameBytes (kind tag : Byte) (body : List Byte) : List Byte :=
  let inner : List Byte := u16 (body.length + 2) ++ (kind :: tag :: body)
  startByte :: (inner ++ u16 (crc16 inner).toNat)

/-! ### Frames of the axis link (R198) -/

/-- An axis-link frame: its fields and their check sequence (R109). -/
def linkFrame (fields : List Byte) : List Byte := fields ++ u16 (crc16 fields).toNat

/-- R198: the setpoint frame. -/
def setpointFrame (a : Axis) (setpoint : Int) (enable : Bool) : List Byte :=
  linkFrame (u8 a.val ++ [0x00#8] ++ i32 setpoint ++ flag enable)

/-- R198: the acyclic frame. -/
def acyclicFrame (t : Acyclic) : List Byte :=
  linkFrame (u8 t.axis.val ++ [0x01#8] ++ [t.index] ++ flag (t.op = .write) ++ u32 t.value.toNat)

/-- What a good setpoint reply carries (R109). -/
structure SetpointReply where
  measured : Int
  flags : DriveFlags
  deriving DecidableEq, Repr

/-- What a good acyclic reply carries (R110). -/
structure AcyclicReply where
  done : Bool
  value : BitVec 32
  deriving DecidableEq, Repr

/-- R109, R198: the status byte of a setpoint reply. -/
def driveFlagsOf (b : Byte) : DriveFlags :=
  { ready := b.getLsbD 0, fault := b.getLsbD 1, limitPos := b.getLsbD 2, limitNeg := b.getLsbD 3 }

/-- R109, R198: the reply of axis a to a setpoint frame, when its length, address, kind and check sequence are right. Bits
7 to 4 of the status byte are passed over (entry 34). -/
def goodSetpointReply (a : Axis) (bytes : List Byte) : Option SetpointReply :=
  match bytes with
  | [addr, kind, p3, p2, p1, p0, st, c1, c0] =>
    if addr.toNat = a.val && kind = 0x80 &&
        beNat [c1, c0] = (crc16 [addr, kind, p3, p2, p1, p0, st]).toNat then
      match readI32 [p3, p2, p1, p0] with
      | some (m, _) => some { measured := m, flags := driveFlagsOf st }
      | none => none
    else none
  | _ => none

/-- R109, R198: the reply of axis a to an acyclic frame. A result that is neither DONE nor REFUSED makes no good reply
(entry 34). -/
def goodAcyclicReply (a : Axis) (bytes : List Byte) : Option AcyclicReply :=
  match bytes with
  | [addr, kind, res, v3, v2, v1, v0, c1, c0] =>
    if addr.toNat = a.val && kind = 0x81 && res.toNat < 2 &&
        beNat [c1, c0] = (crc16 [addr, kind, res, v3, v2, v1, v0]).toNat then
      some { done := res = 0, value := BitVec.ofNat 32 (beNat [v3, v2, v1, v0]) }
    else none
  | _ => none

end Sys2Proof.Machine
end

