-- ==== Sys2Proof/Machine/Operands.lean ====
section
/-! DEFINITION. The operand forms: what each request's body lays out (R197) and the named values its bytes stand for.
A reader answers none when the body does not fit the layout, which is the form test (BAD_FORM, R191). Ranges are tested by
the meanings. -/

namespace Sys2Proof.Machine

/-! ### Numbers that name things -/

/-- R5: move slots are numbered 1 to 32. -/
def moveSlotOf (n : Nat) : Option MoveSlot := if h : 1 ≤ n ∧ n ≤ 32 then some ⟨n - 1, by omega⟩ else none

/-- R5: axes are numbered 0 to 15. -/
def axisOf (n : Nat) : Option Axis := if h : n < 16 then some ⟨n, h⟩ else none

/-- R169: wheels are numbered 0 to 3. -/
def wheelOf (n : Nat) : Option Wheel := if h : n < 4 then some ⟨n, h⟩ else none

/-- R180: lines are numbered 0 to 11. -/
def lineOf (n : Nat) : Option Line := if h : n < 12 then some ⟨n, h⟩ else none

/-- R146: pass slots are numbered 1 to 4. -/
def passSlotOf (n : Nat) : Option PassSlot := if h : 1 ≤ n ∧ n ≤ 4 then some ⟨n - 1, by omega⟩ else none

/-- A yes-or-no byte: a value other than 0 and 1 has no meaning (entry 15). -/
def boolOf (n : Nat) : Option Bool := if n = 0 then some false else if n = 1 then some true else none

/-! ### Named values by their place in the first list that gives them (R197) -/

def segmentOf (n : Nat) : Option Segment :=
  match n with | 0 => some .step | 1 => some .linear | 2 => some .smooth | _ => none

def syncOf (n : Nat) : Option SyncMode :=
  match n with | 0 => some .free | 1 => some .master | 2 => some .follower | _ => none

def passKindOf (n : Nat) : Option PassKind := match n with | 0 => some .play | 1 => some .capture | _ => none

def acyclicOpOf (n : Nat) : Option AcyclicOp := match n with | 0 => some .read | 1 => some .write | _ => none

def monModeOf (n : Nat) : Option MonMode :=
  match n with | 0 => some .latched | 1 => some .selfClearing | 2 => some .reportOnly | 3 => some .off | _ => none

def actionOf (n : Nat) : Option Action :=
  match n with | 0 => some .axisHalt | 1 => some .pathStop | 2 => some .driveOff | _ => none

def lineModeOf (n : Nat) : Option LineMode := match n with | 0 => some .input | 1 => some .output | _ => none

def cueKindsOf (n : Nat) : Option CueKinds :=
  match n with | 0 => some .play | 1 => some .capture | 2 => some .both | _ => none

/-- Table 10-1, Table 10-2: NONE, CAMERA, ESTOP_IN, GO_IN, HOLD_IN; whether the line's own function is selected, and none
for a function the line has not. -/
def lineFunctionOf (l : Line) (n : Nat) : Option Bool :=
  if n = 0 then some false else if n ≤ 4 ∧ l.val + 1 = n then some true else none

/-! ### Short bodies -/

/-- A request that carries no fields. -/
def noFields (body : List Byte) : Option Unit := atEnd () body

/-- One byte. -/
def oneByte : List Byte → Option Nat
  | [a] => some a.toNat
  | _ => none

/-- Two bytes. -/
def twoBytes : List Byte → Option (Nat × Nat)
  | [a, b] => some (a.toNat, b.toNat)
  | _ => none

/-- A two-byte field alone: an axis mask. -/
def oneMask : List Byte → Option Nat
  | [a, b] => some (beNat [a, b])
  | _ => none

/-! ### Move store requests -/

/-- MOVE_CREATE: slot and name (R6). -/
def moveCreateOperands : List Byte → Option (Nat × List Byte)
  | slot :: count :: chars => if chars.length = count.toNat then some (slot.toNat, chars) else none
  | _ => none

/-- A key record as its bytes carry it (Table 11-2); the mode bit fixes its size. -/
structure RawKey where
  time : Nat
  value : Int
  shape : Byte
  tangents : Tangents
  deriving DecidableEq, Repr

def readKey (bs : List Byte) : Option (RawKey × List Byte) :=
  match readNat 4 bs with
  | none => none
  | some (time, bs1) =>
    match readI32 bs1 with
    | none => none
    | some (_, []) => none
    | some (value, shape :: bs2) =>
      if shape.getLsbD 2 then
        match readI32 bs2 with
        | none => none
        | some (inT, bs3) =>
          match readI32 bs3 with
          | none => none
          | some (outT, bs4) => some ({ time, value, shape, tangents := .set inT outT }, bs4)
      else some ({ time, value, shape, tangents := .auto }, bs2)

/-- The key a record stands for, when its segment has a meaning and bits 7 to 3 are zero (Table 11-2, 11.6). -/
def keyOfRaw (r : RawKey) : Option Key :=
  if r.shape.toNat < 8 then
    match segmentOf (r.shape.toNat % 4) with
    | some seg => some { time := r.time, value := r.value, segment := seg, tangents := r.tangents }
    | none => none
  else none

/-- Every record's key. -/
def keysOfRaw : List RawKey → Option (List Key)
  | [] => some []
  | r :: rs =>
    match keyOfRaw r, keysOfRaw rs with
    | some k, some ks => some (k :: ks)
    | _, _ => none

structure TrackWriteOperands where
  slot : Nat
  axis : Nat
  mode : Nat
  keys : List RawKey
  deriving DecidableEq, Repr

/-- TRACK_WRITE: slot, axis, mode, declared count of 1 to 64, and as many keys (R9). -/
def trackWriteOperands : List Byte → Option TrackWriteOperands
  | slot :: axis :: mode :: c1 :: c0 :: rest =>
    match readAll readKey rest.length rest with
    | some keys =>
      if 1 ≤ beNat [c1, c0] ∧ beNat [c1, c0] ≤ 64 ∧ keys.length = beNat [c1, c0] then
        some { slot := slot.toNat, axis := axis.toNat, mode := mode.toNat, keys }
      else none
    | none => none
  | _ => none

structure TrackReadOperands where
  slot : Nat
  axis : Nat
  start : Nat
  count : Nat
  deriving DecidableEq, Repr

/-- TRACK_READ: slot, axis, start index, count (R11). -/
def trackReadOperands : List Byte → Option TrackReadOperands
  | [slot, axis, s1, s0, count] =>
    some { slot := slot.toNat, axis := axis.toNat, start := beNat [s1, s0], count := count.toNat }
  | _ => none

structure TrackCopyOperands where
  fromSlot : Nat
  fromAxis : Nat
  toSlot : Nat
  toAxis : Nat
  deriving DecidableEq, Repr

/-- TRACK_COPY: source and destination (R13). -/
def trackCopyOperands : List Byte → Option TrackCopyOperands
  | [a, b, c, d] => some { fromSlot := a.toNat, fromAxis := b.toNat, toSlot := c.toNat, toAxis := d.toNat }
  | _ => none

structure TrackShiftOperands where
  slot : Nat
  axis : Nat
  time : Int
  value : Int
  deriving DecidableEq, Repr

/-- TRACK_SHIFT: slot, axis, time offset, value offset (R14). -/
def trackShiftOperands : List Byte → Option TrackShiftOperands
  | slot :: axis :: rest =>
    match readI32 rest with
    | some (time, rest1) =>
      match readI32 rest1 with
      | some (value, rest2) => atEnd { slot := slot.toNat, axis := axis.toNat, time, value } rest2
      | none => none
    | none => none
  | _ => none

structure KeyEditOperands where
  slot : Nat
  axis : Nat
  index : Nat
  key : RawKey
  deriving DecidableEq, Repr

/-- KEY_EDIT: slot, axis, index and a whole key record (R15). -/
def keyEditOperands : List Byte → Option KeyEditOperands
  | slot :: axis :: i1 :: i0 :: rest =>
    match readKey rest with
    | some (key, rest1) => atEnd { slot := slot.toNat, axis := axis.toNat, index := beNat [i1, i0], key } rest1
    | none => none
  | _ => none

structure KeyInsertOperands where
  slot : Nat
  axis : Nat
  key : RawKey
  deriving DecidableEq, Repr

/-- KEY_INSERT: slot, axis and a key record (R16). -/
def keyInsertOperands : List Byte → Option KeyInsertOperands
  | slot :: axis :: rest =>
    match readKey rest with
    | some (key, rest1) => atEnd { slot := slot.toNat, axis := axis.toNat, key } rest1
    | none => none
  | _ => none

structure KeyDeleteOperands where
  slot : Nat
  axis : Nat
  index : Nat
  deriving DecidableEq, Repr

/-- KEY_DELETE: slot, axis and index (R17). -/
def keyDeleteOperands : List Byte → Option KeyDeleteOperands
  | [slot, axis, i1, i0] => some { slot := slot.toNat, axis := axis.toNat, index := beNat [i1, i0] }
  | _ => none

/-! ### Axis table requests -/

structure AxisSetOperands where
  axis : Nat
  configured : Nat
  softMin : Int
  softMax : Int
  origin : Int
  velLimit : Nat
  accLimit : Nat
  jogVel : Nat
  jogAcc : Nat
  window : Nat
  deriving DecidableEq, Repr

/-- AXIS_SET: the axis and the fields of Table 2-1 in its order (R26). -/
def axisSetOperands : List Byte → Option AxisSetOperands
  | axis :: conf :: b0 =>
    match readI32 b0 with
    | none => none
    | some (softMin, b1) =>
    match readI32 b1 with
    | none => none
    | some (softMax, b2) =>
    match readI32 b2 with
    | none => none
    | some (origin, b3) =>
    match readNat 4 b3 with
    | none => none
    | some (velLimit, b4) =>
    match readNat 4 b4 with
    | none => none
    | some (accLimit, b5) =>
    match readNat 4 b5 with
    | none => none
    | some (jogVel, b6) =>
    match readNat 4 b6 with
    | none => none
    | some (jogAcc, b7) =>
    match readNat 2 b7 with
    | none => none
    | some (window, b8) =>
      atEnd { axis := axis.toNat, configured := conf.toNat, softMin, softMax, origin, velLimit, accLimit, jogVel, jogAcc
              window } b8
  | _ => none

/-- A map entry: input and output (R30). -/
def readMapEntry (bs : List Byte) : Option ((Int × Int) × List Byte) :=
  match readI32 bs with
  | none => none
  | some (i, bs1) =>
    match readI32 bs1 with
    | none => none
    | some (o, bs2) => some ((i, o), bs2)

/-- MAP_LOAD: axis, declared count of 2 to 64, and as many entries (R31). -/
def mapLoadOperands : List Byte → Option (Nat × LensMap)
  | axis :: c1 :: c0 :: rest =>
    match readAll readMapEntry rest.length rest with
    | some entries =>
      if 2 ≤ beNat [c1, c0] ∧ beNat [c1, c0] ≤ 64 ∧ entries.length = beNat [c1, c0] then some (axis.toNat, entries) else none
    | none => none
  | _ => none

structure EvalProbeOperands where
  slot : Nat
  axis : Nat
  time : Nat
  deriving DecidableEq, Repr

/-- EVAL_PROBE: slot, axis and move time (R42). -/
def evalProbeOperands : List Byte → Option EvalProbeOperands
  | [slot, axis, t3, t2, t1, t0] => some { slot := slot.toNat, axis := axis.toNat, time := beNat [t3, t2, t1, t0] }
  | _ => none

/-! ### Clock requests -/

structure ClockSetOperands where
  sync : Nat
  frameRate : Nat
  servoRate : Nat
  trigWidth : Nat
  holdRamp : Nat
  resumeRamp : Nat
  faultRamp : Nat
  deriving DecidableEq, Repr

/-- CLOCK_SET: the seven settings in the order of Table 3-1 (R45). -/
def clockSetOperands : List Byte → Option ClockSetOperands
  | [m, f3, f2, f1, f0, r1, r0, w, h1, h0, u1, u0, g1, g0] =>
    some { sync := m.toNat, frameRate := beNat [f3, f2, f1, f0], servoRate := beNat [r1, r0], trigWidth := w.toNat
           holdRamp := beNat [h1, h0], resumeRamp := beNat [u1, u0], faultRamp := beNat [g1, g0] }
  | _ => none

/-! ### Run controller requests -/

structure RawEntry where
  slot : Nat
  startFrame : Nat
  endFrame : Nat
  speed : Nat
  hold : Nat
  deriving DecidableEq, Repr

/-- A run entry (Table 11-3). -/
def readEntry : List Byte → Option (RawEntry × List Byte)
  | slot :: a1 :: a0 :: e1 :: e0 :: s1 :: s0 :: h :: rest =>
    some ({ slot := slot.toNat, startFrame := beNat [a1, a0], endFrame := beNat [e1, e0], speed := beNat [s1, s0]
            hold := h.toNat }, rest)
  | _ => none

/-- The run entry a record stands for when every field is in its range (R64, test 2; Table 11-3). -/
def entryOfRaw (r : RawEntry) : Option RunEntry :=
  match moveSlotOf r.slot, boolOf r.hold with
  | some slot, some hold =>
    if 1 ≤ r.speed ∧ r.speed ≤ 1000 ∧ r.startFrame ≠ r.endFrame then
      some { slot, startFrame := r.startFrame, endFrame := r.endFrame, speed := r.speed, holdAtEnd := hold }
    else none
  | _, _ => none

def entriesOfRaw : List RawEntry → Option (List RunEntry)
  | [] => some []
  | r :: rs =>
    match entryOfRaw r, entriesOfRaw rs with
    | some e, some es => some (e :: es)
    | _, _ => none

/-- TAKE_LOAD: declared count of 1 to 20 and as many entries (R64). -/
def takeLoadOperands : List Byte → Option (List RawEntry)
  | c1 :: c0 :: rest =>
    match readAll readEntry rest.length rest with
    | some entries =>
      if 1 ≤ beNat [c1, c0] ∧ beNat [c1, c0] ≤ 20 ∧ entries.length = beNat [c1, c0] then some entries else none
    | none => none
  | _ => none

/-! ### Motion generator requests -/

/-- JOG: axis and velocity (R167). -/
def jogOperands : List Byte → Option (Nat × Int)
  | axis :: rest =>
    match readI32 rest with
    | some (v, rest1) => atEnd (axis.toNat, v) rest1
    | none => none
  | _ => none

/-- A wheel and a ratio (R170). -/
def readWheelRatio : List Byte → Option ((Nat × Int) × List Byte)
  | wheel :: rest =>
    match readI32 rest with
    | some (r, rest1) => some ((wheel.toNat, r), rest1)
    | none => none
  | _ => none

/-- JOG_BIND: axis, and a wheel with its ratio or NONE (R170; entry 16). -/
def jogBindOperands : List Byte → Option (Nat × Option (Nat × Int))
  | axis :: rest =>
    match readOptional readWheelRatio rest with
    | some (b, rest1) => atEnd (axis.toNat, b) rest1
    | none => none
  | _ => none

structure RawBinding where
  axis : Nat
  wheel : Nat
  ratio : Int
  deriving DecidableEq, Repr

/-- A capture binding: axis, wheel, ratio (R172). -/
def readBinding : List Byte → Option (RawBinding × List Byte)
  | axis :: wheel :: rest =>
    match readI32 rest with
    | some (ratio, rest1) => some ({ axis := axis.toNat, wheel := wheel.toNat, ratio }, rest1)
    | none => none
  | _ => none

def bindingOfRaw (r : RawBinding) : Option Binding :=
  match axisOf r.axis, wheelOf r.wheel with
  | some axis, some wheel => some { axis, wheel, ratio := r.ratio }
  | _, _ => none

def bindingsOfRaw : List RawBinding → Option (List Binding)
  | [] => some []
  | r :: rs =>
    match bindingOfRaw r, bindingsOfRaw rs with
    | some b, some bs => some (b :: bs)
    | _, _ => none

/-- CAPTURE_SET: declared count of 0 to 4, as many bindings, and the stride (R172). -/
def captureSetOperands : List Byte → Option (List RawBinding × Nat)
  | c1 :: c0 :: rest =>
    if beNat [c1, c0] ≤ 4 then
      match readMany readBinding (beNat [c1, c0]) rest with
      | some (bs, [stride]) => some (bs, stride.toNat)
      | _ => none
    else none
  | _ => none

/-! ### Axis link requests -/

structure DrivePassOperands where
  axis : Nat
  index : Byte
  op : Nat
  value : BitVec 32
  deriving DecidableEq, Repr

/-- DRIVE_PASS: axis, parameter index, operation, value (R120). -/
def drivePassOperands : List Byte → Option DrivePassOperands
  | [axis, index, op, v3, v2, v1, v0] =>
    some { axis := axis.toNat, index, op := op.toNat, value := BitVec.ofNat 32 (beNat [v3, v2, v1, v0]) }
  | _ => none

/-! ### Monitor requests -/

/-- Whether a monitor of Table 7-2's list measures a quantity against a threshold (Table 7-1). -/
def hasThreshold (name : Nat) : Bool := name = 0 || name = 1 || name = 4 || name = 5 || name = 8

/-- Only FOLLOW has blanking (Table 7-1). -/
def hasBlanking (name : Nat) : Bool := name = 0

/-- The first six monitors of Table 7-2 are per axis. -/
def isPerAxis (name : Nat) : Bool := name < 6

/-- The bytes of a threshold: the fewest that hold its stated range (R197; Table 7-1). -/
def thresholdSize (name : Nat) : Nat := if name = 4 then 1 else if name = 8 then 2 else 4

/-- Whether a threshold lies in its range of Table 7-1. -/
def thresholdInRange (name t : Nat) : Bool :=
  match name with
  | 0 | 5 => t ≤ 2147483647
  | 1 => 1 ≤ t && t ≤ 2147483647
  | 4 => 1 ≤ t && t ≤ 15
  | 8 => 256 ≤ t && t ≤ 32768
  | _ => t = 0

structure MonitorSetOperands where
  name : Nat
  mask : Option Nat
  mode : Nat
  action : Nat
  threshold : Option Nat
  deglitch : Nat
  blanking : Option Nat
  deriving DecidableEq, Repr

/-- MONITOR_SET: name, axis mask for a per-axis monitor, and the settings in the order of Table 7-1, each setting the monitor
has and no other (R127). A name that is none of the nine has no layout and is left to the range test (entry 29). -/
def monitorSetOperands : List Byte → Option MonitorSetOperands
  | [] => none
  | name :: b0 =>
    if 9 ≤ name.toNat then
      some { name := name.toNat, mask := none, mode := 0, action := 0, threshold := none, deglitch := 0, blanking := none }
    else
      match readOptional (readNat 2) b0 with
      | none | some (_, []) | some (_, [_]) => none
      | some (mask, mode :: action :: b1) =>
      match readOptional (readNat (thresholdSize name.toNat)) b1 with
      | none | some (_, []) => none
      | some (threshold, deglitch :: b2) =>
      match readOptional (readNat 2) b2 with
      | none | some (_, _ :: _) => none
      | some (blanking, []) =>
        if mask.isSome = isPerAxis name.toNat ∧ threshold.isSome = hasThreshold name.toNat ∧
            blanking.isSome = hasBlanking name.toNat then
          some { name := name.toNat, mask, mode := mode.toNat, action := action.toNat, threshold, deglitch := deglitch.toNat
                 blanking }
        else none

/-- MONITOR_GET: a monitor name, or none for every monitor (R129; entry 16). -/
def monitorGetOperands (body : List Byte) : Option (Option Nat) :=
  match readOptional (readNat 1) body with
  | some (name, rest) => atEnd name rest
  | none => none

/-! ### Pass log requests -/

/-- LOG_REFERENCE: a slot number or none (R155; entry 16). -/
def logReferenceOperands (body : List Byte) : Option (Option Nat) :=
  match readOptional (readNat 1) body with
  | some (slot, rest) => atEnd slot rest
  | none => none

structure LogReadOperands where
  slot : Nat
  first : Nat
  count : Nat
  mask : Nat
  deriving DecidableEq, Repr

/-- LOG_READ: slot, first pass frame, count, axis mask (R158). -/
def logReadOperands : List Byte → Option LogReadOperands
  | [slot, f1, f0, count, m1, m0] =>
    some { slot := slot.toNat, first := beNat [f1, f0], count := count.toNat, mask := beNat [m1, m0] }
  | _ => none

/-- REPORT_SET: interval and axis mask (R194). -/
def reportSetOperands : List Byte → Option (Nat × Nat)
  | [n, m1, m0] => some (n.toNat, beNat [m1, m0])
  | _ => none

/-! ### Line and cue requests -/

structure LineSetOperands where
  line : Nat
  mode : Nat
  latch : Nat
  function : Nat
  deriving DecidableEq, Repr

/-- LINE_SET: line, mode, latch, function (R180). -/
def lineSetOperands : List Byte → Option LineSetOperands
  | [l, m, v, f] => some { line := l.toNat, mode := m.toNat, latch := v.toNat, function := f.toNat }
  | _ => none

structure RawCue where
  passFrame : Nat
  line : Nat
  action : Nat
  width : Option Nat
  kinds : Nat
  deriving DecidableEq, Repr

/-- A cue entry: pass frame, line, action, width for PULSE only, kinds (R185). A width that does not go with the action fits
no layout; an action without a name is left to the range test. -/
def readCue : List Byte → Option (RawCue × List Byte)
  | f1 :: f0 :: line :: action :: rest =>
    match readOptional (readNat 1) rest with
    | none | some (_, []) => none
    | some (width, kinds :: rest1) =>
      if action.toNat ≤ 2 ∧ width.isSome ≠ decide (action.toNat = 2) then none
      else some ({ passFrame := beNat [f1, f0], line := line.toNat, action := action.toNat, width, kinds := kinds.toNat },
                 rest1)
  | _ => none

/-- The cue a record stands for when every field is in its range (R185). -/
def cueOfRaw (r : RawCue) : Option Cue :=
  match lineOf r.line, cueKindsOf r.kinds with
  | some line, some kinds =>
    if 4 ≤ line.val then
      match r.action, r.width with
      | 0, none => some { passFrame := r.passFrame, line, action := .set, kinds }
      | 1, none => some { passFrame := r.passFrame, line, action := .clear, kinds }
      | 2, some w => if 1 ≤ w ∧ w ≤ 255 then some { passFrame := r.passFrame, line, action := .pulse w, kinds } else none
      | _, _ => none
    else none
  | _, _ => none

def cuesOfRaw : List RawCue → Option (List Cue)
  | [] => some []
  | r :: rs =>
    match cueOfRaw r, cuesOfRaw rs with
    | some c, some cs => some (c :: cs)
    | _, _ => none

/-- CUE_LOAD: declared count of 0 to 64 and as many entries (R185). -/
def cueLoadOperands : List Byte → Option (List RawCue)
  | c1 :: c0 :: rest =>
    match readAll readCue rest.length rest with
    | some cues => if beNat [c1, c0] ≤ 64 ∧ cues.length = beNat [c1, c0] then some cues else none
    | none => none
  | _ => none

end Sys2Proof.Machine
end

