-- ==== Sys2Proof/Machine/Clock.lean ====
section
/-! DEFINITION. The move clock: its settings (R44 to R46), its ramps (R51 to R53), its stops (R54), the advance of one servo
period (R49, R50, R55, R56), the starts of R48, R52, R56 and the follower lock (R59 to R62). -/

namespace Sys2Proof.Machine

/-! ### Settings -/

/-- R44: T in microseconds for a servo rate. -/
def periodOf (servoRate : Nat) : Nat := 1000000 / servoRate

/-- R108: the slots of 25 microseconds in a period of T. -/
def slotsOf (period : Nat) : Nat := period / 25

/-- R45, test 5: the whole servo periods in one frame at full speed. -/
def periodsPerFrame (frameRate servoRate : Nat) : Nat := 1000000000 / (frameRate * periodOf servoRate)

/-- The settings a CLOCK_SET carries, when each is in its range (R45, test 2). -/
def settingsOf (o : ClockSetOperands) : Option ClockSettings :=
  match syncOf o.sync with
  | none => none
  | some sync =>
    if 1000 ≤ o.frameRate ∧ o.frameRate ≤ 250000 ∧ (o.servoRate = 1000 ∨ o.servoRate = 2000 ∨ o.servoRate = 4000) ∧
        1 ≤ o.trigWidth ∧ o.trigWidth ≤ 8 ∧ 1 ≤ o.holdRamp ∧ o.holdRamp ≤ 65535 ∧ 1 ≤ o.resumeRamp ∧
        o.resumeRamp ≤ 65535 ∧ 1 ≤ o.faultRamp ∧ o.faultRamp ≤ 65535 then
      some { sync, frameRate := o.frameRate, servoRate := o.servoRate, trigWidth := o.trigWidth, holdRamp := o.holdRamp
             resumeRamp := o.resumeRamp, faultRamp := o.faultRamp }
    else none

def syncNumber : SyncMode → Nat
  | .free => 0
  | .master => 1
  | .follower => 2

/-- The seven settings in the order of Table 3-1. -/
def settingsBytes (c : ClockSettings) : List Byte :=
  u8 (syncNumber c.sync) ++ u32 c.frameRate ++ u16 c.servoRate ++ u8 c.trigWidth ++ u16 c.holdRamp ++ u16 c.resumeRamp ++
    u16 c.faultRamp

/-- R45, test 5. -/
def triggerFits (c : ClockSettings) : Bool :=
  !(c.sync = .master) || c.trigWidth < periodsPerFrame c.frameRate c.servoRate

/-- R45. -/
def clockSet (tag : Byte) (body : List Byte) (s : State) : Tested State := do
  let o ← need .badForm (clockSetOperands body)
  let cfg ← need .badValue (settingsOf o)
  ensure .inUse !s.runPending
  ensure .badValue (s.configuredAxes.length ≤ slotsOf (periodOf cfg.servoRate))
  ensure .badValue (triggerFits cfg)
  let t : State := { s with clock := { s.clock with cfg } }
  pure (t.reply Kind.clockSet tag .ok (settingsBytes cfg))

/-- R46. -/
def clockGet (tag : Byte) (body : List Byte) (s : State) : Tested State := do
  need .badForm (noFields body)
  pure (s.reply Kind.clockGet tag .ok (settingsBytes s.clock.cfg))

/-! ### Speeds and ramps -/

/-- R48, R52, R59: the target effective speed of an entry: its speed × 1,000, and full speed in FOLLOWER mode. -/
def targetSpeed (cfg : ClockSettings) (e : RunEntry) : Nat := if cfg.sync = .follower then 1000000 else e.speed * 1000

/-- R51: the decrement of a ramp of n periods from speed e. -/
def rampDecrement (e n : Nat) : Nat := ceilDiv e n

/-- R53: the decrement of a down ramp under way, or 0. -/
def currentDecrement : Ramp → Nat
  | .down _ d => d
  | _ => 0

/-- R62: the follower lock is released, the camera-lost timer stopped and c set to 0. A loss that no pulse has followed stays marked
(R59, R61; entry 25). -/
def releaseLock (c : Clock) : Clock := { c with lock := none, lostTimer := none, budget := 0 }

/-- R51: a hold ramp. -/
def startHoldRamp (c : Clock) : Clock :=
  { releaseLock c with ramp := .down .hold (rampDecrement c.speed c.cfg.holdRamp) }

/-- R51, R53: a stop ramp; a hold ramp under way goes on as a stop with its decrement. -/
def startStopRamp (c : Clock) : Clock :=
  match c.ramp with
  | .down .hold d => { releaseLock c with ramp := .down .stop d }
  | _ => { releaseLock c with ramp := .down .stop (rampDecrement c.speed c.cfg.holdRamp) }

/-- R51, R53: a fault ramp, never slower than the down ramp under way. -/
def startFaultRamp (c : Clock) : Clock :=
  { releaseLock c with
    ramp := .down .fault (max (currentDecrement c.ramp) (rampDecrement c.speed c.cfg.faultRamp)) }

/-- R52: an up ramp from the present speed toward a target. -/
def startUpRamp (c : Clock) (target : Nat) : Clock :=
  { c with state := .advancing, ramp := .up target (ceilDiv target c.cfg.resumeRamp) }

/-- R54: the clock is STOPPED with e at 0 and no ramp; move time, E and the pass frame count keep their values. -/
def stopClock (c : Clock) : Clock := { releaseLock c with state := .stopped, speed := 0, ramp := .none }

/-- R51: the clock after a hold ramp. -/
def restClock (c : Clock) : Clock := { c with state := .atRest, speed := 0, ramp := .none }

/-- R54: the reset values of Table 3-2; the settings and the period in force are kept. -/
def resetClock (c : Clock) : Clock := { Clock.reset with cfg := c.cfg, period := c.period }

/-! ### Starts -/

/-- R61: the time the camera-lost timer measures, in microseconds. -/
def lostTime (cfg : ClockSettings) : Nat := 1500000000 / cfg.frameRate

/-- R48: the clock at GO from ARMED. -/
def startPassClock (c : Clock) (e : RunEntry) : Clock :=
  let c0 : Clock :=
    { c with
      time := e.startFrame * subframes, dir := entryDirection e, travel := 0, passFrame := 0, rem := 0, budget := 0
      ramp := .none, lock := none, lost := false }
  match c.cfg.sync with
  | .free => { c0 with state := .advancing, speed := targetSpeed c.cfg e, lostTimer := none }
  | .master =>
    { c0 with state := .advancing, speed := targetSpeed c.cfg e, lostTimer := none, trigger := some c.cfg.trigWidth }
  | .follower => { c0 with state := .waiting, speed := 0, lostTimer := some (lostTime c.cfg) }

/-- R56: the clock at GO after a landing, into the next entry. -/
def startEntryClock (c : Clock) (e : RunEntry) : Clock :=
  let c0 := { c with time := e.startFrame * subframes, dir := entryDirection e, rem := 0, speed := 0, ramp := .none }
  match c.cfg.sync with
  | .follower => { c0 with state := .waiting, lostTimer := some (lostTime c.cfg) }
  | _ => startUpRamp c0 (targetSpeed c.cfg e)

/-- R82: the clock as a return record takes it. -/
def restoreClock (c : Clock) (r : ReturnRec) : Clock :=
  { c with
    state := .atRest, time := r.time, dir := r.dir, travel := r.travel, passFrame := r.passFrame, rem := r.rem
    speed := r.speed, ramp := .none }

/-! ### The advance of one servo period -/

/-- R49, stage 2: N for a speed e. -/
def nominal (cfg : ClockSettings) (period e : Nat) : Nat := cfg.frameRate * e * period * 65536

/-- R49, stage 1: the ramp step. With no ramp e stands at the entry's target, which it takes after a carry (R55). -/
def rampStep (c : Clock) (target : Nat) : Clock :=
  match c.ramp with
  | .none => { c with speed := target }
  | .up t step =>
    let e := min (c.speed + step) t
    { c with speed := e, ramp := if e = t then .none else .up t step }
  | .down _ d => { c with speed := c.speed - d }

/-- R60: b, the bound of the trim. -/
def trimBound (cfg : ClockSettings) (period : Nat) : Nat := nominal cfg period 1000000 / 1000000000000000 / 8

/-- R60: the trim, c clamped to ± b. -/
def trimOf (c : Clock) : Int :=
  let b : Int := trimBound c.cfg c.period
  max (-b) (min b c.budget)

/-- R49, stages 2 and 3: the increment of the period, with the clock whose remainder and budget it leaves. -/
def takeIncrement (c : Clock) : Clock × Nat :=
  let n := nominal c.cfg c.period c.speed + c.rem
  let i := n / 1000000000000000
  let c1 := { c with rem := n % 1000000000000000 }
  if c.cfg.sync = .follower ∧ c.lock.isSome then
    let trim := trimOf c
    ({ c1 with budget := c.budget - trim }, ((i : Int) + trim).toNat)
  else (c1, i)

/-- What an advance tells the run controller (R49, stage 6). -/
structure HandOver where
  /-- the index of the current entry -/
  entry : Nat
  /-- the entry to which the hand-over's move time belongs rose by one: a carry (R55) -/
  carried : Bool
  /-- a landing: "entry end reached" (R56) -/
  landed : Bool
  /-- the new pass frame of a frame crossing (R49, stage 5) -/
  crossing : Option Nat
  deriving DecidableEq, Repr

/-- R55, R56: the subframes left to the end frame of an entry. -/
def toEntryEnd (c : Clock) (e : RunEntry) : Nat :=
  match c.dir with
  | .forward => e.endFrame * subframes - c.time
  | .reverse => c.time - e.endFrame * subframes

/-- A move time moved by n subframes in a direction. -/
def moveTime (dir : Direction) (t n : Nat) : Nat :=
  match dir with
  | .forward => t + n
  | .reverse => t - n

/-- R49, stage 4: E grows and saturates. -/
def addTravel (c : Clock) (n : Nat) : Clock := { c with travel := min maxU32 (c.travel + n) }

/-- R49, stage 5: the crossing, when floor(E / 65,536) has risen. -/
def crossFrame (c : Clock) : Clock × Option Nat :=
  let f := c.travel / subframes
  if c.passFrame < f then ({ c with passFrame := f }, some f) else (c, none)

/-- R55: the ramp after a carry into entry e. -/
def carryRamp (cfg : ClockSettings) (e : RunEntry) : Ramp → Ramp
  | .up _ _ => .up (targetSpeed cfg e) (ceilDiv (targetSpeed cfg e) cfg.resumeRamp)
  | r => r

/-- R55: the clock carried into the next entry by an increment that goes `excess` beyond the end frame. -/
def carryClock (c : Clock) (next : RunEntry) (excess increment : Nat) : Clock :=
  addTravel
    { c with
      time := moveTime (entryDirection next) (next.startFrame * subframes) excess, dir := entryDirection next
      ramp := carryRamp c.cfg next c.ramp }
    increment

/-- R56: the clock landed on the end frame of entry e. -/
def landClock (c : Clock) (e : RunEntry) (left : Nat) : Clock :=
  addTravel
    { releaseLock c with
      time := e.endFrame * subframes, state := .atRest, speed := 0, rem := 0, ramp := .none }
    left

/-- R49: stages 1 to 5 of one period of an ADVANCING clock, for the current entry (numbered n) and the entry after it. -/
def advanceClock (c : Clock) (n : Nat) (e : RunEntry) (next : Option RunEntry) : Clock × HandOver :=
  let c1 := rampStep c (targetSpeed c.cfg e)
  let (c2, inc) := takeIncrement c1
  let left := toEntryEnd c2 e
  if inc < left then
    let (c3, x) := crossFrame (addTravel { c2 with time := moveTime c2.dir c2.time inc } inc)
    (c3, { entry := n, carried := false, landed := false, crossing := x })
  else
    match next with
    | some e' =>
      if e.holdAtEnd then
        let (c3, x) := crossFrame (landClock c2 e left)
        (c3, { entry := n, carried := false, landed := true, crossing := x })
      else
        let (c3, x) := crossFrame (carryClock c2 e' (inc - left) inc)
        (c3, { entry := n + 1, carried := true, landed := false, crossing := x })
    | none =>
      let (c3, x) := crossFrame (landClock c2 e left)
      (c3, { entry := n, carried := false, landed := true, crossing := x })

/-! ### The follower lock -/

/-- R59, R61: the lock formed at a pulse: pulse count 0, base travel the present E; the timer restarts. -/
def formLock (c : Clock) : Clock :=
  { c with lock := some { pulses := 0, base := c.travel }, lostTimer := some (lostTime c.cfg), lost := false }

/-- R59: the first pulse taken in WAITING starts the clock. -/
def startFollower (c : Clock) : Clock := { formLock c with state := .advancing, speed := 1000000, ramp := .none }

/-- R60: the phase error at the pulse that makes the lock's count j. -/
def phaseError (j base travel : Nat) : Int := (j : Int) * 65536 - ((travel : Int) - (base : Int))

/-- R59, R60: a later pulse with the lock present. -/
def pulseLock (c : Clock) (l : Lock) : Clock :=
  { c with
    lock := some { l with pulses := l.pulses + 1 }, budget := phaseError (l.pulses + 1) l.base c.travel
    lostTimer := some (lostTime c.cfg), lost := false }

/-- R61: the expiry of the camera-lost timer: it restarts, the lock is released and c is 0. The timer restarts from the moment of
its expiry, which lies the time still left after the event that takes it (entry 2). -/
def loseCamera (c : Clock) : Clock :=
  { c with lock := none, budget := 0, lostTimer := some (c.lostTimer.getD 0 + lostTime c.cfg), lost := true }

/-! ### The trigger -/

/-- R58: a trigger begins in MASTER mode. -/
def beginTrigger (c : Clock) : Clock :=
  if c.cfg.sync = .master then { c with trigger := some c.cfg.trigWidth } else c

/-- R58: one servo period of a trigger under way; at 0 its end is due (entry 1). -/
def countTrigger (c : Clock) : Clock := { c with trigger := c.trigger.map (· - 1) }

/-- R58: the trigger becomes inactive. -/
def endTrigger (c : Clock) : Clock := { c with trigger := none }

/-! ### Meanings -/

def execClockSet (tag : Byte) (body : List Byte) (s : State) : Answer :=
  conclude s Kind.clockSet tag (clockSet tag body s)

def execClockGet (tag : Byte) (body : List Byte) (s : State) : Answer :=
  conclude s Kind.clockGet tag (clockGet tag body s)

/-- TRIGGER_END (R58): the trigger whose w periods have expired becomes inactive; otherwise nothing is due (entry 4). -/
def execTriggerEnd (s : State) : Answer :=
  .next (if s.clock.trigger = some 0 then { s with clock := endTrigger s.clock } else s)

end Sys2Proof.Machine
end

