-- ==== Sys2Proof/Machine/Flags.lean ====
section
/-! DEFINITION. The flags: CLAMPED (R41), the truth of each condition (R131 to R135), the runs, activation and latching of a
condition instance (R136, R138). -/

namespace Sys2Proof.Machine

/-! ### The soft clamp -/

/-- R41, R162: a position brought inside the soft limits. -/
def softClamp (r : AxisRec) (z : Int) : Int := if z < r.softMin then r.softMin else if r.softMax < z then r.softMax else z

/-- R41: CLAMPED is set when the sum lies outside the soft limits; a sum equal to a limit is not clamped. -/
def isClamped (r : AxisRec) (z : Int) : Bool := z < r.softMin || r.softMax < z

/-! ### Condition instances by name -/

def axisCondNumber : AxisCond → Fin 6
  | .follow => 0
  | .overspeed => 1
  | .limitSw => 2
  | .driveFault => 3
  | .link => 4
  | .repeatDev => 5

/-- The instance of a per-axis condition on an axis (R125). -/
def condOn (c : AxisCond) (a : Axis) : CondId :=
  ⟨16 * (axisCondNumber c).val + a.val, by have := (axisCondNumber c).isLt; have := a.isLt; omega⟩

def estopCond : CondId := 96
def cameraLostCond : CondId := 97
def cameraSlipCond : CondId := 98

/-- The instances of monitor `name` in the list of Table 7-2, for the axes of a mask; a rig monitor has one. -/
def condsOf (name : Nat) (mask : Nat) : List CondId :=
  if h : name < 6 then
    (allAxes.filter fun a => mask.testBit a.val).map fun a => ⟨16 * name + a.val, by have := a.isLt; omega⟩
  else if h : name < 9 then [⟨90 + name, by omega⟩]
  else []

/-- The axis of a per-axis instance. -/
def condAxis (i : CondId) : Axis := ⟨i.val % 16, Nat.mod_lt _ (by decide)⟩

/-- The place of an instance's condition in the list of Table 7-2. -/
def condNumber (i : CondId) : Nat := if i.val < 96 then i.val / 16 else i.val - 90

def isPerAxisCond (i : CondId) : Bool := i.val < 96

/-! ### What one evaluation brings -/

/-- One evaluation of an instance: its truth, the quantity found, the cause; `force` for the evaluation of R132, which
activates whatever the runs. -/
structure Evidence where
  id : CondId
  truth : Bool
  value : Option Nat
  cause : Option Cause
  force : Bool
  deriving DecidableEq, Repr

/-- R131: FOLLOW is true when the absolute error exceeds the threshold. -/
def followEvidence (a : Axis) (threshold : Nat) (b : BatchItem) : Evidence :=
  let err := (b.setpoint - b.measured).natAbs
  { id := condOn .follow a, truth := threshold < err, value := some err, cause := none, force := false }

/-- R131: OVERSPEED compares |measured - previous measured| × 10⁶ / T exactly with the threshold; the value is floored. -/
def overspeedEvidence (a : Axis) (threshold period : Nat) (b prev : BatchItem) : Evidence :=
  let moved := (b.measured - prev.measured).natAbs * 1000000
  { id := condOn .overspeed a, truth := threshold * period < moved, value := some (moved / period), cause := none
    force := false }

/-- R131: LIMIT_SW is true when a limit switch is closed, with the cause POS, NEG or BOTH. -/
def limitEvidence (a : Axis) (f : DriveFlags) : Evidence :=
  { id := condOn .limitSw a, truth := f.limitPos || f.limitNeg, value := none
    cause := some (if f.limitPos && f.limitNeg then .both else if f.limitPos then .pos else .neg), force := false }

/-- R131: DRIVE_FAULT is true when the status shows FAULT. -/
def driveFaultEvidence (a : Axis) (f : DriveFlags) : Evidence :=
  { id := condOn .driveFault a, truth := f.fault, value := none, cause := some .status, force := false }

/-- R132: the evaluation of DRIVE_FAULT at an enable timeout. -/
def enableTimeoutEvidence (a : Axis) : Evidence :=
  { id := condOn .driveFault a, truth := true, value := none, cause := some .enableTimeout, force := true }

/-- R131: LINK is true when the consecutive-miss count is at or above the miss limit. -/
def linkEvidence (a : Axis) (threshold misses : Nat) : Evidence :=
  { id := condOn .link a, truth := threshold ≤ misses, value := some misses, cause := none, force := false }

/-- R133: REPEAT is true when the absolute deviation exceeds the threshold. -/
def repeatEvidence (a : Axis) (threshold dev : Nat) : Evidence :=
  { id := condOn .repeatDev a, truth := threshold < dev, value := some dev, cause := none, force := false }

/-- R134: ESTOP is true while L1's filtered level is active. -/
def estopEvidence (active : Bool) : Evidence :=
  { id := estopCond, truth := active, value := none, cause := none, force := false }

/-- R135: CAMERA_LOST. -/
def cameraLostEvidence (lost : Bool) : Evidence :=
  { id := cameraLostCond, truth := lost, value := none, cause := none, force := false }

/-- R135: CAMERA_SLIP is true when |ε| exceeds the threshold. -/
def cameraSlipEvidence (threshold : Nat) (eps : Int) : Evidence :=
  { id := cameraSlipCond, truth := threshold < eps.natAbs, value := some eps.natAbs, cause := none, force := false }

/-! ### Runs, activation and latching -/

/-- R136: the runs after an evaluation, each stopping at 16. -/
def countRun (i : CondInst) (truth : Bool) : CondInst :=
  if truth then { i with trueRun := satSucc 16 i.trueRun, falseRun := 0, last := true }
  else { i with falseRun := satSucc 16 i.falseRun, trueRun := 0, last := false }

/-- R126: the action in force of a monitor. -/
def inForce (m : Monitor) : Option Action :=
  match m.mode with
  | .latched | .selfClearing => some m.action
  | .reportOnly | .off => none

/-- R136: whether this evaluation, already counted in i, activates the instance. -/
def activates (m : Monitor) (i : CondInst) (e : Evidence) : Bool :=
  e.truth && !i.active && (m.deglitch ≤ i.trueRun || e.force)

/-- R136: whether this evaluation, already counted in i, deactivates the instance. -/
def deactivates (m : Monitor) (i : CondInst) (e : Evidence) : Bool := !e.truth && i.active && m.deglitch ≤ i.falseRun

/-- R136, R138: the instance after an evaluation. At activation it takes the value, the cause (DESIGN CHOICE, entry 41)
and the stamp, and in LATCHED mode it latches with its monitor's action. -/
def evaluateInst (m : Monitor) (stamp : Stamp) (i : CondInst) (e : Evidence) : CondInst :=
  let counted := countRun i e.truth
  if activates m counted e then
    { counted with
      active := true, value := e.value, cause := e.cause, stamp := some stamp
      latched := match m.mode with | .latched => some m.action | _ => counted.latched }
  else if deactivates m counted e then { counted with active := false }
  else counted

/-- R137: the instance passes out of evaluation; its latch is kept. -/
def passOutInst (i : CondInst) : CondInst := { i with active := false, trueRun := 0, falseRun := 0, last := false }

end Sys2Proof.Machine
end

