-- ==== Sys2Proof/Machine/Gen.lean ====
section
/-! DEFINITION. The motion generator: the trapezoidal law (R161, R162, R165), taking axes up and letting them go (R163 to
R166), jogs (R167, R168, R170, R171) and capture following (R174, R175, R177). -/

namespace Sys2Proof.Machine

/-! ### Limits per servo period (R161) -/

/-- R161: V for a velocity in counts/s. -/
def velocityPerPeriod (velocity period : Nat) : Nat := max 1 (velocity * period / 1000000)

/-- R161: A for an acceleration in counts/s². -/
def accelPerPeriod (accel period : Nat) : Nat := max 1 (accel * period * period / 1000000000000)

/-- R161: whether an axis moves under its path limits: in CAPTURE, and in RESTING after CAPTURE. -/
def usesPathLimits (g : GenRec) : Bool := g.mode = .capture || (g.mode = .resting && g.pathLimits)

/-- R161: V of a record. A velocity jog in force goes no faster than the jog velocity that stands now (R27; DESIGN CHOICE,
entry 37). -/
def velocityLimit (r : AxisRec) (g : GenRec) (period : Nat) : Nat :=
  match g.mode with
  | .velocity => velocityPerPeriod (min (g.jogVel.getD 0).natAbs r.jogVel) period
  | _ => velocityPerPeriod (if usesPathLimits g then r.velLimit else r.jogVel) period

/-- R161: A of a record. -/
def accelLimit (r : AxisRec) (g : GenRec) (period : Nat) : Nat :=
  accelPerPeriod (if usesPathLimits g then r.accLimit else r.jogAcc) period

/-! ### The law (R162) -/

/-- |v| lowered by n, keeping the sign of v. -/
def slower (v : Int) (n : Nat) : Int := v.sign * ((v.natAbs - min n v.natAbs : Nat) : Int)

/-- R162, stages 1 and 2: the velocity of a step toward a target r counts away, under V and A. -/
def nextVelocity (v r : Int) (V A : Nat) : Int :=
  if v ≠ 0 ∧ (v.sign ≠ r.sign ∨ 2 * A * r.natAbs ≤ v.natAbs * (v.natAbs + A)) then slower v A
  else if v.natAbs + A ≤ V ∨ v.natAbs < V then r.sign * (min (v.natAbs + A) V : Nat)
  else slower v (min A (v.natAbs - V))

/-- R162, stage 4: whether a step from x to x' has reached X. Seen from X itself nothing lies beyond X (DESIGN CHOICE, entry 43). -/
def reaches (x x' X : Int) : Bool := x' = X || (x < X && X < x') || (X < x && x' < X)

/-- A position and a velocity. -/
structure Motion where
  x : Int
  v : Int
  deriving DecidableEq, Repr

/-- R162, stage 5: the clamp; if it acts v becomes 0. -/
def clampMotion (r : AxisRec) (m : Motion) : Motion :=
  if isClamped r m.x then { x := softClamp r m.x, v := 0 } else m

/-- R162: one step toward X. -/
def stepToward (r : AxisRec) (X : Int) (V A : Nat) (m : Motion) : Motion :=
  let v' := nextVelocity m.v (X - m.x) V A
  let x' := m.x + v'
  clampMotion r
    (if reaches m.x x' X || ((X - x').natAbs ≤ A && v'.natAbs ≤ A) then { x := X, v := 0 } else { x := x', v := v' })

/-- R162, R165: one step to rest. -/
def stepToRest (r : AxisRec) (A : Nat) (m : Motion) : Motion :=
  let v' := slower m.v A
  clampMotion r { x := m.x + v', v := v' }

/-! ### Targets that move -/

/-- R169: the signed difference of two counts, modulo 2³². -/
def countDifference (w w0 : BitVec 32) : Int := (w - w0).toInt

/-- R170, R174: a wheel term: ratio × difference / 65,536, rounded to nearest. -/
def wheelTerm (ratio : Int) (w w0 : BitVec 32) : Int := roundDiv (ratio * countDifference w w0) 65536

/-- R174: the terms of the capture bindings that name an axis, with their base counts. -/
def captureTerms (counters : Vector (BitVec 32) 4) (a : Axis) (bs : List Binding) (bases : List (BitVec 32)) : Int :=
  ((bs.zip bases).map fun p => if p.1.axis = a then wheelTerm p.1.ratio counters[p.1.wheel] p.2 else 0).sum

/-- R167: the target of a velocity jog: the soft limit in its direction. -/
def jogTarget (r : AxisRec) (vt : Int) : Int := if 0 < vt then r.softMax else r.softMin

/-- The target of a record's step in its mode (R162, R167, R170, R174). -/
def stepTarget (r : AxisRec) (w : Wheels) (bases : List (BitVec 32)) (a : Axis) (g : GenRec) : Int :=
  match g.mode with
  | .velocity => jogTarget r (g.jogVel.getD 0)
  | .wheel =>
    match g.wheel with
    | some b => softClamp r (b.baseSetpoint + wheelTerm b.ratio w.counters[b.wheel] b.baseCount)
    | none => g.x
  | .capture => softClamp r (g.captureStart.getD g.x + captureTerms w.counters a w.bindings bases)
  | _ => g.target.getD g.x

/-! ### One record's step -/

/-- R162: the record after a step toward its target. -/
def stepMoving (r : AxisRec) (w : Wheels) (bases : List (BitVec 32)) (period : Nat) (a : Axis) (g : GenRec) : GenRec :=
  let X := stepTarget r w bases a g
  let m := stepToward r X (velocityLimit r g period) (accelLimit r g period) { x := g.x, v := g.v }
  { g with x := m.x, v := m.v, target := some X }

/-- R162, R165: the record after a step to rest. -/
def stepResting (r : AxisRec) (period : Nat) (g : GenRec) : GenRec :=
  let m := stepToRest r (accelLimit r g period) { x := g.x, v := g.v }
  { g with x := m.x, v := m.v }

/-- R161, R162, R166: one record's step of a servo period; `driven` is the setpoint the axis link forms when the drive is not
ON. -/
def stepRecord (r : AxisRec) (w : Wheels) (bases : List (BitVec 32)) (period : Nat) (drive : DriveState) (driven : Int)
    (a : Axis) (g : GenRec) : GenRec :=
  match g.mode with
  | .idle => g
  | .halt => if drive = .on then stepResting r period g else { g with x := driven, v := 0 }
  | .resting => stepResting r period g
  | .target | .velocity | .wheel | .capture => stepMoving r w bases period a g

/-- R160: v kept in counts/s when the servo period changes from `old` to `new`. -/
def rescale (old new : Nat) (g : GenRec) : GenRec := { g with v := roundDiv (g.v * new) old }

/-! ### Rest and jogs (R160) -/

/-- R160: at rest in the generator. -/
def genAtRest (g : GenRec) : Bool :=
  match g.mode with
  | .idle => true
  | .resting | .halt => g.v = 0
  | .target => g.target = some g.x && g.v = 0
  | _ => false

/-- R160: a jog in force. -/
def jogInForce (g : GenRec) : Bool :=
  match g.mode with
  | .velocity => !(g.jogVel = some 0)
  | .wheel => true
  | _ => false

/-- R164: arrived: x equals the target, with v = 0, in TARGET. -/
def hasArrived (g : GenRec) : Bool := g.mode = .target && g.target = some g.x && g.v = 0

/-! ### Changes of mode -/

/-- R163: an axis is taken up when its mode leaves IDLE, at the setpoint it last received. -/
def takeUp (setpoint : Int) (g : GenRec) : GenRec := if g.mode = .idle then { g with x := setpoint, v := 0 } else g

/-- What no mode but its own keeps: target, jog, refresh timer, wheel binding, capture start. -/
def dropTargets (g : GenRec) : GenRec :=
  { g with target := none, jogVel := none, refresh := none, wheel := none, captureStart := none, pathLimits := false }

/-- R163, R177, R178: to IDLE with v 0 and x kept. -/
def toIdle (g : GenRec) : GenRec := { dropTargets g with mode := .idle, v := 0 }

/-- R164: to TARGET. -/
def toTarget (setpoint X : Int) (g : GenRec) : GenRec :=
  { dropTargets (takeUp setpoint g) with mode := .target, target := some X }

/-- R165: to RESTING under the jog limits. -/
def toResting (setpoint : Int) (g : GenRec) : GenRec := { dropTargets (takeUp setpoint g) with mode := .resting }

/-- R175: from CAPTURE to RESTING under the path limits. -/
def captureToResting (g : GenRec) : GenRec := { dropTargets g with mode := .resting, pathLimits := true }

/-- R166: to HALT. -/
def toHalt (setpoint : Int) (g : GenRec) : GenRec := { dropTargets (takeUp setpoint g) with mode := .halt }

/-- R168: the refresh timer measures 250 ms. -/
abbrev refreshTime : Nat := 250000

/-- R167: to VELOCITY, with the refresh timer restarted. -/
def toVelocity (setpoint vt X : Int) (g : GenRec) : GenRec :=
  { dropTargets (takeUp setpoint g) with mode := .velocity, jogVel := some vt, target := some X, refresh := some refreshTime }

/-- R170: to WHEEL, with a new base at the present x. -/
def toWheel (setpoint : Int) (wheel : Wheel) (ratio : Int) (count : BitVec 32) (g : GenRec) : GenRec :=
  let g0 := dropTargets (takeUp setpoint g)
  { g0 with
    mode := .wheel, target := some g0.x
    wheel := some { wheel, ratio, baseSetpoint := g0.x, baseCount := count } }

/-- R174: to CAPTURE from the start setpoint S. -/
def toCapture (S : Int) (g : GenRec) : GenRec :=
  { dropTargets (takeUp S g) with mode := .capture, captureStart := some S, target := some S }

namespace State

/-- Every record of the generator changed by its axis. -/
def mapGen (s : State) (f : Axis → GenRec → GenRec) : State :=
  { s with gen := { s.gen with recs := tabulate fun a => f a s.gen.recs[a] } }

/-- R161 to R166: the generator's steps of a servo period. -/
def stepGen (s : State) : State :=
  s.mapGen fun a g =>
    stepRecord s.axes.recs[a] s.wheels s.gen.captureBase s.clock.period (s.driveOf a) (s.currentSetpoint a) a g

/-- R163: every axis not detached and not in CAPTURE passes to IDLE, as the controller's state leaves the generator. -/
def genReleaseAll (s : State) : State :=
  s.mapGen fun a g => if s.isDetached a || g.mode = .capture then g else toIdle g

/-- R165: every configured axis that is not detached, not OFF and not in CAPTURE passes to RESTING. -/
def genRestAll (s : State) : State :=
  s.mapGen fun a g =>
    if s.configured a && !s.isDetached a && !(s.driveOf a = .off) && !(g.mode = .capture) then
      toResting (s.currentSetpoint a) g
    else g

/-- R164: every configured axis not detached takes its target. -/
def genTargetAll (s : State) (targets : Vector Int 16) : State :=
  s.mapGen fun a g =>
    if s.configured a && !s.isDetached a then toTarget (s.currentSetpoint a) targets[a] g else g

/-- R175: at a PATH_STOP during a pass every axis in CAPTURE passes to RESTING. -/
def genEndFollowing (s : State) : State := s.mapGen fun _ g => if g.mode = .capture then captureToResting g else g

/-- R177: the end of capture: every axis in CAPTURE, or in RESTING after it, passes to IDLE. -/
def genEndCapture (s : State) : State :=
  { s with
    gen :=
      { recs := tabulate fun a => if usesPathLimits s.gen.recs[a] then toIdle s.gen.recs[a] else s.gen.recs[a]
        captureBase := [] } }

/-- R178: a DRIVE_OFF action ends every use of the generator, but for detached axes. -/
def genDropAll (s : State) : State := s.mapGen fun a g => if s.isDetached a then g else toIdle g

/-- R163: "all at rest": every configured axis is at rest and none has a jog in force. -/
def allAtRest (s : State) : Bool :=
  s.configuredAxes.all fun a => genAtRest s.gen.recs[a] && !jogInForce s.gen.recs[a]

/-- R163: when a drive leaves ON its axis passes to IDLE, unless it is in HALT. -/
def genDriveLeft (s : State) (a : Axis) : State :=
  let g := s.gen.recs[a]
  if g.mode = .halt then s else s.setGen a (toIdle g)

end State

end Sys2Proof.Machine
end

