-- ==== Sys2Proof/Machine/Log.lean ====
section
/-! DEFINITION. The pass log: beginning a pass (R148, R149), its records and their comparison (R150 to R153), its end (R154),
the FRAME reports formed from the same values (R194), and the log's requests (R155 to R158, REPORT_SET of R194). -/

namespace Sys2Proof.Machine

/-! ### Beginning a pass -/

/-- R149, stage 1: the first empty slot in slot number order. -/
def firstEmpty (l : PassLog) : Option PassSlot := allPassSlots.find? fun i => l.slots[i].isNone

/-- R149, stage 1: the slot a pass takes. -/
def chooseSlot (l : PassLog) : PassSlot :=
  match firstEmpty l with
  | some i => i
  | none => (l.age.find? fun i => !(l.reference = some i)).getD 0

/-- R148: a slot moves to the newest end of the age order. -/
def toNewest (age : List PassSlot) (i : PassSlot) : List PassSlot := age.filter (fun j => !(j = i)) ++ [i]

/-- R148: a slot moves to the oldest end of the age order. -/
def toOldest (age : List PassSlot) (i : PassSlot) : List PassSlot := i :: age.filter fun j => !(j = i)

/-- R148: the number after a pass number. -/
def nextNumber (n : Nat) : Nat := if n = 65535 then 1 else n + 1

/-- R149, stage 5: whether a pass of this kind and signature is compared, and with what. -/
def settleComparison (l : PassLog) (kind : PassKind) (signature : BitVec 32) : Comparison :=
  match kind with
  | .capture => .absent .kind
  | .play =>
    match l.reference with
    | none => .absent .noReference
    | some r =>
      match l.slots[r] with
      | none => .absent .noReference
      | some p => if p.header.signature = signature then .against r p.header.number else .absent .signature

/-- R149: the slot a compared pass holds. -/
def heldBy : Comparison → Option PassSlot
  | .against slot _ => some slot
  | .absent _ => none

/-- R149, stage 4: the header at GO. -/
def openHeader (number : Nat) (kind : PassKind) (signature : BitVec 32) (axes : Vector Bool 16) (c : Comparison) :
    PassHeader :=
  { number, kind, signature, axes, outcome := .running, truncated := false, captureShort := false, comparison := c
    summary := fill 16 { maxDev := 0, atFrame := none, compared := 0 } }

/-- R149: the log begins a pass. -/
def openPass (l : PassLog) (kind : PassKind) (signature : BitVec 32) (axes : Vector Bool 16) : PassLog :=
  let slot := chooseSlot l
  let number := nextNumber l.counter
  let c := settleComparison l kind signature
  { l with
    slots := put l.slots slot (some { header := openHeader number kind signature axes c, records := [] })
    age := toNewest l.age slot, recording := some slot, heldSlot := heldBy c, counter := number, crossing := none
    closing := none }

/-! ### Headers and records in replies and reports -/

def passKindNumber : PassKind → Nat
  | .play => 0
  | .capture => 1

def outcomeNumber : PassOutcome → Nat
  | .running => 0
  | .complete => 1
  | .stopped => 2
  | .faulted => 3

def noCompareNumber : NoCompare → Nat
  | .kind => 0
  | .noReference => 1
  | .signature => 2

def slotNumber (i : PassSlot) : List Byte := u8 (i.val + 1)

def summaryBytes (x : Summary) : List Byte := u32 x.maxDev ++ optional u16 x.atFrame ++ u16 x.compared

/-- Table 8-1, in its order, for a pass of `frames` records. -/
def headerBytes (h : PassHeader) (frames : Nat) : List Byte :=
  u16 h.number ++ u8 (passKindNumber h.kind) ++ u32 h.signature.toNat ++ u16 (maskOf fun a => h.axes[a]) ++
    u8 (outcomeNumber h.outcome) ++ u16 frames ++ flag h.truncated ++ flag h.captureShort ++
    optional (fun w => u8 (noCompareNumber w)) (match h.comparison with | .absent w => some w | .against .. => none) ++
    optional (fun p : PassSlot × Nat => slotNumber p.1 ++ u16 p.2)
      (match h.comparison with | .against i n => some (i, n) | .absent _ => none) ++
    overAxes (fun a => h.axes[a]) fun a => summaryBytes h.summary[a]

/-- Table 11-4: the flag byte of one axis. -/
def sampleFlags (x : AxisSample) : Nat :=
  (if x.stale then 1 else 0) + (if x.clamped then 2 else 0) + (if x.detached then 4 else 0)

/-- Table 11-4: one axis of a frame record. -/
def sampleBytes (x : AxisSample) : List Byte := i32 x.setpoint ++ i32 x.measured ++ u8 (sampleFlags x)

/-- Table 11-4: a frame record with the axes of a mask that it holds. -/
def frameRecBytes (mask : Nat) (r : FrameRec) : List Byte :=
  u16 r.passFrame ++ u8 r.entry ++ u32 r.time ++
    (allAxes.filter fun a => mask.testBit a.val).flatMap fun a =>
      match r.samples[a] with
      | some x => sampleBytes x
      | none => []

/-! ### Records and comparison -/

/-- R153: the deviation of an axis that both records hold and neither shows STALE. -/
def deviation (new ref : FrameRec) (a : Axis) : Option Int :=
  match new.samples[a], ref.samples[a] with
  | some x, some y => if x.stale || y.stale then none else some (x.measured - y.measured)
  | _, _ => none

/-- R153: a summary after a compared frame. -/
def updateSummary (n : Nat) (x : Summary) : Option Int → Summary
  | none => x
  | some d =>
    if x.maxDev < d.natAbs then { maxDev := d.natAbs, atFrame := some n, compared := x.compared + 1 }
    else { x with compared := x.compared + 1 }

/-- R153: the record of the held reference at a pass frame. -/
def referenceRecord (l : PassLog) (n : Nat) : Option FrameRec :=
  match l.heldSlot with
  | none => none
  | some h =>
    match l.slots[h] with
    | none => none
    | some p => p.records[n]?

/-- R153: the deviations of a new record, axis by axis. -/
def deviations (l : PassLog) (r : FrameRec) : Vector (Option Int) 16 :=
  match referenceRecord l r.passFrame with
  | none => fill 16 none
  | some ref => tabulate (deviation r ref)

/-- R150, R153: a pass with a record appended and its summaries updated; R151: a full slot is marked TRUNCATED instead. -/
def appendRecord (p : PassRec) (r : FrameRec) (devs : Vector (Option Int) 16) : PassRec :=
  if maxFrameRecords ≤ p.records.length then { p with header := { p.header with truncated := true } }
  else
    { header :=
        { p.header with summary := tabulate fun a => updateSummary r.passFrame p.header.summary[a] devs[a] }
      records := p.records ++ [r] }

/-- R146: the slot being recorded and the pass it holds. -/
def recordedPass (l : PassLog) : Option (PassSlot × PassRec) :=
  match l.recording with
  | none => none
  | some i => l.slots[i].map fun p => (i, p)

/-- R147: a record holds the axes of its pass's axis set. -/
def restrictRecord (axes : Vector Bool 16) (r : FrameRec) : FrameRec :=
  { r with samples := tabulate fun a => if axes[a] then r.samples[a] else none }

/-- R150: the record written in the slot being recorded. -/
def writeRecord (l : PassLog) (r : FrameRec) : PassLog :=
  match recordedPass l with
  | none => l
  | some (i, p) =>
    let r' := restrictRecord p.header.axes r
    { l with slots := put l.slots i (some (appendRecord p r' (deviations l r'))) }

/-- R133, R151, R153: the REPEAT evaluations of a record, when the slot has room for it. -/
def repeatEvaluations (l : PassLog) (mon : Mon) (r : FrameRec) : List Evidence :=
  match recordedPass l with
  | none => []
  | some (_, p) =>
    if maxFrameRecords ≤ p.records.length then []
    else
      let devs := deviations l (restrictRecord p.header.axes r)
      allAxes.filterMap fun a =>
        devs[a].map fun d => repeatEvidence a (mon.settings[condOn .repeatDev a]).threshold d.natAbs

/-- R152: CAPTURE_SHORT in the header of the pass being recorded. -/
def markShort (l : PassLog) : PassLog :=
  match recordedPass l with
  | none => l
  | some (i, p) =>
    { l with slots := put l.slots i (some { p with header := { p.header with captureShort := true } }) }

namespace State

/-- R150, R194: pass frame n as it falls, with the report settings that apply to it. -/
def crossingAt (s : State) (n : Nat) : Crossing :=
  { passFrame := n, entry := s.ctrl.entry, time := s.clock.time, interval := s.console.interval, mask := s.console.mask }

/-- R147, R150: what a pass frame's record is formed from. -/
def frameRecord (c : Crossing) (sample : Axis → AxisSample) : FrameRec :=
  { passFrame := c.passFrame, entry := c.entry, time := c.time, samples := tabulate fun a => some (sample a) }

/-- R150: an axis in the record of a crossing: its item of the batch just closed. An axis of the set that was un-configured since the
crossing has no item; its values are then the link record's, with CLAMPED clear (DESIGN CHOICE, entry 42). The same holds for an axis
that was configured since, which only a FRAME report of the crossing can show. -/
def crossingSample (s : State) (a : Axis) : AxisSample :=
  match s.link.batch[a] with
  | some b => { setpoint := b.setpoint, measured := b.measured, stale := b.stale, clamped := b.clamped, detached := b.detached }
  | none =>
    { setpoint := s.link.recs[a].lastSent, measured := s.link.recs[a].measured, stale := s.link.recs[a].stale
      clamped := false, detached := s.isDetached a }

/-- R150: an axis in the record of pass frame 0: the last setpoint sent to it, and the rest as in the last closed batch. -/
def startSample (s : State) (a : Axis) : AxisSample := { s.crossingSample a with setpoint := s.link.recs[a].lastSent }

/-- R194: what a FRAME report carries before its skipped count, for an axis mask. The axes are those of the mask that are configured as
the record is written (DESIGN CHOICE, entry 42). -/
def frameReportBytes (s : State) (mask : BitVec 16) (r : FrameRec) : List Byte :=
  u16 s.log.counter ++ u16 r.passFrame ++ u8 r.entry ++ u32 r.time ++
    overAxes (fun a => mask.getLsbD a.val && s.configured a) fun a =>
      match r.samples[a] with
      | some x => i32 x.setpoint ++ i32 x.measured
      | none => i32 0 ++ i32 0

/-- R194: the FRAME report of a pass frame, when one is due by the settings that stood at its crossing. -/
def reportFrame (s : State) (c : Crossing) (r : FrameRec) : State :=
  if c.interval ≠ 0 ∧ c.passFrame % c.interval = 0 then
    { s with console := queueFrameReport s.console (s.frameReportBytes c.mask r) }
  else s

/-- R150, R194: a pass frame is recorded and reported. -/
def recordFrame (s : State) (c : Crossing) (r : FrameRec) : State := { s with log := writeRecord s.log r }.reportFrame c r

/-! ### The end of a pass -/

/-- R154: the PASS report of the pass in a slot. -/
def passReport (i : PassSlot) (p : PassRec) : Message := .pass (slotNumber i ++ headerBytes p.header p.records.length)

/-- R154: the pass is closed and reported. -/
def finalizePass (s : State) (outcome : PassOutcome) : State :=
  let cleared := { s.log with heldSlot := none, recording := none, crossing := none, closing := none }
  match recordedPass s.log with
  | none => { s with log := cleared }
  | some (i, p) =>
    let p' := { p with header := { p.header with outcome } }
    { s with log := { cleared with slots := put s.log.slots i (some p') } }.post (passReport i p')

/-- R154: the outcome reaches the log; the header stays open while a crossing's record waits for its batch. -/
def closePass (s : State) (outcome : PassOutcome) : State :=
  if s.log.crossing.isSome then { s with log := { s.log with closing := some outcome } } else s.finalizePass outcome

/-- R154: a pass held open for its last record is closed. -/
def finishClosing (s : State) : State :=
  match s.log.closing with
  | some outcome => s.finalizePass outcome
  | none => s

/-- R194: the skipped count becomes 0 at each GO (entry 12). -/
def clearSkipped (s : State) : State := { s with console := { s.console with skipped := 0 } }

/-- R149: the log begins a pass. A pass still held open for its last record is closed first (entry 23). -/
def beginPass (s : State) (kind : PassKind) : State :=
  let s1 := s.finishClosing
  { s1 with
    log := openPass s1.log kind ((s1.check.record.bind (·.signature)).getD 0) (tabulate s1.configured) }

end State

/-! ### Requests -/

/-- R155: whether a slot may be the reference. -/
def mayBeReference (l : PassLog) (i : PassSlot) : Bool :=
  match l.slots[i] with
  | some p => !(l.recording = some i) && p.header.kind = .play && p.header.outcome = .complete
  | none => false

/-- R155. -/
def logReference (tag : Byte) (body : List Byte) (s : State) : Tested State := do
  let o ← need .badForm (logReferenceOperands body)
  match o with
  | none => pure ({ s with log := { s.log with reference := none } }.reply Kind.logReference tag .ok [])
  | some n =>
    let i ← need .badValue (passSlotOf n)
    ensure .badValue (mayBeReference s.log i)
    pure ({ s with log := { s.log with reference := some i } }.reply Kind.logReference tag .ok [])

/-- R156: the log with a slot cleared. -/
def clearSlot (l : PassLog) (i : PassSlot) : PassLog :=
  match l.slots[i] with
  | none => l
  | some _ =>
    { l with
      slots := put l.slots i none, age := toOldest l.age i
      reference := if l.reference = some i then none else l.reference }

/-- R156. -/
def logClear (tag : Byte) (body : List Byte) (s : State) : Tested State := do
  let n ← need .badForm (oneByte body)
  let i ← need .badValue (passSlotOf n)
  ensure .inUse !(s.log.recording = some i || s.log.heldSlot = some i)
  pure ({ s with log := clearSlot s.log i }.reply Kind.logClear tag .ok [])

/-- R157: whether a slot is empty, and the header of the pass it holds. -/
def slotItem (p : Option PassRec) : List Byte :=
  flag p.isNone ++ optional (fun p : PassRec => headerBytes p.header p.records.length) p

/-- R157. -/
def logIndexReply (l : PassLog) : List Byte :=
  (allPassSlots.flatMap fun i => slotItem l.slots[i]) ++ counted slotNumber l.age ++ optional slotNumber l.reference ++
    optional slotNumber l.recording ++ optional slotNumber l.heldSlot ++ u16 l.counter

/-- R157. -/
def logIndex (tag : Byte) (body : List Byte) (s : State) : Tested State := do
  need .badForm (noFields body)
  pure (s.reply Kind.logIndex tag .ok (logIndexReply s.log))

/-- R158. -/
def logRead (tag : Byte) (body : List Byte) (s : State) : Tested State := do
  let o ← need .badForm (logReadOperands body)
  let i ← need .badValue (passSlotOf o.slot)
  ensure .badValue (1 ≤ o.count && o.count ≤ 24 && !(o.mask = 0))
  let p ← need .noSuch s.log.slots[i]
  ensure .badValue ((allAxes.any fun a => o.mask.testBit a.val && p.header.axes[a]) && o.first + o.count ≤ p.records.length)
  pure (s.reply Kind.logRead tag .ok
    (u16 p.header.number ++ counted (frameRecBytes o.mask) ((p.records.drop o.first).take o.count)))

/-- R194. -/
def reportSet (tag : Byte) (body : List Byte) (s : State) : Tested State := do
  let (n, mask) ← need .badForm (reportSetOperands body)
  let t := { s with console := { s.console with interval := n, mask := BitVec.ofNat 16 mask } }
  pure (t.reply Kind.reportSet tag .ok (u8 n ++ u16 mask))

/-! ### Meanings -/

def execLogReference (tag : Byte) (body : List Byte) (s : State) : Answer :=
  conclude s Kind.logReference tag (logReference tag body s)

def execLogClear (tag : Byte) (body : List Byte) (s : State) : Answer :=
  conclude s Kind.logClear tag (logClear tag body s)

def execLogIndex (tag : Byte) (body : List Byte) (s : State) : Answer :=
  conclude s Kind.logIndex tag (logIndex tag body s)

def execLogRead (tag : Byte) (body : List Byte) (s : State) : Answer :=
  conclude s Kind.logRead tag (logRead tag body s)

def execReportSet (tag : Byte) (body : List Byte) (s : State) : Answer :=
  conclude s Kind.reportSet tag (reportSet tag body s)

end Sys2Proof.Machine
end

