-- ==== Sys2Proof/Machine/Path.lean ====
section
/-! DEFINITION. The path evaluator: AUTO tangents (R19) and the eight stages from a move, an axis, a move time and a held value
to a setpoint and the CLAMPED flag (R33 to R41). -/

namespace Sys2Proof.Machine

/-! ### AUTO tangents (R19) -/

/-- R19: a slope of dp over dt subframes in 1/65,536 units per frame, rounded to nearest and saturated. -/
def slopeTangent (dp : Int) (dt : Nat) : Int := sat32 (roundDiv (dp * 4294967296) dt)

/-- R19: whether the path through three values keeps rising or keeps falling. -/
def sameSense (d1 d2 : Int) : Bool := (0 < d1 && 0 < d2) || (d1 < 0 && d2 < 0)

/-- R19: the AUTO tangent of key k from its neighbours. -/
def autoTangent (ks : Track) (k : Nat) : Int :=
  match (if k = 0 then none else ks[k - 1]?), ks[k]?, ks[k + 1]? with
  | some a, some b, some c =>
    if sameSense (b.value - a.value) (c.value - b.value) then slopeTangent (c.value - a.value) (c.time - a.time) else 0
  | none, some b, some c => slopeTangent (c.value - b.value) (c.time - b.time)
  | some a, some b, none => slopeTangent (b.value - a.value) (b.time - a.time)
  | _, _, _ => 0

/-- R38: the tangent by which the path leaves key k. -/
def outTangent (ks : Track) (k : Nat) : Int :=
  match ks[k]? with
  | some key => match key.tangents with | .set _ o => o | .auto => autoTangent ks k
  | none => 0

/-- R38: the tangent by which the path arrives at key k. -/
def inTangent (ks : Track) (k : Nat) : Int :=
  match ks[k]? with
  | some key => match key.tangents with | .set i _ => i | .auto => autoTangent ks k
  | none => 0

/-! ### The stages -/

/-- Where stage 1 or stage 2 found the move time (Table 2-5). -/
inductive EvalCase where
  | noTrack | beforeFirst | afterLast
  | segment (k : Nat)
  deriving DecidableEq, Repr

/-- R35: the last key at or before t among the keys that are followed by another, counted from `k`. -/
def findSegment (t : Nat) : Nat → Track → Option (Nat × Key × Key)
  | _, [] => none
  | _, [_] => none
  | k, a :: b :: rest => if t < b.time then some (k, a, b) else findSegment t (k + 1) (b :: rest)

/-- R36: the fraction u16. -/
def fraction (t t0 t1 : Nat) : Nat := (t - t0) * 65536 / (t1 - t0)

/-- An exact rational of stage 4: `num / den`. -/
structure Exact where
  num : Int
  den : Nat
  deriving DecidableEq, Repr

/-- R37, LINEAR: p0 + u × (p1 - p0) with u = u16 / 65,536. -/
def linearPosition (u : Nat) (p0 p1 : Int) : Exact := { num := p0 * 65536 + u * (p1 - p0), den := 65536 }

/-- R37, SMOOTH: h00·p0 + h10·L·m0 + h01·p1 + h11·L·m1. With u = u16 / 2¹⁶ the basis values are over 2⁴⁸; L·m is
(t1 - t0) × tangent over 2³². -/
def smoothPosition (u : Nat) (dt : Nat) (p0 p1 m0 m1 : Int) : Exact :=
  let u1 : Int := u
  let u2 : Int := u1 * u1
  let u3 : Int := u2 * u1
  let h00 := 2 * u3 - 3 * u2 * 65536 + 281474976710656
  let h10 := u3 - 2 * u2 * 65536 + u1 * 4294967296
  let h01 := 3 * u2 * 65536 - 2 * u3
  let h11 := u3 - u2 * 65536
  { num := (h00 * p0 + h01 * p1) * 4294967296 + (h10 * m0 + h11 * m1) * dt
    den := 281474976710656 * 4294967296 }

/-- What stages 2 to 4 give for a track. -/
structure TrackPosition where
  found : EvalCase
  frac : Option Nat
  tangents : Option (Int × Int)
  exact : Exact
  deriving DecidableEq, Repr

def whole (z : Int) : Exact := { num := z, den := 1 }

/-- R35 to R38: stages 2, 3 and 4. -/
def trackPosition (ks : Track) (t : Nat) : TrackPosition :=
  match ks.head?, ks.getLast? with
  | some first, some last =>
    if t < first.time then { found := .beforeFirst, frac := none, tangents := none, exact := whole first.value }
    else if last.time ≤ t then { found := .afterLast, frac := none, tangents := none, exact := whole last.value }
    else
      match findSegment t 0 ks with
      | none => { found := .afterLast, frac := none, tangents := none, exact := whole last.value }
      | some (k, a, b) =>
        let u := fraction t a.time b.time
        match a.segment with
        | .step => { found := .segment k, frac := some u, tangents := none, exact := whole a.value }
        | .linear => { found := .segment k, frac := some u, tangents := none, exact := linearPosition u a.value b.value }
        | .smooth =>
          let m0 := outTangent ks k
          let m1 := inTangent ks (k + 1)
          { found := .segment k, frac := some u, tangents := some (m0, m1)
            exact := smoothPosition u (b.time - a.time) a.value b.value m0 m1 }
  | _, _ => { found := .noTrack, frac := none, tangents := none, exact := whole 0 }

/-- R39: stage 5, rounded to nearest and saturated. -/
def roundPosition (e : Exact) : Int := sat32 (roundDiv e.num e.den)

/-- R40: the output between two adjacent entries. -/
def mapBetween (x : Int) (a b : Int × Int) : Int :=
  roundDiv (a.2 * (b.1 - a.1) + (x - a.1) * (b.2 - a.2)) (b.1 - a.1).toNat

/-- R40: stage 6 through a map, below its first input, at or between its entries, above its last. -/
def mapThrough (x : Int) : LensMap → Int
  | [] => x
  | [a] => a.2
  | a :: b :: rest => if x ≤ a.1 then a.2 else if x < b.1 then mapBetween x a b else mapThrough x (b :: rest)

/-- R40: stage 6. -/
def mapPosition (m : Option LensMap) (x : Int) : Int :=
  match m with
  | none => x
  | some es => mapThrough x es

/-- The result of one evaluation, with every stage's value (R43). -/
structure Evaluation where
  found : EvalCase
  frac : Option Nat
  tangents : Option (Int × Int)
  rounded : Int
  mapped : Int
  /-- the sum of stage 7 (R95) -/
  sum : Int
  setpoint : Int
  clamped : Bool
  deriving DecidableEq, Repr

/-- R41: stages 7 and 8. -/
def finishPosition (r : AxisRec) (mapped : Int) (found : EvalCase) (frac : Option Nat) (tangents : Option (Int × Int))
    (rounded : Int) : Evaluation :=
  let sum := sat32 (mapped + r.origin)
  { found, frac, tangents, rounded, mapped, sum, setpoint := softClamp r sum, clamped := isClamped r sum }

/-- R34 to R41: the chain, for a track position, an axis record, a lens map, a move time and a held value. -/
def evaluateTrack (r : AxisRec) (m : Option LensMap) (track : Option Track) (t : Nat) (held : Int) : Evaluation :=
  match track with
  | none => finishPosition r held .noTrack none none held
  | some ks =>
    let p := trackPosition ks t
    let rounded := roundPosition p.exact
    finishPosition r (mapPosition m rounded) p.found p.frac p.tangents rounded

namespace State

/-- The track of an axis in a move slot; an empty slot has none. -/
def trackOf (s : State) (m : MoveSlot) (a : Axis) : Option Track :=
  match s.store.moves[m] with
  | some mv => mv.tracks[a]
  | none => none

/-- R33: one call of the path evaluator, with the track, the axis record and the map as they stand. -/
def evaluate (s : State) (m : MoveSlot) (a : Axis) (t : Nat) (held : Int) : Evaluation :=
  evaluateTrack s.axes.recs[a] s.axes.maps[a] (s.trackOf m a) t held

/-- R34: the held value of a setpoint: the setpoint less the origin offset, exact. -/
def heldValue (s : State) (a : Axis) (setpoint : Int) : Int := setpoint - s.axes.recs[a].origin

end State

end Sys2Proof.Machine
end

