-- ==== Sys2Proof/Machine/Store.lean ====
section
/-! DEFINITION. The move store: its requests (R5 to R17), capture staging (R20 to R22). -/

namespace Sys2Proof.Machine

/-! ### Tracks and the pool -/

/-- The key count of a track position, 0 where the track is absent (R5). -/
def trackCount (mv : Move) (a : Axis) : Nat :=
  match mv.tracks[a] with
  | some ks => ks.length
  | none => 0

/-- The keys of all tracks of a move (R7). -/
def moveKeys (mv : Move) : Nat := (allAxes.map (trackCount mv)).sum

/-- The keys in the tracks of every move (R4). -/
def keysInTracks (st : Store) : Nat :=
  (allMoveSlots.map fun m => match st.moves[m] with | some mv => moveKeys mv | none => 0).sum

/-- The keys in capture staging (R4, R8). -/
def stagedKeys (st : Store) : Nat := (st.staging.map fun l => l.keys.length).sum

/-- A track of no keys is absent (R3). -/
def trackOfKeys (ks : List Key) : Option Track := if ks = [] then none else some ks

/-- The track of an axis of a move in slot m replaced whole: its old keys return to the free keys and the new ones are taken
from them (R4, R10). -/
def replaceTrack (st : Store) (m : MoveSlot) (mv : Move) (a : Axis) (ks : List Key) : Store :=
  { st with
    moves := put st.moves m (some { mv with tracks := put mv.tracks a (trackOfKeys ks) })
    free := st.free + trackCount mv a - ks.length }

/-- R3: strictly increasing time. -/
def ascending : List Key → Bool
  | [] => true
  | [_] => true
  | a :: b :: rest => a.time < b.time && ascending (b :: rest)

/-- R16: a key placed at its place in time order. -/
def insertKey (key : Key) : List Key → List Key
  | [] => [key]
  | a :: rest => if key.time < a.time then key :: a :: rest else a :: insertKey key rest

/-- R16: how many keys are earlier than a time: the index a key of that time takes. -/
def placeOf (time : Nat) (ks : List Key) : Nat := (ks.filter fun k => k.time < time).length

namespace State

def withStore (s : State) (st : Store) : State := { s with store := st }

end State

/-- R5: the reply to an accepted request that changes a track: slot, axis, key count, free-key count. -/
def trackReply (m : MoveSlot) (a : Axis) (count free : Nat) : List Byte := u8 (m.val + 1) ++ u8 a.val ++ u16 count ++ u16 free

/-! ### Key records in replies (Table 11-2) -/

def segmentNumber : Segment → Nat
  | .step => 0
  | .linear => 1
  | .smooth => 2

/-- Table 11-2. -/
def keyBytes (k : Key) : List Byte :=
  u32 k.time ++ i32 k.value ++
    match k.tangents with
    | .auto => u8 (segmentNumber k.segment)
    | .set i o => u8 (segmentNumber k.segment + 4) ++ i32 i ++ i32 o

/-! ### Requests -/

/-- R6: a name is 1 to 16 characters of codes 32 to 126. -/
def nameOk (name : List Byte) : Bool :=
  1 ≤ name.length && name.length ≤ 16 && name.all fun c => 32 ≤ c.toNat && c.toNat ≤ 126

/-- R6. -/
def moveCreate (tag : Byte) (body : List Byte) (s : State) : Tested State := do
  let (slot, name) ← need .badForm (moveCreateOperands body)
  let m ← need .badValue (moveSlotOf slot)
  ensure .badValue (nameOk name)
  ensure .inUse s.store.moves[m].isNone
  let t := s.withStore { s.store with moves := put s.store.moves m (some { name, tracks := fill 16 none }) }
  pure (t.reply Kind.moveCreate tag .ok (u16 t.store.free))

/-- R7. -/
def moveDelete (tag : Byte) (body : List Byte) (s : State) : Tested State := do
  let slot ← need .badForm (oneByte body)
  let m ← need .badValue (moveSlotOf slot)
  let mv ← need .noSuch s.store.moves[m]
  ensure .inUse !(s.frozen m)
  let t := s.withStore { s.store with moves := put s.store.moves m none, free := s.store.free + moveKeys mv }
  pure (t.reply Kind.moveDelete tag .ok (u16 (moveKeys mv) ++ u16 t.store.free))

/-- R8: the item of one occupied slot. -/
def moveItem (m : MoveSlot) (mv : Move) : List Byte :=
  u8 (m.val + 1) ++ u8 mv.name.length ++ mv.name ++
    allAxes.flatMap fun a => flag mv.tracks[a].isSome ++ u16 (trackCount mv a)

/-- R8. -/
def moveListReply (st : Store) : List Byte :=
  counted (fun p => moveItem p.1 p.2) (allMoveSlots.filterMap fun m => st.moves[m].map fun mv => (m, mv)) ++
    u16 (stagedKeys st) ++ u16 st.free

/-- R8. -/
def moveList (tag : Byte) (body : List Byte) (s : State) : Tested State := do
  need .badForm (noFields body)
  pure (s.reply Kind.moveList tag .ok (moveListReply s.store))

/-- R9, R10: the track a TRACK_WRITE leaves: mode 0 is REPLACE, 1 APPEND. -/
def writtenTrack (mode : Nat) (old : Option Track) (ks : List Key) : List Key :=
  if mode = 0 then ks else old.getD [] ++ ks

/-- R9: the carried keys stand in strictly increasing time, and an APPEND to a present track starts strictly later than its
last key. -/
def writeInOrder (mode : Nat) (old : Option Track) (ks : List Key) : Bool :=
  ascending ks &&
    (mode = 0 ||
      match (old.getD []).getLast?, ks.head? with
      | some last, some first => last.time < first.time
      | _, _ => true)

/-- R9: the capacity test. -/
def writeFits (st : Store) (mode : Nat) (count new : Nat) : Bool :=
  if mode = 0 then new ≤ st.free + count else new ≤ st.free && count + new ≤ maxTrackKeys

/-- R9, R10. -/
def trackWrite (tag : Byte) (body : List Byte) (s : State) : Tested State := do
  let o ← need .badForm (trackWriteOperands body)
  let m ← need .badValue (moveSlotOf o.slot)
  let a ← need .badValue (axisOf o.axis)
  ensure .badValue (o.mode ≤ 1)
  let ks ← need .badValue (keysOfRaw o.keys)
  let mv ← need .noSuch s.store.moves[m]
  ensure .inUse !(s.frozen m)
  ensure .badValue (writeInOrder o.mode mv.tracks[a] ks)
  let ks' := writtenTrack o.mode mv.tracks[a] ks
  ensure .full (writeFits s.store o.mode (trackCount mv a) ks.length)
  let t := s.withStore (replaceTrack s.store m mv a ks')
  pure (t.reply Kind.trackWrite tag .ok (trackReply m a ks'.length t.store.free))

/-- R11. -/
def trackRead (tag : Byte) (body : List Byte) (s : State) : Tested State := do
  let o ← need .badForm (trackReadOperands body)
  let m ← need .badValue (moveSlotOf o.slot)
  let a ← need .badValue (axisOf o.axis)
  ensure .badValue (1 ≤ o.count && o.count ≤ 64)
  let mv ← need .noSuch s.store.moves[m]
  let ks ← need .noSuch mv.tracks[a]
  ensure .badValue (o.start < ks.length)
  pure (s.reply Kind.trackRead tag .ok
    (u16 ks.length ++ u16 o.start ++ counted keyBytes ((ks.drop o.start).take o.count)))

/-- R12; the reply's fields are those R12 names (entry 17). -/
def trackClear (tag : Byte) (body : List Byte) (s : State) : Tested State := do
  let (slot, axis) ← need .badForm (twoBytes body)
  let m ← need .badValue (moveSlotOf slot)
  let a ← need .badValue (axisOf axis)
  let mv ← need .noSuch s.store.moves[m]
  ensure .inUse !(s.frozen m)
  let t := s.withStore (replaceTrack s.store m mv a [])
  pure (t.reply Kind.trackClear tag .ok (u16 (trackCount mv a) ++ u16 0 ++ u16 t.store.free))

/-- R13. -/
def trackCopy (tag : Byte) (body : List Byte) (s : State) : Tested State := do
  let o ← need .badForm (trackCopyOperands body)
  let m ← need .badValue (moveSlotOf o.fromSlot)
  let a ← need .badValue (axisOf o.fromAxis)
  let m' ← need .badValue (moveSlotOf o.toSlot)
  let a' ← need .badValue (axisOf o.toAxis)
  let src ← need .noSuch s.store.moves[m]
  let ks ← need .noSuch src.tracks[a]
  let dst ← need .noSuch s.store.moves[m']
  ensure .inUse !(s.frozen m')
  ensure .full (ks.length ≤ s.store.free + trackCount dst a')
  let t := s.withStore (replaceTrack s.store m' dst a' ks)
  pure (t.reply Kind.trackCopy tag .ok (trackReply m' a' ks.length t.store.free))

/-- R14: a key moved by a time offset and a value offset, when both stay in range. -/
def shiftKey (dt dv : Int) (k : Key) : Option Key :=
  let time := (k.time : Int) + dt
  let value := k.value + dv
  if 0 ≤ time ∧ time ≤ 4294967295 ∧ fits32 value then some { k with time := time.toNat, value } else none

/-- R14: every key moved, and none when one would leave the range. -/
def shiftKeys (dt dv : Int) : List Key → Option (List Key)
  | [] => some []
  | k :: ks =>
    match shiftKey dt dv k, shiftKeys dt dv ks with
    | some k', some ks' => some (k' :: ks')
    | _, _ => none

/-- R14. -/
def trackShift (tag : Byte) (body : List Byte) (s : State) : Tested State := do
  let o ← need .badForm (trackShiftOperands body)
  let m ← need .badValue (moveSlotOf o.slot)
  let a ← need .badValue (axisOf o.axis)
  let mv ← need .noSuch s.store.moves[m]
  let ks ← need .noSuch mv.tracks[a]
  ensure .inUse !(s.frozen m)
  let ks' ← need .badValue (shiftKeys o.time o.value ks)
  let t := s.withStore (replaceTrack s.store m mv a ks')
  pure (t.reply Kind.trackShift tag .ok (trackReply m a ks'.length t.store.free))

/-- R15: a new time lies strictly after the previous key's, when there is one, and strictly before the next key's, when there
is one. -/
def editInOrder (ks : Track) (index time : Nat) : Bool :=
  (match (if index = 0 then none else ks[index - 1]?) with
    | some before => before.time < time
    | none => true) &&
  match ks[index + 1]? with
  | some after => time < after.time
  | none => true

/-- R15. -/
def keyEdit (tag : Byte) (body : List Byte) (s : State) : Tested State := do
  let o ← need .badForm (keyEditOperands body)
  let m ← need .badValue (moveSlotOf o.slot)
  let a ← need .badValue (axisOf o.axis)
  let key ← need .badValue (keyOfRaw o.key)
  let mv ← need .noSuch s.store.moves[m]
  let ks ← need .noSuch mv.tracks[a]
  ensure .badValue (o.index < ks.length)
  ensure .inUse !(s.frozen m)
  ensure .badValue (editInOrder ks o.index key.time)
  let ks' := ks.set o.index key
  let t := s.withStore (replaceTrack s.store m mv a ks')
  pure (t.reply Kind.keyEdit tag .ok (trackReply m a ks'.length t.store.free))

/-- R16; the reply carries the new key's index, then the usual fields (entry 17). -/
def keyInsert (tag : Byte) (body : List Byte) (s : State) : Tested State := do
  let o ← need .badForm (keyInsertOperands body)
  let m ← need .badValue (moveSlotOf o.slot)
  let a ← need .badValue (axisOf o.axis)
  let key ← need .badValue (keyOfRaw o.key)
  let mv ← need .noSuch s.store.moves[m]
  ensure .inUse !(s.frozen m)
  let ks := mv.tracks[a].getD []
  ensure .badValue !(ks.any fun k => k.time = key.time)
  ensure .full (1 ≤ s.store.free && ks.length < maxTrackKeys)
  let ks' := insertKey key ks
  let t := s.withStore (replaceTrack s.store m mv a ks')
  pure (t.reply Kind.keyInsert tag .ok (u16 (placeOf key.time ks) ++ trackReply m a ks'.length t.store.free))

/-- R17. -/
def keyDelete (tag : Byte) (body : List Byte) (s : State) : Tested State := do
  let o ← need .badForm (keyDeleteOperands body)
  let m ← need .badValue (moveSlotOf o.slot)
  let a ← need .badValue (axisOf o.axis)
  let mv ← need .noSuch s.store.moves[m]
  let ks ← need .noSuch mv.tracks[a]
  ensure .badValue (o.index < ks.length)
  ensure .inUse !(s.frozen m)
  let ks' := ks.eraseIdx o.index
  let t := s.withStore (replaceTrack s.store m mv a ks')
  pure (t.reply Kind.keyDelete tag .ok (trackReply m a ks'.length t.store.free))

/-! ### Capture staging -/

/-- R20: the staging lists of a capture pass, one for each binding in order, tied to the entry's move. Staging is empty when a
pass starts (R22); keys left in it would return to the free keys, so that R4 holds of every state. -/
def openStaging (st : Store) (target : MoveSlot) (bindings : List Binding) : Store :=
  { st with
    free := st.free + stagedKeys st
    staging := bindings.map fun b => { axis := b.axis, keys := [], closed := false }
    stagingTarget := some target
    poolRefused := false }

/-- R21: one key handed to staging list n: the store with the key appended, or the store with the refusal and `true` when
this is a refusal; a list that takes no further key is passed over. Where both refusals apply, the empty pool's governs (DESIGN
CHOICE, entry 36). -/
def stageKey (st : Store) (n : Nat) (key : Key) : Store × Bool :=
  match st.staging[n]? with
  | none => (st, false)
  | some l =>
    if st.poolRefused || l.closed then (st, false)
    else if st.free = 0 then ({ st with poolRefused := true }, true)
    else if maxTrackKeys ≤ l.keys.length then
      ({ st with staging := st.staging.set n { l with closed := true } }, true)
    else ({ st with staging := st.staging.set n { l with keys := l.keys ++ [key] }, free := st.free - 1 }, false)

/-- R22: capture staging is empty afterwards. -/
def closeStaging (st : Store) : Store := { st with staging := [], stagingTarget := none, poolRefused := false }

/-- R22: one list of a commit becomes the whole track of its target; a list with no keys leaves it. -/
def commitList (m : MoveSlot) (st : Store) (l : StagingList) : Store :=
  match l.keys, st.moves[m] with
  | [], _ => st
  | _ :: _, none => { st with free := st.free + l.keys.length }
  | _ :: _, some mv =>
    { st with
      moves := put st.moves m (some { mv with tracks := put mv.tracks l.axis (some l.keys) })
      free := st.free + trackCount mv l.axis }

/-- R22: every staged key returns to the free keys. -/
def discardStaging (st : Store) : Store := closeStaging { st with free := st.free + stagedKeys st }

/-- R22: the lists in ascending binding number. -/
def commitStaging (st : Store) : Store :=
  match st.stagingTarget with
  | some m => closeStaging (st.staging.foldl (commitList m) st)
  | none => discardStaging st

/-! ### Meanings -/

def execMoveCreate (tag : Byte) (body : List Byte) (s : State) : Answer :=
  conclude s Kind.moveCreate tag (moveCreate tag body s)

def execMoveDelete (tag : Byte) (body : List Byte) (s : State) : Answer :=
  conclude s Kind.moveDelete tag (moveDelete tag body s)

def execMoveList (tag : Byte) (body : List Byte) (s : State) : Answer :=
  conclude s Kind.moveList tag (moveList tag body s)

def execTrackWrite (tag : Byte) (body : List Byte) (s : State) : Answer :=
  conclude s Kind.trackWrite tag (trackWrite tag body s)

def execTrackRead (tag : Byte) (body : List Byte) (s : State) : Answer :=
  conclude s Kind.trackRead tag (trackRead tag body s)

def execTrackClear (tag : Byte) (body : List Byte) (s : State) : Answer :=
  conclude s Kind.trackClear tag (trackClear tag body s)

def execTrackCopy (tag : Byte) (body : List Byte) (s : State) : Answer :=
  conclude s Kind.trackCopy tag (trackCopy tag body s)

def execTrackShift (tag : Byte) (body : List Byte) (s : State) : Answer :=
  conclude s Kind.trackShift tag (trackShift tag body s)

def execKeyEdit (tag : Byte) (body : List Byte) (s : State) : Answer :=
  conclude s Kind.keyEdit tag (keyEdit tag body s)

def execKeyInsert (tag : Byte) (body : List Byte) (s : State) : Answer :=
  conclude s Kind.keyInsert tag (keyInsert tag body s)

def execKeyDelete (tag : Byte) (body : List Byte) (s : State) : Answer :=
  conclude s Kind.keyDelete tag (keyDelete tag body s)

end Sys2Proof.Machine
end

