-- ==== Sys2Proof/Machine/Capture.lean ====
section
/-! DEFINITION. Hand-wheels and capture: wheel steps (R169), CAPTURE_SET and WHEEL_GET (R172, R173), the beginning of capture
(R174) and the staging of its keys (R176). -/

namespace Sys2Proof.Machine

/-! ### The beginning of capture -/

/-- R172: whether some capture binding names an axis. -/
def isBound (bs : List Binding) (a : Axis) : Bool := bs.any fun b => b.axis = a

namespace State

/-- R174: capture begins: base counts, start setpoints, CAPTURE mode; a detached axis stays in HALT (R175). -/
def beginCapture (s : State) : State :=
  let s1 :=
    s.mapGen fun a g =>
      if isBound s.wheels.bindings a && !s.isDetached a then toCapture (s.currentSetpoint a) g else g
  { s1 with gen := { s1.gen with captureBase := s.wheels.bindings.map fun b => s.wheels.counters[b.wheel] } }

/-- R20: the staging lists of a capture pass, tied to its entry's move. -/
def openCaptureStaging (s : State) : State :=
  match s.runEntry? 1 with
  | some e => s.withStore (openStaging s.store e.slot s.wheels.bindings)
  | none => s

/-- R176: the key of an axis at pass frame n, for the setpoint of that period. -/
def captureKey (s : State) (e : RunEntry) (n : Nat) (a : Axis) : Key :=
  { time := (e.startFrame + n) * subframes, value := sat32 (s.ctrl.setpoints[a] - s.axes.recs[a].origin)
    segment := .smooth, tangents := .auto }

/-- R21, R152, R176: one key for binding i; a refusal sets CAPTURE_SHORT. -/
def stageFor (e : RunEntry) (n : Nat) (s : State) (b : Nat × Binding) : State :=
  let r := stageKey s.store b.1 (s.captureKey e n b.2.axis)
  let s1 := s.withStore r.1
  if r.2 then { s1 with log := markShort s1.log } else s1

/-- R176: the keys of a pass frame, one for each binding, in ascending binding number. -/
def stageKeys (s : State) (n : Nat) : State :=
  match s.runEntry? 1 with
  | none => s
  | some e =>
    if n % s.wheels.stride = 0 then
      ((List.range s.wheels.bindings.length).zip s.wheels.bindings).foldl (stageFor e n) s
    else s

/-- R176: at a frame crossing of a CAPTURE pass. -/
def stageCrossing (s : State) (n : Nat) : State := if s.ctrl.pass = some .capture then s.stageKeys n else s

/-- R75, R174: the pass start of a CAPTURE pass. -/
def startCapture (s : State) : State :=
  if s.ctrl.pass = some .capture then s.beginCapture.openCaptureStaging.stageKeys 0 else s

end State

/-! ### Requests -/

/-- R172. -/
def captureSet (tag : Byte) (body : List Byte) (s : State) : Tested State := do
  let (raw, stride) ← need .badForm (captureSetOperands body)
  let bs ← need .badValue (bindingsOfRaw raw)
  ensure .badValue (1 ≤ stride && stride ≤ 8)
  ensure .inUse !s.runPending
  let t := { s with wheels := { s.wheels with bindings := bs, stride } }
  pure (t.reply Kind.captureSet tag .ok [])

def genModeNumber : GenMode → Nat
  | .idle => 0
  | .target => 1
  | .resting => 2
  | .velocity => 3
  | .wheel => 4
  | .capture => 5
  | .halt => 6

/-- R170: what a wheel binding holds. -/
def wheelBaseBytes (b : WheelBase) : List Byte :=
  u8 b.wheel.val ++ i32 b.ratio ++ i32 b.baseSetpoint ++ i32 b.baseCount.toInt

/-- R172: what a capture binding holds. -/
def bindingBytes (b : Binding) : List Byte := u8 b.axis.val ++ u8 b.wheel.val ++ i32 b.ratio

/-- R173. -/
def wheelGetReply (w : Wheels) (g : Gen) : List Byte :=
  counted (fun c : BitVec 32 => i32 c.toInt) w.counters.toList ++
    (allAxes.flatMap fun a => u8 (genModeNumber g.recs[a].mode) ++ optional wheelBaseBytes g.recs[a].wheel) ++
    counted bindingBytes w.bindings ++ u8 w.stride

/-- R173. -/
def wheelGet (tag : Byte) (body : List Byte) (s : State) : Tested State := do
  need .badForm (noFields body)
  pure (s.reply Kind.wheelGet tag .ok (wheelGetReply s.wheels s.gen))

/-! ### Meanings -/

def execCaptureSet (tag : Byte) (body : List Byte) (s : State) : Answer :=
  conclude s Kind.captureSet tag (captureSet tag body s)

def execWheelGet (tag : Byte) (body : List Byte) (s : State) : Answer := conclude s Kind.wheelGet tag (wheelGet tag body s)

/-- R169: the counter after one step, wrapping. -/
def stepCounter (up : Bool) (c : BitVec 32) : BitVec 32 := if up then c + 1 else c - 1

/-- WHEEL_STEP (R169). -/
def execWheelStep (wheel : Wheel) (up : Bool) (s : State) : Answer :=
  .next
    { s with
      wheels := { s.wheels with counters := put s.wheels.counters wheel (stepCounter up s.wheels.counters[wheel]) } }

end Sys2Proof.Machine
end

