-- ==== Sys2Proof/Machine/Check.lean ====
section
/-! DEFINITION. The run check: the walk over the loaded take (R92 to R98), its first violation, peaks and headroom (R99, R100),
its notes and signature (R101, R102), its duration (R103), its completion and cancellation (R104, R105). -/

namespace Sys2Proof.Machine

/-! ### The walk -/

/-- R99: a candidate with its place in walk order: check frame, kind, side of a boundary, axis; and the check frame whose
samples complete it. -/
structure Candidate where
  kindRank : Nat
  side : Nat
  known : Nat
  violation : Violation
  deriving DecidableEq, Repr

/-- R99: whether one place comes before another. -/
def placedBefore : List Nat → List Nat → Bool
  | a :: as, b :: bs => a < b || (a = b && placedBefore as bs)
  | _, _ => false

/-- R99: walk order. -/
def Candidate.place (c : Candidate) : List Nat := [c.violation.frame, c.kindRank, c.side, c.violation.axis.val]

/-- R99: the earlier of two candidates. -/
def earlier : Option Candidate → Option Candidate → Option Candidate
  | none, c => c
  | c, none => c
  | some c, some d => if placedBefore d.place c.place then some d else some c

/-- What the walk of one axis carries. Velocities are held × 10⁶ and accelerations × 10¹², so that both are exact (R97, R98).
`shown` bounds the check frames whose samples have been taken, for a walk under way (R91). -/
structure Walk where
  shown : Nat
  first : Option Candidate
  /-- a SOFT_LIMIT or JOIN violation has been found (R100) -/
  spoilt : Bool
  peakVel : Nat
  peakAcc : Nat
  /-- the last sample -/
  last : Int
  /-- the velocity into the last sample -/
  vel : Int
  deriving DecidableEq, Repr

/-- R99: whether the samples that complete a test are among those taken. -/
def isTaken (w : Walk) (known : Nat) : Bool := known < w.shown

/-- R99: a candidate offered to the first violation. -/
def offer (w : Walk) (bad : Bool) (c : Candidate) : Walk :=
  if bad && isTaken w c.known then { w with first := earlier w.first (some c) } else w

/-- R95: the soft-limit test of a sample. -/
def offerSoft (r : AxisRec) (a : Axis) (frame entry side : Nat) (e : Evaluation) (w : Walk) : Walk :=
  let w1 := if e.clamped then { w with spoilt := true } else w
  offer w1 e.clamped
    { kindRank := 0, side, known := frame
      violation :=
        { kind := .softLimit, axis := a, frame, entry, found := e.sum
          limit := if e.sum < r.softMin then r.softMin else r.softMax } }

/-- R96: the join test at a boundary; its candidate belongs to the later entry (R99; entry 30). -/
def offerJoin (r : AxisRec) (a : Axis) (frame entry : Nat) (start : Int) (w : Walk) : Walk :=
  let d := (start - w.last).natAbs
  let bad : Bool := r.window < d
  let w1 := if bad then { w with spoilt := true } else w
  offer w1 bad
    { kindRank := 1, side := 1, known := frame
      violation := { kind := .join, axis := a, frame, entry, found := d, limit := r.window } }

/-- R97: the velocity test of an interval, whose velocity is `v` / 10⁶. -/
def offerVelocity (r : AxisRec) (a : Axis) (frame entry : Nat) (v : Int) (w : Walk) : Walk :=
  let w1 := if isTaken w frame then { w with peakVel := max w.peakVel v.natAbs } else w
  offer w1 (r.velLimit * 1000000 < v.natAbs)
    { kindRank := 2, side := 0, known := frame
      violation := { kind := .velocity, axis := a, frame, entry, found := (v.natAbs / 1000000 : Nat), limit := r.velLimit } }

/-- R98: the acceleration test, for an acceleration of `acc` / 10¹². -/
def offerAccel (r : AxisRec) (a : Axis) (frame entry side known : Nat) (acc : Int) (w : Walk) : Walk :=
  let w1 := if isTaken w known then { w with peakAcc := max w.peakAcc acc.natAbs } else w
  offer w1 (r.accLimit * 1000000000000 < acc.natAbs)
    { kindRank := 3, side, known
      violation :=
        { kind := .accel, axis := a, frame, entry, found := (acc.natAbs / 1000000000000 : Nat), limit := r.accLimit } }

/-- One entry as the walk of one axis sees it: its number, first check frame, length, F × s, and samples by frame (R93, R94,
R97); whether the pass is at rest where it begins and where it ends (R98). -/
structure Stretch where
  number : Nat
  start : Nat
  length : Nat
  factor : Nat
  sample : Nat → Evaluation
  restBefore : Bool
  restAfter : Bool

/-- R95, R97, R98: check frame m of a stretch, for m from 1. -/
def walkFrame (r : AxisRec) (a : Axis) (e : Stretch) (w : Walk) (m : Nat) : Walk :=
  let x := e.sample m
  let frame := e.start + m
  let v := (x.setpoint - w.last) * e.factor
  let side := if m = 1 ∧ e.restBefore then 1 else 0
  let w1 := offerAccel r a (frame - 1) e.number side frame ((v - w.vel) * e.factor) w
  let w2 := offerVelocity r a frame e.number v (offerSoft r a frame e.number 0 x w1)
  { w2 with last := x.setpoint, vel := v }

/-- R98: the acceleration to rest at the end of a stretch that ends at rest. -/
def walkRest (r : AxisRec) (a : Axis) (e : Stretch) (w : Walk) : Walk :=
  if e.restAfter then
    { offerAccel r a (e.start + e.length) e.number 0 (e.start + e.length) ((0 - w.vel) * e.factor) w with vel := 0 }
  else w

/-- R93 to R98: the walk of one axis through one entry. -/
def walkStretch (r : AxisRec) (a : Axis) (w : Walk) (e : Stretch) : Walk :=
  let x := e.sample 0
  let side := if e.number = 1 then 0 else 1
  let w1 := offerSoft r a e.start e.number side x w
  let w2 := if e.number = 1 then w1 else offerJoin r a e.start e.number x.setpoint w1
  let w3 := { w2 with last := x.setpoint }
  walkRest r a e ((List.range e.length).foldl (fun w i => walkFrame r a e w (i + 1)) w3)

/-- R93: the move time of frame m of an entry. -/
def checkTime (e : RunEntry) (m : Nat) : Nat :=
  match entryDirection e with
  | .forward => (e.startFrame + m) * subframes
  | .reverse => (e.startFrame - m) * subframes

/-- R97: F × s of an entry, with s 1,000 in FOLLOWER mode. -/
def checkFactor (cfg : ClockSettings) (e : RunEntry) : Nat :=
  cfg.frameRate * if cfg.sync = .follower then 1000 else e.speed

/-- R93: the check frames of a list of entries. -/
def totalFrames (es : List RunEntry) : Nat := (es.map entryLength).sum

/-- Whether a purpose takes one value for the axes bound to capture (R94). -/
def isCapturePurpose : Purpose → Bool
  | .arm .capture => true
  | _ => false

namespace State

/-- R94: the samples of an entry for an axis: the evaluator's, or the one value of an axis bound to capture. -/
def checkSample (s : State) (p : Purpose) (e : RunEntry) (a : Axis) (held : Int) (m : Nat) : Evaluation :=
  if isCapturePurpose p && isBound s.wheels.bindings a then s.evaluate e.slot a (e.startFrame * subframes) (s.heldValue a held)
  else s.evaluate e.slot a (checkTime e m) (s.heldValue a held)

/-- R93, R98: the walk of one axis through the entries from number n on, which begin at check frame c. -/
def walkEntries (s : State) (p : Purpose) (a : Axis) : Nat → Nat → Bool → List RunEntry → Walk → Walk
  | _, _, _, [], w => w
  | n, c, rest, e :: es, w =>
    let after := e.holdAtEnd || es.isEmpty
    let held := w.last
    walkEntries s p a (n + 1) (c + entryLength e) after es
      (walkStretch s.axes.recs[a] a w
        { number := n, start := c, length := entryLength e, factor := checkFactor s.clock.cfg e
          sample := s.checkSample p e a held, restBefore := rest, restAfter := after })

/-- R93 to R98: the walk of one axis, with the check frames below `shown` taken. -/
def walkAxis (s : State) (p : Purpose) (start : Vector Int 16) (shown : Nat) (a : Axis) : Walk :=
  s.walkEntries p a 1 0 true s.ctrl.runList
    { shown, first := none, spoilt := false, peakVel := 0, peakAcc := 0, last := start[a], vel := 0 }

/-- R99: the first violation among the axes' walks. -/
def firstViolation (ws : List Walk) : Option Violation :=
  (ws.foldl (fun c w => earlier c w.first) none).map (·.violation)

end State

/-! ### Headroom (R100) -/

/-- R100: q_v, when the peak velocity is not 0. -/
def velocityHeadroom (r : AxisRec) (w : Walk) : Option Nat :=
  if w.peakVel = 0 then none else some (1000 * r.velLimit * 1000000 / w.peakVel)

/-- R100: q_a up to 1,000, when the peak acceleration is not 0. -/
def accelHeadroom (r : AxisRec) (w : Walk) : Option Nat :=
  if w.peakAcc = 0 then none
  else some (((List.range 1001).filter fun q => q * q * w.peakAcc ≤ r.accLimit * 1000000000000000000).length - 1)

/-- R100: q of one axis. -/
def axisHeadroom (r : AxisRec) (w : Walk) : Nat :=
  if w.spoilt then 0
  else min 1000 (min ((velocityHeadroom r w).getD 1000) ((accelHeadroom r w).getD 1000))

/-! ### Notes and signature -/

namespace State

/-- R101: the unconfigured axes that have a track in a move slot. -/
def unusedTracks (s : State) (m : MoveSlot) : List Axis :=
  allAxes.filter fun a => !s.configured a && (s.trackOf m a).isSome

/-- R101. -/
def checkNotes (s : State) : CheckNotes :=
  { speedIgnored := s.clock.cfg.sync = .follower
    unusedTracks := allAxes.filter fun a => s.ctrl.runList.any fun e => (s.unusedTracks e.slot).contains a
    unconfiguredEntries :=
      ((List.range s.ctrl.runList.length).zip s.ctrl.runList).filterMap fun p =>
        if (s.unusedTracks p.2.slot).isEmpty then none else some (p.1 + 1) }

end State

/-- Table 11-3: a run entry. -/
def entryBytes (e : RunEntry) : List Byte :=
  u8 (e.slot.val + 1) ++ u16 e.startFrame ++ u16 e.endFrame ++ u16 e.speed ++ flag e.holdAtEnd

def mapEntryBytes (p : Int × Int) : List Byte := i32 p.1 ++ i32 p.2

namespace State

/-- R102, item 3: what an entry's move and the axis table hold for one axis. -/
def signedAxis (s : State) (e : RunEntry) (a : Axis) : List Byte :=
  let es := (s.axes.maps[a]).getD []
  let ks := (s.trackOf e.slot a).getD []
  i32 s.axes.recs[a].origin ++ u8 es.length ++ es.flatMap mapEntryBytes ++ u16 ks.length ++ ks.flatMap keyBytes

/-- R102: the byte sequence that states the content of the take. -/
def signedBytes (s : State) : List Byte :=
  u32 s.clock.cfg.frameRate ++ s.ctrl.runList.flatMap entryBytes ++
    s.ctrl.runList.flatMap fun e => s.configuredAxes.flatMap (s.signedAxis e)

/-- R102. -/
def takeSignature (s : State) : BitVec 32 := crc32 s.signedBytes

end State

/-! ### The record and its report -/

def violationNumber : ViolationKind → Nat
  | .softLimit => 0
  | .join => 1
  | .velocity => 2
  | .accel => 3

def purposeNumber : Purpose → Nat
  | .check => 0
  | .arm .play => 1
  | .arm .capture => 2

def checkOutcomeNumber : CheckOutcome → Nat
  | .pass => 0
  | .fail => 1
  | .cancelled => 2

/-- Table 5-1: a violation. -/
def violationBytes (v : Violation) : List Byte :=
  u8 (violationNumber v.kind) ++ u8 v.axis.val ++ u32 v.frame ++ u8 v.entry ++ i64 v.found ++ i64 v.limit

/-- Table 5-1: the peaks, over the axes they are given for. -/
def peaksBytes (ps : List AxisPeaks) : List Byte :=
  u16 (maskOf fun a => ps.any fun p => p.axis = a) ++ ps.flatMap fun p => i64 p.velocity ++ i64 p.accel

/-- Table 5-1: the notes, each present when it applies. -/
def notesBytes (n : CheckNotes) : List Byte :=
  flag n.speedIgnored ++
    optional (counted fun a : Axis => u8 a.val) (if n.unusedTracks.isEmpty then none else some n.unusedTracks) ++
    optional (counted u8) (if n.unconfiguredEntries.isEmpty then none else some n.unconfiguredEntries)

/-- Table 5-1: the whole record. -/
def checkBytes (r : CheckRecord) : List Byte :=
  u8 (purposeNumber r.purpose) ++ u8 (checkOutcomeNumber r.outcome) ++ u32 r.total ++ u32 r.walked ++
    optional violationBytes r.violation ++ optional peaksBytes r.peaks ++ optional u16 r.headroom ++
    optional notesBytes r.notes ++ optional (fun g : BitVec 32 => u32 g.toNat) r.signature

/-! ### Beginning, completion, cancellation -/

/-- R103: the axis samples of a walk. -/
def axisSamples (entries frames axes : Nat) : Nat := (frames + entries) * axes

/-- R103: the duration in microseconds, 1 ms for every 4,000 axis samples or part thereof. -/
def checkDuration (samples : Nat) : Nat := 1000 * max 1 (ceilDiv samples 4000)

namespace State

/-- R91, R92: the check takes its purpose and its start values; no check frame has been walked. -/
def startCheck (s : State) (purpose : Purpose) (start : Vector Int 16) : State :=
  let total := totalFrames s.ctrl.runList
  { s with
    check :=
      { s.check with
        progress :=
          some
            { purpose, start, total, taken := 0, first := none, peaks := fill 16 { velocity := 0, accel := 0 }
              timeLeft := checkDuration (axisSamples s.ctrl.runList.length total s.configuredAxes.length) } } }

/-- R91: what a walk has gathered of an axis's peaks. -/
def exactPeaks (w : Walk) : ExactPeaks := { velocity := w.peakVel, accel := w.peakAcc }

/-- R91: the progress with the check frames below `shown` walked: the first violation and the peaks they give. -/
def walkTo (s : State) (p : CheckProgress) (shown : Nat) : CheckProgress :=
  { p with
    taken := shown
    first := firstViolation (s.configuredAxes.map (s.walkAxis p.purpose p.start shown))
    peaks :=
      tabulate fun a =>
        if s.configured a then exactPeaks (s.walkAxis p.purpose p.start shown a) else { velocity := 0, accel := 0 } }

/-- R91, R103: a check under way walks on. How many check frames it walks is open: a free value (entry 9). -/
def advanceWalk (s : State) : State :=
  match s.check.progress with
  | none => s
  | some p =>
    let shown := min (p.total + 1) (p.taken + Config.freeWalk s.openReads)
    { s with check := { s.check with progress := some (s.walkTo p shown) }, openReads := s.openReads + 1 }

/-- R105: a record replaces the last one, the progress is discarded, and the CHECK report is queued. -/
def recordCheck (s : State) (r : CheckRecord) : State :=
  { s with check := { progress := none, record := some r } }.post (.check (checkBytes r))

/-- R99: the peaks of an axis, floored. -/
def peaksOf (a : Axis) (w : Walk) : AxisPeaks :=
  { axis := a, velocity := w.peakVel / 1000000, accel := w.peakAcc / 1000000000000 }

/-- R103: the record of a completed walk. -/
def completedCheck (s : State) (p : CheckProgress) : CheckRecord :=
  let ws := s.configuredAxes.map fun a => (a, s.walkAxis p.purpose p.start (p.total + 1) a)
  let first := firstViolation (ws.map (·.2))
  { purpose := p.purpose, outcome := if first.isNone then .pass else .fail, total := p.total, walked := p.total
    violation := first, peaks := some (ws.map fun x => peaksOf x.1 x.2)
    headroom := some ((ws.map fun x => axisHeadroom s.axes.recs[x.1] x.2).foldl min 1000), notes := some s.checkNotes
    signature := if first.isNone then some s.takeSignature else none }

/-- R104: the record of a cancelled walk. The check frames walked are those after check frame 0 whose samples have all been
taken, so that they reach N_end with the last (R103; DESIGN CHOICE, entry 39). -/
def cancelledCheck (p : CheckProgress) : CheckRecord :=
  { purpose := p.purpose, outcome := .cancelled, total := p.total, walked := p.taken - 1, violation := p.first
    peaks := none, headroom := none, notes := none, signature := none }

/-- R104: a check under way ends CANCELLED, as far as its walk has got. -/
def cancelCheck (s : State) : State :=
  let s1 := s.advanceWalk
  match s1.check.progress with
  | none => s1
  | some p => s1.recordCheck (cancelledCheck p)

end State

end Sys2Proof.Machine
end

