-- ==== Sys2Proof/Machine/Monitor.lean ====
section
/-! DEFINITION. The monitor unit: evaluation events (R130, R136, R138), passing out of evaluation (R137), detachment and
release (R140, R141), the fault set as reports carry it (R125, R142), and MONITOR_SET and MONITOR_GET (R127 to R129). -/

namespace Sys2Proof.Machine

/-! ### Evaluations of one event -/

/-- What the evaluations of one event leave (R139): the monitor unit, the instances they activated, and whether the fault set
changed (R142). -/
structure Evaluated where
  mon : Mon
  activated : List CondId
  changed : Bool
  deriving DecidableEq, Repr

/-- R128, R131: one evaluation; a monitor in mode OFF is passed over. -/
def evaluateOne (stamp : Stamp) (r : Evaluated) (e : Evidence) : Evaluated :=
  let m := r.mon.settings[e.id]
  let i := r.mon.insts[e.id]
  if m.mode = .off then r
  else
    let i' := evaluateInst m stamp i e
    { mon := { r.mon with insts := put r.mon.insts e.id i' }
      activated := if activates m (countRun i e.truth) e then r.activated ++ [e.id] else r.activated
      changed := r.changed || !(i'.active = i.active) }

/-- R130, R136, R138: the evaluations of one event, in order. -/
def evaluateAll (mon : Mon) (stamp : Stamp) (es : List Evidence) : Evaluated :=
  es.foldl (evaluateOne stamp) { mon, activated := [], changed := false }

/-- R126, R139: whether an instance's monitor has this action in force. -/
def hasAction (mon : Mon) (act : Action) (i : CondId) : Bool := inForce mon.settings[i] = some act

/-- R137: instances pass out of evaluation. -/
def passOut (mon : Mon) (ids : List CondId) : Mon :=
  { mon with insts := ids.foldl (fun v i => put v i (passOutInst v[i])) mon.insts }

/-- R142: whether passing these instances out changes the fault set. -/
def passOutChanges (mon : Mon) (ids : List CondId) : Bool := ids.any fun i => !(passOutInst mon.insts[i] = mon.insts[i])

/-- R128: an instance whose runs a MONITOR_SET makes 0. -/
def clearRuns (c : CondInst) : CondInst := { c with trueRun := 0, falseRun := 0 }

/-- R137: the instances that pass out of evaluation when a pass ends. -/
def passEndConds : List CondId := allAxes.map (condOn .repeatDev) ++ [cameraLostCond, cameraSlipCond]

/-- R137: every per-axis instance of an axis. -/
def axisConds (a : Axis) : List CondId :=
  [condOn .follow a, condOn .overspeed a, condOn .limitSw a, condOn .driveFault a, condOn .link a, condOn .repeatDev a]

namespace State

/-- R125: the stamp of an activation now. -/
def stampNow (s : State) : Stamp :=
  { period := s.mon.periodCount, pass := s.ctrl.pass.map fun _ => (s.log.counter, s.clock.passFrame) }

/-! ### Detachment (R140) -/

/-- R140, R166: the generator takes a halt for an axis; with its drive not ON it stands at the setpoint the link forms. -/
def genHalt (s : State) (a : Axis) : State :=
  let g := toHalt (s.currentSetpoint a) s.gen.recs[a]
  s.setGen a (if s.driveOf a = .on then g else { g with x := s.currentSetpoint a, v := 0 })

/-- R140: an AXIS_HALT instance detaches its axis; the first detachment halts it in the generator. -/
def detach (s : State) (i : CondId) : State :=
  let a := condAxis i
  let s1 := if s.isDetached a then s else s.genHalt a
  { s1 with mon := { s1.mon with detached := put s1.mon.detached a (s1.mon.detached[a] ++ [i]) } }

/-! ### Release (R141) -/

/-- R141: the terms of a release. -/
def releasable (s : State) (a : Axis) : Bool :=
  s.isDetached a && s.ctrl.pass.isNone &&
    (s.mon.detached[a].all fun i => !s.mon.insts[i].active && s.mon.insts[i].latched.isNone) && genAtRest s.gen.recs[a]

/-- R166: the generator's record of an axis as it is released: IDLE, or taken up again at once where the controller's state has
the generator as its source and the drive is ON. -/
def releasedGen (s : State) (a : Axis) : GenRec :=
  let g := toIdle s.gen.recs[a]
  if s.driveOf a = .on then
    match s.ctrl.state, s.ctrl.stopForm, s.ctrl.prerollTargets with
    | .preroll, _, some ts => toTarget (s.currentSetpoint a) ts[a] g
    | .jogging, _, _ => toResting (s.currentSetpoint a) g
    | .stopping, some .generator, _ => toResting (s.currentSetpoint a) g
    | .faultStopping, some .generator, _ => toResting (s.currentSetpoint a) g
    | _, _, _ => g
  else g

/-- R141: a releasable axis leaves the detached-axis set. -/
def releaseAxis (s : State) (a : Axis) : State :=
  if s.releasable a then
    let s1 := s.setGen a (s.releasedGen a)
    { s1 with mon := { s1.mon with detached := put s1.mon.detached a [] } }
  else s

/-- R141: every detached axis is considered for release. -/
def releaseAll (s : State) : State := allAxes.foldl releaseAxis s

/-- R141, R142: the release is tested, and a change of the fault set by it, or by what led to it, is reported. -/
def settleFaults (s : State) (changed : Bool) : State :=
  let released := allAxes.any s.releasable
  s.releaseAll.reportFaultsIf (changed || released)

/-- R137, R141, R142: instances pass out of evaluation, the release is tested and the change reported. -/
def passOutConds (s : State) (ids : List CondId) : State :=
  let changed := passOutChanges s.mon ids
  { s with mon := passOut s.mon ids }.settleFaults changed

end State

/-! ### The fault set in replies and reports -/

def actionNumber : Action → Nat
  | .axisHalt => 0
  | .pathStop => 1
  | .driveOff => 2

def monModeNumber : MonMode → Nat
  | .latched => 0
  | .selfClearing => 1
  | .reportOnly => 2
  | .off => 3

/-- R125: each cause by its place in the list of its condition's causes. -/
def causeNumber : Cause → Nat
  | .status => 0
  | .enableTimeout => 1
  | .pos => 0
  | .neg => 1
  | .both => 2

/-- An instance by condition and axis (R143); a rig condition has no axis. -/
def condName (i : CondId) : List Byte :=
  u8 (condNumber i) ++ optional (fun a : Axis => u8 a.val) (if isPerAxisCond i then some (condAxis i) else none)

/-- R125: a stamp. The pass number and the pass frame share one presence byte (DESIGN CHOICE, entry 20). -/
def stampBytes (st : Stamp) : List Byte :=
  u32 st.period.toNat ++ optional (fun p : Nat × Nat => u16 p.1 ++ u16 p.2) st.pass

/-- R125: the items of an instance in their order (entry 20). -/
def instBytes (i : CondId) (c : CondInst) : List Byte :=
  condName i ++ flag c.active ++ flag c.latched.isSome ++ optional (fun a => u8 (actionNumber a)) c.latched ++
    u8 c.trueRun ++ u8 c.falseRun ++ flag c.last ++ optional (fun x => u8 (causeNumber x)) c.cause ++
    optional (fun v : Nat => i64 v) c.value ++ optional stampBytes c.stamp

/-- The 99 instances in order. -/
def allConds : List CondId := List.finRange 99

/-- R125: the instances a FAULT report carries. -/
def isReported (c : CondInst) : Bool := c.active || c.latched.isSome || c.stamp.isSome

/-- R125, R129: the fault set as a FAULT report carries it. -/
def faultBytes (m : Mon) : List Byte :=
  counted (fun i => instBytes i m.insts[i]) (allConds.filter fun i => isReported m.insts[i]) ++
    u16 (maskOf fun a => !m.detached[a].isEmpty)

/-! ### Settings -/

/-- The settings a monitor has, in the order of Table 7-1. -/
def monitorBytes (name : Nat) (m : Monitor) : List Byte :=
  u8 (monModeNumber m.mode) ++ u8 (actionNumber m.action) ++
    optional (beBytes (thresholdSize name)) (if hasThreshold name then some m.threshold else none) ++
    u8 m.deglitch ++ optional u16 (if hasBlanking name then some m.blanking else none)

/-- The settings a MONITOR_SET carries, when each is in its range (R127, test 3). -/
def monitorOf (o : MonitorSetOperands) : Option Monitor :=
  match monModeOf o.mode, actionOf o.action with
  | some mode, some action =>
    if o.name < 9 ∧ (isPerAxis o.name = true ∨ action ≠ .axisHalt) ∧ o.mask ≠ some 0 ∧
        thresholdInRange o.name (o.threshold.getD 0) = true ∧ 1 ≤ o.deglitch ∧ o.deglitch ≤ 16 ∧
        o.blanking.getD 0 ≤ 1000 then
      some { mode, action, threshold := o.threshold.getD 0, deglitch := o.deglitch, blanking := o.blanking.getD 0 }
    else none
  | _, _ => none

/-- R128: the settings written to the instances of a monitor, whose runs become 0. -/
def writeMonitor (mon : Mon) (m : Monitor) (ids : List CondId) : Mon :=
  { mon with
    settings := ids.foldl (fun v i => put v i m) mon.settings
    insts := ids.foldl (fun v i => put v i (clearRuns v[i])) mon.insts }

/-- R128, R142: whether runs that become 0 change the fault set: the change is no evaluation's. -/
def clearRunsChanges (mon : Mon) (ids : List CondId) : Bool := ids.any fun i => !(clearRuns mon.insts[i] = mon.insts[i])

/-- R127, R128. -/
def monitorSet (tag : Byte) (body : List Byte) (s : State) : Tested State := do
  let o ← need .badForm (monitorSetOperands body)
  ensure .notSettable !(o.name = 6)
  let m ← need .badValue (monitorOf o)
  let ids := condsOf o.name (o.mask.getD 0)
  let t := { s with mon := writeMonitor s.mon m ids }.reply Kind.monitorSet tag .ok (monitorBytes o.name m)
  let t1 := t.reportFaultsIf (clearRunsChanges s.mon ids)
  pure (if m.mode = .off then t1.passOutConds ids else t1)

/-- R129: the settings of one monitor, for every axis where it is per axis. -/
def monitorItem (mon : Mon) (name : Nat) : List Byte := (condsOf name 65535).flatMap fun i => monitorBytes name mon.settings[i]

/-- R129. -/
def monitorGet (tag : Byte) (body : List Byte) (s : State) : Tested State := do
  let o ← need .badForm (monitorGetOperands body)
  ensure .badValue (o.getD 0 < 9)
  let names := match o with | some n => [n] | none => [0, 1, 2, 3, 4, 5, 6, 7, 8]
  pure (s.reply Kind.monitorGet tag .ok (counted (monitorItem s.mon) names ++ faultBytes s.mon))

/-! ### Meanings -/

def execMonitorSet (tag : Byte) (body : List Byte) (s : State) : Answer :=
  conclude s Kind.monitorSet tag (monitorSet tag body s)

def execMonitorGet (tag : Byte) (body : List Byte) (s : State) : Answer :=
  conclude s Kind.monitorGet tag (monitorGet tag body s)

end Sys2Proof.Machine
end

