-- ==== Sys2Proof/Machine/Stops.lean ====
section
/-! DEFINITION. The end of a pass (R80), drives turned off (R115, R119, R122), the fault stops (R86 to R88), the monitor unit's
actions (R139), and the notices of the move clock (R51, R56, R78). -/

namespace Sys2Proof.Machine

/-- R118, R119: the link record of an axis turned OFF. -/
def offRec (l : LinkRec) : LinkRec := { l with drive := .off, enableCount := 0, enabling := none }

/-- R122: an acyclic attempt in its slot is abandoned, and its reply ignored. -/
def abandonSlot (p : LinkPeriod) : LinkPeriod :=
  { p with current := match p.current with | .acyclic => .unused | u => u }

namespace State

/-! ### Controller states -/

/-- The controller's state and stop form, before they are reported. -/
def withCtrl (s : State) (st : CtrlState) (form : Option StopForm) : State :=
  { s with ctrl := { s.ctrl with state := st, stopForm := form } }

/-- R68: a change to a state with no stop form. -/
def enter (s : State) (st : CtrlState) : State := (s.withCtrl st none).reportState

/-- R68: a change to a state with a stop form. -/
def enterStop (s : State) (st : CtrlState) (form : StopForm) : State := (s.withCtrl st (some form)).reportState

/-- R71, R73: the arm setpoints and preroll targets are discarded. -/
def discardArm (s : State) : State :=
  { s with ctrl := { s.ctrl with armSetpoints := none, prerollTargets := none, inPos := 0 } }

/-- R73: ARMED returns to IDLE. -/
def abandonArm (s : State) : State := s.discardArm.enter .idle

/-! ### The end of a pass (R80) -/

/-- R22, R80: what becomes of the staging of a CAPTURE pass. -/
def endCapture (s : State) (kind : PassKind) (keep : Bool) : State :=
  match kind with
  | .play => s
  | .capture => s.genEndCapture.withStore (if keep then commitStaging s.store else discardStaging s.store)

/-- R80, stage 4. -/
def clearPass (s : State) : State :=
  { s with
    ctrl :=
      { s.ctrl with
        entry := 0, pass := none, landing := false, armSetpoints := none, prerollTargets := none, ret := none } }

/-- R80, stages 2 to 5, for a pass whose outcome the log has taken. -/
def endPassAfterLog (s : State) (kind : PassKind) (keep : Bool) : State :=
  let s1 := s.endCapture kind keep
  ({ s1 with clock := stopClock s1.clock }.clearPass).passOutConds passEndConds

/-- R80: a pass, when one exists, ends with an outcome. The controller's state is already the one the end leads to (entry 33). -/
def endPass (s : State) (outcome : PassOutcome) : State :=
  match s.ctrl.pass with
  | none => s
  | some kind => (s.closePass outcome).endPassAfterLog kind (!(outcome = .faulted))

/-! ### Drives turned off -/

/-- R73, R85: the run controller meets a configured axis's drive leaving ON. -/
def driveLeftOn (s : State) : State :=
  match s.ctrl.state with
  | .armed => s.abandonArm
  | .held => ((s.withCtrl .idle none).endPass .stopped).reportState
  | .jogging => if s.ctrl.ret.isSome then s.endPass .stopped else s
  | _ => s

/-- R115, R137, R163: one axis turned OFF: its record, and, when it was ON, its use of the generator and its FOLLOW instance. -/
def turnOffAxis (s : State) (a : Axis) : State :=
  match s.driveOf a with
  | .off => s
  | .enabling => s.setLinkRec a (offRec s.link.recs[a])
  | .on =>
    let s1 := (s.setLinkRec a (offRec s.link.recs[a])).genDriveLeft a
    { s1 with mon := passOut s1.mon [condOn .follow a] }

/-- R115: drives turned OFF, with what the run controller and the monitor unit do about it. -/
def turnOff (s : State) (axes : List Axis) : State :=
  let on := axes.filter fun a => s.driveOf a = .on
  let s1 := axes.foldl turnOffAxis s
  let s2 := if on.isEmpty then s1 else s1.driveLeftOn
  s2.settleFaults (passOutChanges s.mon (on.map (condOn .follow)))

/-- R122: the DRIVE_PASS of a transaction is answered ABORTED. -/
def abortPass (s : State) (t : Acyclic) : State := s.reply Kind.drivePass t.tag .aborted []

/-- R122: the transactions that `drop` names leave the queue, each answered ABORTED, oldest first. -/
def abortQueue (s : State) (drop : Acyclic → Bool) : State :=
  let gone := s.link.queue.filter drop
  let s1 := gone.foldl abortPass s
  { s1 with
    link :=
      { s1.link with
        queue := s.link.queue.filter fun t => !drop t
        period := if gone.any (·.flying) then s1.link.period.map abandonSlot else s1.link.period } }

/-- R119, R122: the axis link takes a DRIVE_OFF action: every drive OFF, the acyclic queue emptied. -/
def linkDriveOff (s : State) : State := (s.turnOff allAxes).abortQueue fun _ => true

/-! ### Notices of the move clock -/

/-- R51, R76, R79, R87: "at rest" at the end of a down ramp. -/
def takeAtRest (s : State) : State :=
  match s.clock.ramp with
  | .down .hold _ =>
    { s with clock := restClock s.clock, ctrl := { s.ctrl with landing := false } }.enter .held
  | .down .stop _ => (({ s with clock := stopClock s.clock }.withCtrl .idle none).endPass .stopped).reportState
  | .down .fault _ => (({ s with clock := stopClock s.clock }.withCtrl .faulted none).endPass .faulted).reportState
  | _ => s

/-- R51: a down ramp requested while e is already 0 completes when it is taken (entry 11). -/
def atRestIfStill (s : State) : State := if s.clock.speed = 0 then s.takeAtRest else s

/-- R78: whether the current entry is the last. -/
def onLastEntry (s : State) : Bool := s.ctrl.runList.length ≤ s.ctrl.entry

/-- R78, Table 4-4: "entry end reached". -/
def takeLanding (s : State) : State :=
  match s.ctrl.state with
  | .stopping => ((s.withCtrl .idle none).endPass .stopped).reportState
  | .faultStopping => ((s.withCtrl .faulted none).endPass .faulted).reportState
  | _ =>
    if s.onLastEntry then ((s.withCtrl .idle none).endPass .complete).reportState
    else { s with ctrl := { s.ctrl with landing := true } }.enter .held

/-! ### Actions -/

/-- R86: the clock starts or re-bases a fault ramp, and bound axes stop following their wheels (R175). -/
def faultRampStop (s : State) : State :=
  ({ s with clock := startFaultRamp s.clock }.genEndFollowing.enterStop .faultStopping .path).atRestIfStill

/-- R86, Table 4-6: a PATH_STOP action. Arm setpoints and preroll targets as at a STOP (DESIGN CHOICE, entry 38). -/
def pathStop (s : State) : State :=
  match s.ctrl.state with
  | .idle | .armed => s.discardArm.enter .faulted
  | .checking => s.cancelCheck.discardArm.enter .faulted
  | .preroll => { s with ctrl := { s.ctrl with inPos := 0 } }.genRestAll.enterStop .faultStopping .generator
  | .running =>
    match s.clock.state with
    | .advancing => s.faultRampStop
    | _ => ((s.withCtrl .faulted none).endPass .faulted).reportState
  | .holding => s.faultRampStop
  | .held => ((s.withCtrl .faulted none).endPass .faulted).reportState
  | .jogging | .returning =>
    let s1 := { s with ctrl := { s.ctrl with inPos := 0 } }.withCtrl .faultStopping (some .generator)
    (s1.endPass .faulted).genRestAll.reportState
  | .stopping =>
    match s.ctrl.stopForm with
    | some .generator => s.enterStop .faultStopping .generator
    | _ => s.faultRampStop
  | .faultStopping =>
    match s.ctrl.stopForm with
    | some .generator => s
    | _ => { s with clock := startFaultRamp s.clock }.atRestIfStill
  | .faulted => s

/-- R88: the run controller, the clock, the generator and the check take a DRIVE_OFF action. -/
def controllerDriveOff (s : State) : State :=
  if s.ctrl.state = .faulted then s
  else
    let s1 := ({ s with clock := stopClock s.clock }.cancelCheck.withCtrl .faulted none).endPass .faulted
    s1.discardArm.genDropAll.reportState

/-- R88, R139: a DRIVE_OFF action goes to the run controller first, then to the axis link. -/
def driveOffAction (s : State) : State := s.controllerDriveOff.linkDriveOff

/-- R139, R140: the actions of one evaluation event: AXIS_HALT for each of its instances, then the most severe of PATH_STOP and
DRIVE_OFF, then the FAULT report. -/
def actOn (s : State) (ids : List CondId) (changed : Bool) : State :=
  let halts := ids.filter (hasAction s.mon .axisHalt)
  let s1 := halts.foldl detach s
  let s2 := if !halts.isEmpty && s1.ctrl.state = .armed then s1.abandonArm else s1
  let s3 :=
    if ids.any (hasAction s.mon .driveOff) then s2.driveOffAction
    else if ids.any (hasAction s.mon .pathStop) then s2.pathStop
    else s2
  s3.settleFaults (changed || !halts.isEmpty)

/-- R130, R139: one evaluation event: its evaluations are recorded, then acted on together. -/
def evaluateEvent (s : State) (es : List Evidence) : State :=
  let r := evaluateAll s.mon s.stampNow es
  { s with mon := r.mon }.actOn r.activated r.changed

/-- R134: the ESTOP evaluation. -/
def evaluateEstop (s : State) : State := s.evaluateEvent [estopEvidence s.estopActive]

end State

end Sys2Proof.Machine
end

