-- ==== Sys2Proof/Machine/Link.lean ====
section
/-! DEFINITION. The axis link: the grant of slots (R111), transactions and replies (R109 to R113, R117, R121), the close of the
feedback batch (R114) with the per-axis evaluations (R131), the in-position count (R72, R84) and the frame record (R150), and
the link's requests (R116, R118, R120, R123). -/

namespace Sys2Proof.Machine

/-! ### Transactions -/

/-- R107, R111: whether an acyclic transaction may claim a slot of the period: it is not in flight, and its axis has been configured
since the period began, for the transactions of an axis configured later begin with the next period (entry 40). -/
def mayClaim (p : LinkPeriod) (t : Acyclic) : Bool := p.axes.contains t.axis && !t.flying

/-- R111, R121: the queue with the oldest transaction that may claim in its slot. -/
def launch (p : LinkPeriod) : List Acyclic → List Acyclic
  | [] => []
  | t :: rest => if mayClaim p t then { t with flying := true } :: rest else t :: launch p rest

/-- The transaction in flight. -/
def flyingOf (q : List Acyclic) : Option Acyclic := q.find? (·.flying)

/-- R111: whether the aged claim waits: the head has waited 8 or more periods and the claim has not been granted in this
period. -/
def agedWaits (p : LinkPeriod) (q : List Acyclic) : Bool :=
  !p.agedDone &&
    match q with
    | t :: _ => 8 ≤ t.age && mayClaim p t
    | [] => false

/-- R111: the claims in their order. -/
inductive Grant where
  | first (axis : Axis)
  | aged
  | retry (axis : Axis)
  | further
  | nothing
  deriving DecidableEq, Repr

/-- R111: the first waiting claim. -/
def nextGrant (p : LinkPeriod) (q : List Acyclic) : Grant :=
  match p.first, p.retries with
  | a :: _, _ => .first a
  | [], a :: _ => if agedWaits p q then .aged else .retry a
  | [], [] => if agedWaits p q then .aged else if q.any (mayClaim p) then .further else .nothing

/-- R108, R111: the period with its present slot granted. -/
def grantIn (p : LinkPeriod) : Grant → LinkPeriod
  | .first a => { p with current := .setpoint a false, first := p.first.tail }
  | .aged => { p with current := .acyclic, agedDone := true }
  | .retry a => { p with current := .setpoint a true, retries := p.retries.tail }
  | .further => { p with current := .acyclic }
  | .nothing => { p with current := .unused }

namespace State

/-- R112: a setpoint transaction is made, with the setpoint and enable flag that the drive state calls for now. -/
def sendSetpoint (s : State) (a : Axis) : State :=
  let sp := s.currentSetpoint a
  let s1 := if s.configured a then s.setLinkRec a { s.link.recs[a] with lastSent := sp } else s
  { s1 with link := { s1.link with sent := setpointFrame a sp (!(s.driveOf a = .off)) } }

/-- R121: an attempt of the oldest waiting acyclic transaction is made. -/
def sendAcyclic (s : State) (p : LinkPeriod) : State :=
  match s.link.queue.find? (mayClaim p) with
  | none => s
  | some t => { s with link := { s.link with queue := launch p s.link.queue, sent := acyclicFrame t } }

/-- R111: the present slot is granted to the first waiting claim. -/
def grantSlot (s : State) (p : LinkPeriod) : State :=
  let g := nextGrant p s.link.queue
  let s1 := { s with link := { s.link with period := some (grantIn p g) } }
  match g with
  | .first a | .retry a => s1.sendSetpoint a
  | .aged | .further => s1.sendAcyclic p
  | .nothing => s1

/-- R108: the slots of a period begin: one first attempt waits for each configured axis. -/
def startPeriod (s : State) : State :=
  s.grantSlot
    { left := slotsOf s.clock.period - 1, axes := s.configuredAxes, first := s.configuredAxes, retries := [], good := []
      current := .unused, agedDone := false }

/-! ### Replies -/

/-- R117, R131, R163, R166: an ENABLING axis becomes ON. -/
def arriveOn (s : State) (a : Axis) (sp : Int) : State :=
  let s1 := s.setLinkRec a { s.link.recs[a] with drive := .on, enableCount := 0, enabling := none }
  let g := s1.gen.recs[a]
  let g' :=
    if g.mode = .halt then { g with x := sp, v := 0 }
    else if s1.ctrl.state = .jogging && !s1.isDetached a then toResting sp g
    else g
  let s2 := s1.setGen a g'
  { s2 with
    ctrl := { s2.ctrl with setpoints := put s2.ctrl.setpoints a sp, clamped := put s2.ctrl.clamped a false }
    mon := { s2.mon with blank := put s2.mon.blank a (s2.mon.settings[condOn .follow a]).blanking } }

/-- R113, R117: a good setpoint reply updates the axis's feedback; the first with READY set moves an ENABLING axis to ON. -/
def takeFeedback (s : State) (a : Axis) (r : SetpointReply) : State :=
  let l := s.link.recs[a]
  let s1 := s.setLinkRec a { l with measured := r.measured, flags := r.flags, stale := false, misses := 0 }
  if l.drive = .enabling && r.flags.ready then s1.arriveOn a (l.enabling.getD l.measured) else s1

/-- R121: the answer of an acyclic transaction's DRIVE_PASS. -/
def answerPass (s : State) (t : Acyclic) (r : AcyclicReply) : State :=
  if r.done then s.reply Kind.drivePass t.tag .ok (u32 r.value.toNat) else s.reply Kind.drivePass t.tag .badValue []

/-- R121: the transaction in flight leaves the queue. -/
def dropFlying (s : State) : State :=
  { s with link := { s.link with queue := s.link.queue.filter fun t => !t.flying } }

/-- R111: the present slot needs no more of its transaction. -/
def slotDone (s : State) (p : LinkPeriod) : State :=
  { s with link := { s.link with period := some { p with current := .unused } } }

/-- R109, R113, R121: the bytes that reach the 1620 within the present slot; a reply that is not good is no reply. -/
def takeReply (s : State) (bytes : List Byte) : State :=
  match s.link.period with
  | none => s
  | some p =>
    match p.current with
    | .unused => s
    | .setpoint a _ =>
      match goodSetpointReply a bytes with
      | none => s
      | some r =>
        let s1 := s.slotDone { p with good := a :: p.good }
        if s.configured a then s1.takeFeedback a r else s1
    | .acyclic =>
      match flyingOf s.link.queue with
      | none => s
      | some t =>
        match goodAcyclicReply t.axis bytes with
        | none => s
        | some r => ((s.slotDone p).dropFlying).answerPass t r

/-! ### The end of a slot -/

/-- R121: an attempt that gave no good reply: after the third the transaction leaves the queue. -/
def failAttempt (s : State) (t : Acyclic) : State :=
  if 2 ≤ t.fails then s.dropFlying.reply Kind.drivePass t.tag .noResponse []
  else
    { s with
      link :=
        { s.link with
          queue := s.link.queue.map fun u => if u.flying then { u with flying := false, fails := u.fails + 1 } else u } }

/-- R111, R121: the present slot ends; a first attempt with no good reply gives rise to a retry claim. -/
def endAttempt (s : State) (p : LinkPeriod) : State × LinkPeriod :=
  match p.current with
  | .unused => (s, p)
  | .setpoint a false => (s, { p with retries := p.retries ++ [a], current := .unused })
  | .setpoint _ true => (s, { p with current := .unused })
  | .acyclic =>
    match flyingOf s.link.queue with
    | none => (s, { p with current := .unused })
    | some t => (s.failAttempt t, { p with current := .unused })

/-! ### The close of the feedback batch -/

/-- R113, R117: a link record at the close: MISSED outcomes, and the enable count of an axis still ENABLING. -/
def closeRec (p : LinkPeriod) (configured : Bool) (a : Axis) (l : LinkRec) : LinkRec :=
  let l1 :=
    if configured && p.axes.contains a && !p.good.contains a then { l with stale := true, misses := satSucc 255 l.misses }
    else l
  if l1.drive = .enabling then { l1 with enableCount := satSucc 100 l1.enableCount } else l1

/-- R114: the item of an axis. -/
def batchItem (s : State) (p : LinkPeriod) (a : Axis) : Option BatchItem :=
  if p.axes.contains a && s.configured a then
    let l := s.link.recs[a]
    some
      { setpoint := l.lastSent, measured := l.measured, stale := !p.good.contains a
        clamped := s.ctrl.clamped[a] && l.drive = .on, detached := s.isDetached a, flags := l.flags, drive := l.drive }
  else none

/-- R123: what LINK_GET shows from this close on. -/
def snapOf (configured : Bool) (l : LinkRec) : LinkSnap :=
  { configured, stale := l.stale, misses := l.misses, measured := l.measured, flags := l.flags }

/-- R117: the enable count reaches 100 at this close: the axis's timeout is due (entry 1). -/
def timesOut (l : LinkRec) : Bool := l.drive = .enabling && l.enableCount = 100

/-- R113, R114, R117, R120, R123: the outcomes fixed, the batch closed, the enable timeouts marked, the queue aged by one period.
-/
def closeLink (s : State) (p : LinkPeriod) : State :=
  let recs := tabulate fun a => closeRec p (s.configured a) a s.link.recs[a]
  let s1 := { s with link := { s.link with recs } }
  { s1 with
    link :=
      { s1.link with
        period := none, batch := tabulate (s1.batchItem p), prevBatch := s.link.batch
        snap := tabulate fun a => snapOf (s.configured a) recs[a], snapQueue := s.link.queue.length
        due := tabulate fun a => s.link.due[a] || timesOut recs[a]
        queue := s1.link.queue.map fun t => { t with age := satSucc 255 t.age } } }

/-- R131: FOLLOW of an axis at a close. -/
def followAt (s : State) (a : Axis) (b : BatchItem) : List Evidence :=
  if b.drive = .on && !b.stale && s.mon.blank[a] = 0 then
    [followEvidence a (s.mon.settings[condOn .follow a]).threshold b]
  else []

/-- R131: OVERSPEED of an axis at a close. -/
def overspeedAt (s : State) (a : Axis) (b : BatchItem) : List Evidence :=
  match s.link.prevBatch[a] with
  | some prev =>
    if b.stale || prev.stale then []
    else [overspeedEvidence a (s.mon.settings[condOn .overspeed a]).threshold s.clock.period b prev]
  | none => []

/-- R131, R132: DRIVE_FAULT of an axis at a close; an enable timeout that is due takes its place. -/
def driveFaultAt (s : State) (a : Axis) (b : BatchItem) : List Evidence :=
  if s.link.due[a] then [] else [driveFaultEvidence a b.flags]

/-- R131: the five evaluations of an axis at a close. -/
def axisEvaluations (s : State) (a : Axis) : List Evidence :=
  match s.link.batch[a] with
  | none => []
  | some b =>
    s.followAt a b ++ s.overspeedAt a b ++ [limitEvidence a b.flags] ++ s.driveFaultAt a b ++
      [linkEvidence a (s.mon.settings[condOn .link a]).threshold s.link.recs[a].misses]

/-- R131: the blanking counts fall at a close. -/
def fallBlanking (s : State) : State :=
  { s with
    mon :=
      { s.mon with
        blank := tabulate fun a => if s.link.batch[a].isSome then s.mon.blank[a] - 1 else s.mon.blank[a] } }

/-- R131, R139: the monitor unit takes the batch. -/
def monitorBatch (s : State) : State := s.fallBlanking.evaluateEvent (allAxes.flatMap s.axisEvaluations)

/-- R72: an axis is in position. -/
def inPosition (s : State) (a : Axis) : Bool :=
  match s.link.batch[a] with
  | none => true
  | some b =>
    let g := s.gen.recs[a]
    hasArrived g && !b.stale && (b.measured - g.target.getD g.x).natAbs ≤ s.axes.recs[a].window

/-- R72, R84: the in-position count after the feedback batch. -/
def countInPosition (s : State) : State :=
  if s.ctrl.state = .preroll || s.ctrl.state = .returning then
    let n := if s.configuredAxes.all s.inPosition && !(allAxes.any s.isDetached) then satSucc 10 s.ctrl.inPos else 0
    { s with ctrl := { s.ctrl with inPos := n } }
  else s

/-- R150, R153, R154: the pass log writes the record of a crossing, closes a pass that waits for it, and hands its REPEAT
evaluations on when the pass goes on. -/
def logCrossing (s : State) : State :=
  match s.log.crossing with
  | none => s
  | some c =>
    let r := frameRecord c s.crossingSample
    let es := if s.log.closing.isNone then repeatEvaluations s.log s.mon r else []
    let s1 := s.recordFrame c r
    ({ s1 with log := { s1.log with crossing := none } }.finishClosing).evaluateEvent es

/-- R114: the feedback batch closes and is handed on to the monitor unit, the run controller and the pass log (entry 8). -/
def closeBatch (s : State) (p : LinkPeriod) : State := (s.closeLink p).monitorBatch.countInPosition.logCrossing

/-- R111, R114: a slot ends; the next is granted, or the period closes. -/
def endSlot (s : State) (p : LinkPeriod) : State :=
  let r := s.endAttempt p
  if 0 < r.2.left then r.1.grantSlot { r.2 with left := r.2.left - 1 } else r.1.closeBatch r.2

/-- Entry 21: the slots of a period that remain end with no reply; `fuel` bounds them. -/
def finishSlots : Nat → State → State
  | 0, s => s
  | fuel + 1, s =>
    match s.link.period with
    | none => s
    | some p => finishSlots fuel (s.endSlot p)

/-- R108, entry 21: a period in progress is brought to its close. -/
def finishPeriod (s : State) : State :=
  match s.link.period with
  | none => s
  | some p => finishSlots (p.left + 1) s

/-- R117: the axis whose timeout has fallen becomes OFF, where nothing has turned it OFF meanwhile, and its mark is cleared. -/
def endEnabling (s : State) (a : Axis) : State :=
  let s1 := if timesOut s.link.recs[a] then s.setLinkRec a (offRec s.link.recs[a]) else s
  { s1 with link := { s1.link with due := put s1.link.due a false } }

/-- R117, R132: an enable timeout that is due: the axis becomes OFF, and DRIVE_FAULT is evaluated true whatever has happened to the
axis since the close (entry 1). -/
def enableTimesOut (s : State) (a : Axis) : State :=
  if s.link.due[a] then (s.endEnabling a).evaluateEvent [enableTimeoutEvidence a] else s

end State

/-! ### Requests -/

def driveNumber : DriveState → Nat
  | .off => 0
  | .enabling => 1
  | .on => 2

/-- R116: how DRIVES_ON lists an axis. -/
inductive DriveListing where
  | unchanged | noFeedback | outsideLimits | enabling
  deriving DecidableEq, Repr

def listingNumber : DriveListing → Nat
  | .unchanged => 0
  | .noFeedback => 1
  | .outsideLimits => 2
  | .enabling => 3

/-- R116: how an accepted DRIVES_ON treats an axis. -/
def driveListing (r : AxisRec) (l : LinkRec) : DriveListing :=
  if r.configured && l.drive = .off then
    if l.stale then .noFeedback
    else if l.measured < r.softMin || r.softMax < l.measured then .outsideLimits
    else .enabling
  else .unchanged

/-- R116: the link record of an axis that becomes ENABLING. -/
def enablingRec (l : LinkRec) : LinkRec := { l with drive := .enabling, enabling := some l.measured, enableCount := 0 }

namespace State

def listingOf (s : State) (a : Axis) : DriveListing := driveListing s.axes.recs[a] s.link.recs[a]

/-- R116: the named axes that may be enabled become ENABLING. -/
def enableDrives (s : State) (mask : Nat) : State :=
  { s with
    link :=
      { s.link with
        recs :=
          tabulate fun a =>
            if mask.testBit a.val && s.listingOf a = .enabling then enablingRec s.link.recs[a] else s.link.recs[a] } }

/-- R116: an axis in the reply's list: UNCHANGED with its drive state. -/
def listingBytes (s : State) (a : Axis) : List Byte :=
  u8 (listingNumber (s.listingOf a)) ++
    optional (fun d => u8 (driveNumber d)) (if s.listingOf a = .unchanged then some (s.driveOf a) else none)

/-- R116, test 4: a latched condition whose action is DRIVE_OFF. -/
def driveOffLatched (s : State) : Bool := allConds.any fun i => s.mon.insts[i].latched = some .driveOff

/-- R118: the states that refuse DRIVES_OFF. -/
def drivesHeldOn (s : State) : Bool :=
  match s.ctrl.state with
  | .running | .holding | .preroll | .returning | .stopping => true
  | _ => false

end State

/-- R116. -/
def drivesOn (tag : Byte) (body : List Byte) (s : State) : Tested State := do
  let mask ← need .badForm (oneMask body)
  ensure .badValue !(mask = 0)
  ensure .wrongState !s.runPending
  ensure .faultActive !(s.driveOffLatched || s.estopActive)
  pure ((s.enableDrives mask).reply Kind.drivesOn tag .ok (overAxes (fun a => mask.testBit a.val) s.listingBytes))

/-- R118: the reply lists each named axis with its drive state afterwards, which is OFF. -/
def drivesOff (tag : Byte) (body : List Byte) (s : State) : Tested State := do
  let mask ← need .badForm (oneMask body)
  ensure .badValue !(mask = 0)
  ensure .wrongState !s.drivesHeldOn
  let t := s.reply Kind.drivesOff tag .ok (overAxes (fun a => mask.testBit a.val) fun _ => u8 (driveNumber .off))
  pure (t.turnOff (allAxes.filter fun a => mask.testBit a.val))

/-- R120: the transaction of an accepted DRIVE_PASS. -/
def newAcyclic (a : Axis) (index : Byte) (op : AcyclicOp) (value : BitVec 32) (tag : Byte) : Acyclic :=
  { axis := a, index, op, value, tag, age := 0, fails := 0, flying := false }

/-- R120: an accepted DRIVE_PASS gets no immediate reply. -/
def drivePass (tag : Byte) (body : List Byte) (s : State) : Tested State := do
  let o ← need .badForm (drivePassOperands body)
  let a ← need .badValue (axisOf o.axis)
  let op ← need .badValue (acyclicOpOf o.op)
  ensure .noSuch (s.configured a)
  ensure .full (s.link.queue.length < 4)
  pure { s with link := { s.link with queue := s.link.queue ++ [newAcyclic a o.index op o.value tag] } }

/-- R109: the four status flags. -/
def driveFlagBytes (f : DriveFlags) : List Byte := flag f.ready ++ flag f.fault ++ flag f.limitPos ++ flag f.limitNeg

/-- R123: the items of one axis: as at the last close, but for its drive state and enable count, which stand as now. -/
def linkItem (s : State) (a : Axis) : List Byte :=
  let l := s.link.recs[a]
  let z := s.link.snap[a]
  flag z.configured ++ u8 (driveNumber l.drive) ++
    optional u8 (if l.drive = .enabling then some l.enableCount else none) ++ flag z.stale ++ u8 z.misses ++
    i32 z.measured ++ driveFlagBytes z.flags

/-- R123. -/
def linkGet (tag : Byte) (body : List Byte) (s : State) : Tested State := do
  need .badForm (noFields body)
  pure (s.reply Kind.linkGet tag .ok (u8 s.link.snapQueue ++ allAxes.flatMap (linkItem s)))

/-! ### Meanings -/

def execDrivesOn (tag : Byte) (body : List Byte) (s : State) : Answer :=
  conclude s Kind.drivesOn tag (drivesOn tag body s)

def execDrivesOff (tag : Byte) (body : List Byte) (s : State) : Answer :=
  conclude s Kind.drivesOff tag (drivesOff tag body s)

def execDrivePass (tag : Byte) (body : List Byte) (s : State) : Answer :=
  conclude s Kind.drivePass tag (drivePass tag body s)

def execLinkGet (tag : Byte) (body : List Byte) (s : State) : Answer := conclude s Kind.linkGet tag (linkGet tag body s)

/-- DRIVE_REPLY (R113). -/
def execDriveReply (bytes : List Byte) (s : State) : Answer := .next (s.takeReply bytes)

/-- ENABLE_TIMEOUT (R117), when it is due (entries 1, 4). -/
def execEnableTimeout (axis : Axis) (s : State) : Answer := .next (s.enableTimesOut axis)

end Sys2Proof.Machine
end

