-- ==== Sys2Proof/Machine/Axis.lean ====
section
/-! DEFINITION. The axis table: AXIS_SET and AXIS_GET (R26 to R29), lens maps (R31, R32), and EVAL_PROBE (R42, R43). -/

namespace Sys2Proof.Machine

/-! ### Axis records -/

/-- The record an AXIS_SET carries, when each field is in its range (R26, test 2). -/
def axisRecOf (o : AxisSetOperands) : Option AxisRec :=
  match boolOf o.configured with
  | none => none
  | some configured =>
    if o.softMin < o.softMax ∧ 1 ≤ o.velLimit ∧ o.velLimit ≤ 2147483647 ∧ 1 ≤ o.accLimit ∧ o.accLimit ≤ 2147483647 ∧
        1 ≤ o.jogVel ∧ o.jogVel ≤ 2147483647 ∧ 1 ≤ o.jogAcc ∧ o.jogAcc ≤ 2147483647 then
      some { configured, softMin := o.softMin, softMax := o.softMax, origin := o.origin, velLimit := o.velLimit
             accLimit := o.accLimit, jogVel := o.jogVel, jogAcc := o.jogAcc, window := o.window }
    else none

/-- The fields of Table 2-1 in its order. -/
def axisRecBytes (r : AxisRec) : List Byte :=
  flag r.configured ++ i32 r.softMin ++ i32 r.softMax ++ i32 r.origin ++ u32 r.velLimit ++ u32 r.accLimit ++
    u32 r.jogVel ++ u32 r.jogAcc ++ u16 r.window

/-- R107, R113: an axis that becomes configured is not part of the period in progress (entry 22). -/
def leavePeriod (a : Axis) (p : LinkPeriod) : LinkPeriod :=
  { p with
    axes := p.axes.filter (fun b => !(b = a)), first := p.first.filter (fun b => !(b = a))
    retries := p.retries.filter (fun b => !(b = a)), good := p.good.filter (fun b => !(b = a))
    current := match p.current with | .setpoint b r => if b = a then .unused else .setpoint b r | u => u }

namespace State

/-- R26, test 5: the new soft limits hold the present setpoint of an axis whose drive is not OFF. -/
def setpointInside (s : State) (a : Axis) (r : AxisRec) : Bool :=
  s.driveOf a = .off || (r.softMin ≤ s.currentSetpoint a && s.currentSetpoint a ≤ r.softMax)

/-- R26, test 6: the configured axes after the change fit the link slots. -/
def slotsSuffice (s : State) (a : Axis) (r : AxisRec) : Bool :=
  !r.configured || s.configured a || s.configuredAxes.length + 1 ≤ slotsOf (periodOf s.clock.cfg.servoRate)

/-- R27: the record replaced. -/
def storeAxis (s : State) (a : Axis) (r : AxisRec) : State :=
  { s with axes := { s.axes with recs := put s.axes.recs a r } }

/-- R107: configuring an axis gives its link record its values. -/
def configureLink (s : State) (a : Axis) : State :=
  let s1 := s.setLinkRec a LinkRec.reset
  { s1 with link := { s1.link with period := s1.link.period.map (leavePeriod a) } }

/-- R122, R137: un-configuring an axis removes its acyclic transactions and passes its instances out of evaluation; an enable
timeout of the axis that is due is taken first (entry 1). -/
def unconfigureAxis (s : State) (a : Axis) : State :=
  ((s.enableTimesOut a).abortQueue fun t => t.axis = a).passOutConds (axisConds a)

end State

/-- R26, R27. Its own reply goes before the ABORTED replies of R122 (DESIGN CHOICE, entry 24). -/
def axisSet (tag : Byte) (body : List Byte) (s : State) : Tested State := do
  let o ← need .badForm (axisSetOperands body)
  let a ← need .badValue (axisOf o.axis)
  let r ← need .badValue (axisRecOf o)
  ensure .inUse !s.runPending
  ensure .wrongState (r.configured || s.driveOf a = .off)
  ensure .badValue (s.setpointInside a r)
  ensure .badValue (s.slotsSuffice a r)
  let t := (s.storeAxis a r).reply Kind.axisSet tag .ok (axisRecBytes r)
  pure
    (if r.configured && !s.configured a then t.configureLink a
     else if !r.configured && s.configured a then t.unconfigureAxis a
     else t)

/-- R29. -/
def axisGet (tag : Byte) (body : List Byte) (s : State) : Tested State := do
  let n ← need .badForm (oneByte body)
  let a ← need .badValue (axisOf n)
  pure (s.reply Kind.axisGet tag .ok
    (axisRecBytes s.axes.recs[a] ++ flag s.axes.maps[a].isSome ++ optional (counted mapEntryBytes) s.axes.maps[a]))

/-! ### Lens maps -/

/-- R31: inputs strictly increasing. -/
def risingInputs : LensMap → Bool
  | [] => true
  | [_] => true
  | a :: b :: rest => a.1 < b.1 && risingInputs (b :: rest)

/-- R30: the map of an axis replaced. -/
def storeMap (s : State) (a : Axis) (m : Option LensMap) : State :=
  { s with axes := { s.axes with maps := put s.axes.maps a m } }

/-- R31. -/
def mapLoad (tag : Byte) (body : List Byte) (s : State) : Tested State := do
  let (n, es) ← need .badForm (mapLoadOperands body)
  let a ← need .badValue (axisOf n)
  ensure .inUse !s.runPending
  ensure .badValue (risingInputs es)
  pure ((storeMap s a (some es)).reply Kind.mapLoad tag .ok (u8 es.length))

/-- R32. -/
def mapClear (tag : Byte) (body : List Byte) (s : State) : Tested State := do
  let n ← need .badForm (oneByte body)
  let a ← need .badValue (axisOf n)
  ensure .inUse !s.runPending
  pure ((storeMap s a none).reply Kind.mapClear tag .ok [])

/-! ### EVAL_PROBE -/

def caseNumber : EvalCase → Nat
  | .noTrack => 0
  | .beforeFirst => 1
  | .afterLast => 2
  | .segment _ => 3

/-- The key that opens the segment, for SEGMENT (Table 2-5). -/
def caseIndex : EvalCase → Option Nat
  | .segment k => some k
  | _ => none

/-- Table 2-5; the rounded and mapped values saturate to the signed 32-bit range (R43). -/
def probeBytes (e : Evaluation) : List Byte :=
  u8 (caseNumber e.found) ++ optional u16 (caseIndex e.found) ++ optional u16 e.frac ++
    optional (fun p : Int × Int => i32 p.1 ++ i32 p.2) e.tangents ++ i32 (sat32 e.rounded) ++ i32 (sat32 e.mapped) ++
    i32 e.setpoint ++ flag e.clamped

/-- R42, R43. -/
def evalProbe (tag : Byte) (body : List Byte) (s : State) : Tested State := do
  let o ← need .badForm (evalProbeOperands body)
  let m ← need .badValue (moveSlotOf o.slot)
  let a ← need .badValue (axisOf o.axis)
  ensure .noSuch s.store.moves[m].isSome
  ensure .noSuch (s.configured a || (s.trackOf m a).isSome)
  pure (s.reply Kind.evalProbe tag .ok (probeBytes (s.evaluate m a o.time (s.heldValue a (s.currentSetpoint a)))))

/-! ### Meanings -/

def execAxisSet (tag : Byte) (body : List Byte) (s : State) : Answer := conclude s Kind.axisSet tag (axisSet tag body s)

def execAxisGet (tag : Byte) (body : List Byte) (s : State) : Answer := conclude s Kind.axisGet tag (axisGet tag body s)

def execMapLoad (tag : Byte) (body : List Byte) (s : State) : Answer := conclude s Kind.mapLoad tag (mapLoad tag body s)

def execMapClear (tag : Byte) (body : List Byte) (s : State) : Answer := conclude s Kind.mapClear tag (mapClear tag body s)

def execEvalProbe (tag : Byte) (body : List Byte) (s : State) : Answer :=
  conclude s Kind.evalProbe tag (evalProbe tag body s)

end Sys2Proof.Machine
end

