-- ==== Sys2Proof/Machine/Jog.lean ====
section
/-! DEFINITION. Jogging: JOG and JOG_BIND with the state change they make (R81, R82, R167, R170, R171), and the expiry of a
refresh timer (R168). -/

namespace Sys2Proof.Machine

namespace State

/-- R81: the states that take a jog. -/
def jogAllowed (s : State) : Bool :=
  match s.ctrl.state with
  | .idle | .jogging => true
  | .held => s.ctrl.pass = some .play
  | _ => false

/-- R82: the held pass's place on the path. -/
def returnRecord (s : State) : ReturnRec :=
  { entry := s.ctrl.entry, landing := s.ctrl.landing, time := s.clock.time, dir := s.clock.dir, travel := s.clock.travel
    passFrame := s.clock.passFrame, rem := s.clock.rem, speed := s.clock.speed, setpoints := s.ctrl.setpoints }

/-- R165, R167: every configured axis that is ON and not detached is taken up in RESTING. -/
def takeUpAll (s : State) : State :=
  s.mapGen fun a g =>
    if s.configured a && !s.isDetached a && s.driveOf a = .on then toResting (s.currentSetpoint a) g else g

/-- R81, R82, R167: the state change of an accepted jog. -/
def enterJogging (s : State) : State :=
  match s.ctrl.state with
  | .jogging => s
  | .held =>
    let s1 := s.takeUpAll
    { s1 with
      clock := stopClock s1.clock
      ctrl := { s1.ctrl with ret := some (s1.ctrl.ret.getD s.returnRecord) } }.enter .jogging
  | _ => s.takeUpAll.enter .jogging

/-- R167, tests 3 to 5. -/
def jogTests (s : State) (a : Axis) : Tested Unit := do
  ensure .noSuch (s.configured a)
  ensure .wrongState (s.driveOf a = .on)
  ensure .faultActive !(s.isDetached a)

end State

/-- R167: the velocity clamped to the jog velocity. -/
def clampJog (r : AxisRec) (v : Int) : Int := max (-(r.jogVel : Int)) (min r.jogVel v)

/-- R167: the record of a jogged axis. -/
def jogGen (r : AxisRec) (setpoint vt : Int) (g : GenRec) : GenRec :=
  if vt = 0 then toResting setpoint g else toVelocity setpoint vt (jogTarget r vt) g

/-- R81, R167. -/
def jog (tag : Byte) (body : List Byte) (s : State) : Tested State := do
  ensure .wrongState s.jogAllowed
  let (n, v) ← need .badForm (jogOperands body)
  let a ← need .badValue (axisOf n)
  s.jogTests a
  let vt := clampJog s.axes.recs[a] v
  let t := (s.reply Kind.jog tag .ok (i32 vt)).enterJogging
  pure (t.setGen a (jogGen s.axes.recs[a] (s.currentSetpoint a) vt t.gen.recs[a]))

/-- R170: a wheel of 0 to 3 with its ratio. -/
def wheelRatioOf (p : Nat × Int) : Option (Wheel × Int) := (wheelOf p.1).map fun w => (w, p.2)

/-- R170: the wheel and ratio of a JOG_BIND, or NONE; no answer for a wheel that does not exist. -/
def bindChoice : Option (Nat × Int) → Option (Option (Wheel × Int))
  | none => some none
  | some p => (wheelRatioOf p).map some

/-- R171: an axis in WHEEL passes to RESTING. -/
def unbindGen (setpoint : Int) (g : GenRec) : GenRec := if g.mode = .wheel then toResting setpoint g else g

/-- R170, R171. -/
def jogBind (tag : Byte) (body : List Byte) (s : State) : Tested State := do
  ensure .wrongState s.jogAllowed
  let (n, raw) ← need .badForm (jogBindOperands body)
  let a ← need .badValue (axisOf n)
  let choice ← need .badValue (bindChoice raw)
  s.jogTests a
  let t := s.reply Kind.jogBind tag .ok []
  pure
    (match choice with
      | none => t.setGen a (unbindGen (s.currentSetpoint a) t.gen.recs[a])
      | some (w, ratio) =>
        let t1 := t.enterJogging
        t1.setGen a (toWheel (s.currentSetpoint a) w ratio s.wheels.counters[w] t1.gen.recs[a]))

/-- R168: whether the refresh timer of a record expires within the present servo period (entry 2). -/
def refreshDue (period : Nat) (g : GenRec) : Bool :=
  g.mode = .velocity &&
    match g.refresh with
    | some n => n ≤ period
    | none => false

/-- R168: vt becomes 0, the axis passes to RESTING and its timer stops. -/
def State.expireRefresh (s : State) (a : Axis) : State :=
  if refreshDue s.clock.period s.gen.recs[a] then s.setGen a (toResting (s.currentSetpoint a) s.gen.recs[a]) else s

/-! ### Meanings -/

def execJog (tag : Byte) (body : List Byte) (s : State) : Answer := conclude s Kind.jog tag (jog tag body s)

def execJogBind (tag : Byte) (body : List Byte) (s : State) : Answer := conclude s Kind.jogBind tag (jogBind tag body s)

/-- JOG_REFRESH_EXPIRY (R168), when it is due (entries 2, 4). -/
def execJogRefreshExpiry (axis : Axis) (s : State) : Answer := .next (s.expireRefresh axis)

end Sys2Proof.Machine
end

