-- ==== Sys2Proof/Machine/Cues.lean ====
section
/-! DEFINITION. The cue table: its requests (R185) and its firing (R186). -/

namespace Sys2Proof.Machine

/-! ### Firing -/

/-- R186: the kinds of an entry match a pass kind. -/
def kindsMatch : CueKinds → PassKind → Bool
  | .both, _ => true
  | .play, .play => true
  | .capture, .capture => true
  | _, _ => false

/-- R186: what a cue does to its line. -/
def cueLine (act : CueAction) (r : RigLine) : RigLine :=
  match act with
  | .set => { r with latch := true, pendingClear := none }
  | .clear => { r with latch := false, pendingClear := none }
  | .pulse w => { r with latch := true, pendingClear := some w }

/-- R186: one entry fires. -/
def fireCue (lines : Vector RigLine 12) (c : Cue) : Vector RigLine 12 := put lines c.line (cueLine c.action lines[c.line])

/-- R186: the entries a pass frame of a pass takes, in table order. -/
def cuesAt (cues : List Cue) (n : Nat) (kind : PassKind) : List Cue :=
  cues.filter fun c => c.passFrame = n && kindsMatch c.kinds kind

/-- R186: the cues of a pass frame fire. -/
def State.fireCues (s : State) (n : Nat) : State :=
  match s.ctrl.pass with
  | none => s
  | some kind => { s with lines := { s.lines with lines := (cuesAt s.lines.cues n kind).foldl fireCue s.lines.lines } }

/-! ### Requests -/

/-- R185: an entry placed after every entry of no later pass frame. -/
def insertCue (c : Cue) : List Cue → List Cue
  | [] => [c]
  | d :: rest => if c.passFrame < d.passFrame then c :: d :: rest else d :: insertCue c rest

/-- R185: sorted stably by pass frame. -/
def sortCues (cs : List Cue) : List Cue := cs.foldl (fun t c => insertCue c t) []

/-- R185. -/
def cueLoad (tag : Byte) (body : List Byte) (s : State) : Tested State := do
  let raw ← need .badForm (cueLoadOperands body)
  let cs ← need .badValue (cuesOfRaw raw)
  ensure .inUse !s.runPending
  let t := { s with lines := { s.lines with cues := sortCues cs } }
  pure (t.reply Kind.cueLoad tag .ok (u8 cs.length))

def cueActionBytes : CueAction → List Byte
  | .set => u8 0 ++ optional u8 none
  | .clear => u8 1 ++ optional u8 none
  | .pulse w => u8 2 ++ optional u8 (some w)

def cueKindsNumber : CueKinds → Nat
  | .play => 0
  | .capture => 1
  | .both => 2

/-- A cue entry in the order of R185's fields. -/
def cueBytes (c : Cue) : List Byte :=
  u16 c.passFrame ++ u8 c.line.val ++ cueActionBytes c.action ++ u8 (cueKindsNumber c.kinds)

/-- R185; the entry count is the count of the list (entry 18). -/
def cueGet (tag : Byte) (body : List Byte) (s : State) : Tested State := do
  need .badForm (noFields body)
  pure (s.reply Kind.cueGet tag .ok (counted cueBytes s.lines.cues))

/-! ### Meanings -/

def execCueLoad (tag : Byte) (body : List Byte) (s : State) : Answer := conclude s Kind.cueLoad tag (cueLoad tag body s)

def execCueGet (tag : Byte) (body : List Byte) (s : State) : Answer := conclude s Kind.cueGet tag (cueGet tag body s)

end Sys2Proof.Machine
end

