-- ==== Sys2Proof/Machine/Control.lean ====
section
/-! DEFINITION. The run controller: the run list (R64, R65), CHECK and ARM (R69 to R71), preroll (R72), GO and the pass start
(R74, R75, R77), HOLD (R76), STOP (R79), RETURN (R84), CLEAR_FAULTS (R89, R143), and the events RAMP_AT_REST,
PREROLL_ARRIVAL, RETURN_ARRIVAL and CHECK_COMPLETION. -/

namespace Sys2Proof.Machine

/-! ### The run list -/

namespace State

/-- R64, R69, R70: the number of the first entry of a list that names an empty slot. -/
def firstEmptyEntry (s : State) (es : List RunEntry) : Option Nat :=
  (((List.range es.length).zip es).find? fun p => s.store.moves[p.2.slot].isNone).map (·.1 + 1)

/-- R64, R69, R70: every entry names a move; the NO_SUCH reply carries the number of the first that does not. -/
def entriesExist (s : State) (es : List RunEntry) : Tested Unit :=
  match s.firstEmptyEntry es with
  | none => .ok ()
  | some n => .error { status := .noSuch, extra := u8 n }

end State

/-- R64. -/
def takeLoad (tag : Byte) (body : List Byte) (s : State) : Tested State := do
  let raw ← need .badForm (takeLoadOperands body)
  let es ← need .badValue (entriesOfRaw raw)
  ensure .wrongState (s.ctrl.state = .idle || s.ctrl.state = .faulted)
  s.entriesExist es
  pure ({ s with ctrl := { s.ctrl with runList := es } }.reply Kind.takeLoad tag .ok (u8 es.length))

/-- R65; the entry count is the count of the list (entry 18). -/
def takeGet (tag : Byte) (body : List Byte) (s : State) : Tested State := do
  need .badForm (noFields body)
  pure (s.reply Kind.takeGet tag .ok (counted entryBytes s.ctrl.runList))

/-! ### Checking and arming -/

namespace State

/-- R92: the setpoint of every axis as its drive state gives it. -/
def currentSetpoints (s : State) : Vector Int 16 := tabulate s.currentSetpoint

/-- R69, R71: CHECKING is entered with its purpose and start values. -/
def beginCheck (s : State) (purpose : Purpose) (start : Vector Int 16) : State :=
  ({ s with ctrl := { s.ctrl with purpose := some purpose } }.startCheck purpose start).enter .checking

/-- R70, test 6: a condition latched, an active one whose action in force stops the run, or a detached axis. -/
def faultBarsArm (s : State) : Bool :=
  (allConds.any fun i =>
      s.mon.insts[i].latched.isSome ||
        (s.mon.insts[i].active && (hasAction s.mon .pathStop i || hasAction s.mon .driveOff i))) ||
    allAxes.any s.isDetached

/-- R70, test 7. -/
def captureAllowed (s : State) : Bool :=
  (match s.ctrl.runList with
    | [e] => entryDirection e = .forward
    | _ => false) &&
    !s.wheels.bindings.isEmpty && s.wheels.bindings.all fun b => s.configured b.axis && s.axes.maps[b.axis].isNone

/-- R70, test 5; R71: an axis is configured, and every configured axis has its drive ON. -/
def allDrivesOn (s : State) : Bool := s.configuredAxes.all fun a => s.driveOf a = .on

end State

/-- R69. -/
def check (tag : Byte) (body : List Byte) (s : State) : Tested State := do
  need .badForm (noFields body)
  ensure .wrongState (s.ctrl.state = .idle && !s.ctrl.runList.isEmpty)
  s.entriesExist s.ctrl.runList
  pure ((s.reply Kind.check tag .accepted []).beginCheck .check s.currentSetpoints)

/-- R70, R71. -/
def arm (tag : Byte) (body : List Byte) (s : State) : Tested State := do
  let n ← need .badForm (oneByte body)
  let kind ← need .badValue (passKindOf n)
  ensure .wrongState (s.ctrl.state = .idle && !s.ctrl.runList.isEmpty)
  s.entriesExist s.ctrl.runList
  ensure .wrongState (!s.configuredAxes.isEmpty && s.allDrivesOn)
  ensure .faultActive !s.faultBarsArm
  ensure .badValue (kind = .play || s.captureAllowed)
  let t := s.reply Kind.arm tag .accepted []
  let start := s.currentSetpoints
  pure ({ t with ctrl := { t.ctrl with armSetpoints := some start } }.beginCheck (.arm kind) start)

namespace State

/-- R72: the preroll target of an axis: the path's setpoint at the first entry's start frame, held at the arm setpoint. -/
def prerollTarget (s : State) (e : RunEntry) (arm : Vector Int 16) (a : Axis) : Int :=
  (s.evaluate e.slot a (e.startFrame * subframes) (s.heldValue a arm[a])).setpoint

/-- R72, R164: PREROLL is entered; the in-position count starts at 0 (entry 35). -/
def beginPreroll (s : State) (e : RunEntry) (arm : Vector Int 16) : State :=
  let targets := tabulate (s.prerollTarget e arm)
  ({ s with ctrl := { s.ctrl with prerollTargets := some targets, inPos := 0 } }.genTargetAll targets).enter .preroll

/-- R69, R71: the controller acts on a completed check. -/
def afterCheck (s : State) (purpose : Purpose) (outcome : CheckOutcome) : State :=
  match purpose, outcome, s.ctrl.armSetpoints, s.runEntry? 1 with
  | .arm _, .pass, some arm, some e =>
    if s.allDrivesOn && !(allAxes.any s.isDetached) then s.beginPreroll e arm else s.discardArm.enter .idle
  | .check, _, _, _ => s.enter .idle
  | _, _, _, _ => s.discardArm.enter .idle

/-- R103, R105: the completion of the walk under way. -/
def completeCheck (s : State) (p : CheckProgress) : State :=
  let r := s.completedCheck p
  (s.recordCheck r).afterCheck p.purpose r.outcome

/-- R103: whether the completion falls within the present servo period (entry 2). -/
def checkDue (s : State) : Option CheckProgress :=
  match s.check.progress with
  | some p => if s.ctrl.state = .checking && p.timeLeft ≤ s.clock.period then some p else none
  | none => none

/-! ### The pass -/

/-- R75, R150, R186, R174, R153: the pass start, where pass frame 0 is recorded, its cues fire, a CAPTURE's axes enter CAPTURING,
and its REPEAT evaluations are acted on. The rules give the four no order: they go in this one (DESIGN CHOICE, entry 45). -/
def passStart (s : State) : State :=
  let c := s.crossingAt 0
  let r := frameRecord c s.startSample
  let es := repeatEvaluations s.log s.mon r
  (((s.recordFrame c r).fireCues 0).startCapture).evaluateEvent es

/-- R74: the pass kind is that of the check purpose. -/
def purposeKind (s : State) : PassKind :=
  match s.ctrl.purpose with
  | some (.arm k) => k
  | _ => .play

/-- R74, R48: GO in ARMED begins a pass at entry e. -/
def startPass (s : State) (e : RunEntry) : State :=
  let kind := s.purposeKind
  let s1 := { s with ctrl := { s.ctrl with entry := 1, landing := false, pass := some kind } }.beginPass kind
  let s2 := { s1 with clock := startPassClock s1.clock e }.enter .running
  if s2.clock.cfg.sync = .follower then s2 else s2.passStart

/-- R52, R77: the clock takes an up ramp in entry e, and the controller enters RUNNING. -/
def resumePass (s : State) (e : RunEntry) : State :=
  { s with clock := startUpRamp s.clock (targetSpeed s.clock.cfg e) }.enter .running

/-- R56, R77: GO after a landing moves to the next entry e. -/
def nextEntry (s : State) (e : RunEntry) : State :=
  { s with
    ctrl := { s.ctrl with entry := s.ctrl.entry + 1, landing := false }
    clock := startEntryClock s.clock e }.enter .running

/-- R74, R77, R194: what GO does in the state it meets, with `ok` the reply that goes before the reports; none where it is refused.
-/
def takeGo (s : State) (ok : State → State) : Option State :=
  match s.ctrl.state with
  | .armed => (s.runEntry? 1).map fun e => (ok s).clearSkipped.startPass e
  | .holding => s.currentEntry?.map fun e => (ok s).clearSkipped.resumePass e
  | .held =>
    if s.ctrl.ret.isSome then none
    else if s.ctrl.landing then (s.runEntry? (s.ctrl.entry + 1)).map fun e => (ok s).clearSkipped.nextEntry e
    else s.currentEntry?.map fun e => (ok s).clearSkipped.resumePass e
  | _ => none

/-- R79: RUNNING and HOLDING come to rest on the path as a stop. -/
def stopOnPath (s : State) : State :=
  ({ s with clock := startStopRamp s.clock }.enterStop .stopping .path).atRestIfStill

/-- R79, Table 4-5: what STOP does in the state it meets. The arm setpoints and preroll targets go with a check that is stopped,
and stay through a stop in PREROLL (DESIGN CHOICE, entry 38). -/
def takeStop (s : State) : State :=
  match s.ctrl.state with
  | .idle | .stopping | .faultStopping | .faulted => s
  | .checking => s.cancelCheck.discardArm.enter .idle
  | .preroll => { s with ctrl := { s.ctrl with inPos := 0 } }.genRestAll.enterStop .stopping .generator
  | .armed => s.abandonArm
  | .running =>
    match s.clock.state with
    | .advancing => s.stopOnPath
    | _ => ((s.withCtrl .idle none).endPass .stopped).reportState
  | .holding => s.stopOnPath
  | .held => ((s.withCtrl .idle none).endPass .stopped).reportState
  | .jogging | .returning =>
    let s1 := { s with ctrl := { s.ctrl with inPos := 0 } }.withCtrl .stopping (some .generator)
    (s1.endPass .stopped).genRestAll.reportState

/-- R76: HOLD in RUNNING in FREE or MASTER mode. -/
def startHold (s : State) : State := ({ s with clock := startHoldRamp s.clock }.enter .holding).atRestIfStill

/-- R76: what HOLD does in the state it meets, with the status of its reply; none where it is refused. -/
def takeHold (s : State) (ok : Status → State → State) : Option State :=
  match s.ctrl.state with
  | .running => if s.clock.cfg.sync = .follower then some (ok .asStop s).takeStop else some (ok .ok s).startHold
  | .holding => some (ok .ok s)
  | _ => none

end State

/-- R74, R77. -/
def go (tag : Byte) (body : List Byte) (s : State) : Tested State := do
  need .badForm (noFields body)
  need .wrongState (s.takeGo fun t => t.reply Kind.go tag .ok [])

/-- R76. -/
def hold (tag : Byte) (body : List Byte) (s : State) : Tested State := do
  need .badForm (noFields body)
  need .wrongState (s.takeHold fun st t => t.reply Kind.hold tag st [])

/-- R79. -/
def stop (tag : Byte) (body : List Byte) (s : State) : Tested State := do
  need .badForm (noFields body)
  pure (s.reply Kind.stop tag .ok []).takeStop

namespace State

/-- R84: the axes are targeted at the recorded setpoints, and RETURNING is entered. -/
def beginReturn (s : State) (r : ReturnRec) : State :=
  ({ s with clock := stopClock s.clock, ctrl := { s.ctrl with inPos := 0 } }.genTargetAll r.setpoints).enter .returning

/-- R84: the record a RETURN uses, in the states that accept it. -/
def returnAllowed (s : State) : Option ReturnRec :=
  if s.ctrl.state = .jogging || s.ctrl.state = .held then s.ctrl.ret else none

/-- R82: the clock, the current entry and the landing marker taken from a return record. -/
def restoreFrom (s : State) (r : ReturnRec) : State :=
  { s with
    clock := restoreClock s.clock r
    ctrl := { s.ctrl with entry := r.entry, landing := r.landing } }

/-- R72: the arrival of a preroll. -/
def prerollArrives (s : State) : State := { s with ctrl := { s.ctrl with inPos := 0 } }.genReleaseAll.enter .armed

/-- R84: the arrival of a return. -/
def returnArrives (s : State) (r : ReturnRec) : State :=
  let s1 := s.restoreFrom r
  { s1 with ctrl := { s1.ctrl with ret := none, inPos := 0 } }.genReleaseAll.enter .held

/-- R72, R84: an arrival that is due is taken. -/
def takeArrival (s : State) : State :=
  if s.ctrl.inPos = 10 then
    match s.ctrl.state, s.ctrl.ret with
    | .preroll, _ => s.prerollArrives
    | .returning, some r => s.returnArrives r
    | _, _ => s
  else s

/-- Entry 1: the end of a down ramp is due. -/
def rampDue (s : State) : Bool :=
  s.clock.state = .advancing && s.clock.speed = 0 &&
    match s.clock.ramp with
    | .down .. => true
    | _ => false

end State

/-- R84. -/
def returnToPath (tag : Byte) (body : List Byte) (s : State) : Tested State := do
  need .badForm (noFields body)
  let r ← need .wrongState s.returnAllowed
  pure ((s.reply Kind.returnToPath tag .ok []).beginReturn r)

/-! ### CLEAR_FAULTS -/

/-- R143: an instance that a clear reaches: latched, with its last evaluation false. -/
def clears (c : CondInst) : Bool := c.latched.isSome && !c.last

/-- R143: the monitor unit after a clear. -/
def unlatch (m : Mon) : Mon :=
  { m with insts := tabulate fun i => if clears m.insts[i] then { m.insts[i] with latched := none } else m.insts[i] }

/-- R143: the instances still latched. -/
def stillLatched (m : Mon) : List CondId := allConds.filter fun i => m.insts[i].latched.isSome

/-- R89, R143: a latched action that holds the controller in FAULTED. -/
def holdsFaulted (m : Mon) : Bool :=
  allConds.any fun i => m.insts[i].latched = some .pathStop || m.insts[i].latched = some .driveOff

/-- R89, R143. -/
def clearFaults (tag : Byte) (body : List Byte) (s : State) : Tested State := do
  need .badForm (noFields body)
  let m := unlatch s.mon
  let t := { s with mon := m }.reply Kind.clearFaults tag .ok (counted condName (stillLatched m))
  let t1 := t.settleFaults (allConds.any fun i => clears s.mon.insts[i])
  pure (if s.ctrl.state = .faulted && !holdsFaulted m then t1.enter .idle else t1)

/-! ### Meanings -/

def execTakeLoad (tag : Byte) (body : List Byte) (s : State) : Answer :=
  conclude s Kind.takeLoad tag (takeLoad tag body s)

def execTakeGet (tag : Byte) (body : List Byte) (s : State) : Answer := conclude s Kind.takeGet tag (takeGet tag body s)

def execCheck (tag : Byte) (body : List Byte) (s : State) : Answer := conclude s Kind.check tag (check tag body s)

def execArm (tag : Byte) (body : List Byte) (s : State) : Answer := conclude s Kind.arm tag (arm tag body s)

def execGo (tag : Byte) (body : List Byte) (s : State) : Answer := conclude s Kind.go tag (go tag body s)

def execHold (tag : Byte) (body : List Byte) (s : State) : Answer := conclude s Kind.hold tag (hold tag body s)

def execStop (tag : Byte) (body : List Byte) (s : State) : Answer := conclude s Kind.stop tag (stop tag body s)

def execReturnToPath (tag : Byte) (body : List Byte) (s : State) : Answer :=
  conclude s Kind.returnToPath tag (returnToPath tag body s)

def execClearFaults (tag : Byte) (body : List Byte) (s : State) : Answer :=
  conclude s Kind.clearFaults tag (clearFaults tag body s)

/-- RAMP_AT_REST (R51): the end of a down ramp, when it is due (entries 1, 4). -/
def execRampAtRest (s : State) : Answer := .next (if s.rampDue then s.takeAtRest else s)

/-- PREROLL_ARRIVAL (R72): the 10th in-position period, when it is due (entries 1, 4). -/
def execPrerollArrival (s : State) : Answer :=
  .next (if s.ctrl.state = .preroll && s.ctrl.inPos = 10 then s.prerollArrives else s)

/-- RETURN_ARRIVAL (R84): the 10th in-position period, when it is due (entries 1, 4). -/
def execReturnArrival (s : State) : Answer :=
  .next
    (match s.ctrl.ret with
      | some r => if s.ctrl.state = .returning && s.ctrl.inPos = 10 then s.returnArrives r else s
      | none => s)

/-- CHECK_COMPLETION (R103), when it is due (entries 2, 4). -/
def execCheckCompletion (s : State) : Answer :=
  .next
    (match s.checkDue with
      | some p => s.completeCheck p
      | none => s)

end Sys2Proof.Machine
end

