-- ==== Sys2Proof/Machine/Lines.lean ====
section
/-! DEFINITION. The rig lines: LINE_SET and LINE_READ (R180, R181), the input filters and their edges (R182, R183), the camera
pulse and the camera-lost expiry (R59 to R61, R184), pending clears (R187). -/

namespace Sys2Proof.Machine

/-! ### Pins (R179) -/

/-- R179: how the 1620 stands to a pin: it leaves it as an input, or drives it at a level. -/
inductive PinDrive where
  | input
  | driven (level : Bool)
  deriving DecidableEq, Repr

namespace State

/-- R179, R184: what the 1620 does at the pin of a line: CAMERA drives L0 from the trigger in MASTER mode, every other selected function
leaves its pin an input, and an ordinary line follows its mode, driven at its latch. A trigger under way when CAMERA is selected shows at
once (DESIGN CHOICE, entry 44). -/
def pinDrive (s : State) (l : Line) : PinDrive :=
  let r := s.lines.lines[l]
  if r.selected then
    if l = 0 && s.clock.cfg.sync = .master then .driven s.clock.trigger.isSome else .input
  else
    match r.mode with
    | .input => .input
    | .output => .driven r.latch

/-- R179: the level at the pin of a line: the driven one, or the one the rig presents. -/
def pinLevel (s : State) (l : Line) : Bool :=
  match s.pinDrive l with
  | .input => s.lines.pins.getLsbD l.val
  | .driven level => level

/-- The levels the rig presents at the pins. -/
def seePins (s : State) (pins : BitVec 12) : State := { s with lines := { s.lines with pins } }

/-- R181, R182: the levels at the pins as a request is handled, which no command carries: a free value (entry 3). -/
def lookAtPins (s : State) : State := { s.seePins (Config.freePins s.openReads) with openReads := s.openReads + 1 }

end State

/-! ### Filters (R182) -/

/-- R179, Table 10-2: a pin level read as active or inactive: L1 is active low, the others active high. -/
def readsActive (l : Line) (level : Bool) : Bool := if l = 1 then !level else level

/-- R182: a filter updated with a sample; at a count of 4 its edge is due (entry 1). -/
def stepFilter (f : Filter) (sample : Bool) : Filter :=
  if sample = f.active then { f with count := 0 } else { f with count := satSucc 4 f.count }

/-- R182: the filter after its edge. -/
def flipFilter (f : Filter) : Filter := { active := !f.active, count := 0 }

/-- R182: the filter of a line, where the line has one. -/
def filterOf (ls : Lines) (l : Line) : Option Filter :=
  if l = 1 then some ls.filterL1 else if l = 2 then some ls.filterL2 else if l = 3 then some ls.filterL3 else none

/-- The filter of a line replaced. -/
def putFilter (ls : Lines) (l : Line) (f : Filter) : Lines :=
  if l = 1 then { ls with filterL1 := f } else if l = 2 then { ls with filterL2 := f }
  else if l = 3 then { ls with filterL3 := f } else ls

namespace State

/-- R182: the filter of a line whose function is selected updates with the pin sampled. -/
def sampleFilter (s : State) (l : Line) : State :=
  match filterOf s.lines l with
  | some f =>
    if s.lines.lines[l].selected then
      { s with lines := putFilter s.lines l (stepFilter f (readsActive l (s.lines.pins.getLsbD l.val))) }
    else s
  | none => s

/-- R182: the filtered edge of a line that is due. A LINE_SET that deselects the function drops it (DESIGN CHOICE, entry 1). -/
def edgeDue (s : State) (l : Line) : Option Filter :=
  match filterOf s.lines l with
  | some f => if s.lines.lines[l].selected && f.count = 4 then some f else none
  | none => none

/-- R183: the edge reaches the block that owns the function; `active` is the new level. -/
def handEdge (s : State) (l : Line) (active : Bool) : State :=
  if l = 1 then (if active then s.turnOff allAxes else s).evaluateEstop
  else if l = 2 then (if active then (s.takeGo id).getD s else s)
  else if l = 3 then (if active then (s.takeHold fun _ t => t).getD s else s)
  else s

/-- R182, R183: a filtered edge that is due is taken. -/
def takeEdge (s : State) (l : Line) : State :=
  match s.edgeDue l with
  | none => s
  | some f => { s with lines := putFilter s.lines l (flipFilter f) }.handEdge l (!f.active)

/-! ### Pending clears (R187) -/

/-- R187: a pending clear that has reached 0 is carried out. -/
def takeClear (s : State) (l : Line) : State :=
  if s.lines.lines[l].pendingClear = some 0 then
    s.setLine l { s.lines.lines[l] with latch := false, pendingClear := none }
  else s

/-! ### The camera -/

/-- R135: the camera evaluations of a pulse taken with the lock present: every CAMERA_SLIP evaluation, unless its mode is OFF,
is a false evaluation of CAMERA_LOST too. -/
def slipEvaluations (s : State) (eps : Int) : List Evidence :=
  cameraSlipEvidence (s.mon.settings[cameraSlipCond]).threshold eps ::
    if (s.mon.settings[cameraSlipCond]).mode = .off then [] else [cameraLostEvidence false]

/-- R61: the pulse that follows a loss evaluates CAMERA_LOST false (entry 25). -/
def endLoss (s : State) : State := if s.clock.lost then s.evaluateEvent [cameraLostEvidence false] else s

/-- R59, R75: a pulse in WAITING starts the clock; at the start of a pass it is the pass start. -/
def startAtPulse (s : State) : State :=
  let s1 := { s with clock := startFollower s.clock }
  if s.clock.travel = 0 then s1.passStart else s1

/-- R59 to R62: a camera pulse reaches the clock. -/
def takePulse (s : State) : State :=
  match s.clock.state, s.clock.lock, s.clock.ramp with
  | .waiting, _, _ => s.endLoss.startAtPulse
  | .advancing, some l, _ =>
    { s with clock := pulseLock s.clock l }.evaluateEvent
      (s.slipEvaluations (phaseError (l.pulses + 1) l.base s.clock.travel))
  | .advancing, none, .down .. => s
  | .advancing, none, _ => let s1 := s.endLoss; { s1 with clock := formLock s1.clock }
  | _, _, _ => s

/-- R184: the rise of L0's pin is a camera pulse. -/
def isPulse (s : State) : Bool :=
  s.lines.lines[(0 : Line)].selected && s.clock.cfg.sync = .follower && s.lines.edgeArmed

/-- R184: the pin of L0 rises. -/
def cameraRise (s : State) : State :=
  let s1 := s.seePins (s.lines.pins ||| 1#12)
  if s.isPulse then { s1 with lines := { s1.lines with edgeArmed := false } }.takePulse else s1

/-- R61: the camera-lost timer expires. -/
def cameraLost (s : State) : State := { s with clock := loseCamera s.clock }.evaluateEvent [cameraLostEvidence true]

/-- R61: whether the camera-lost timer expires within the present servo period (entry 2). -/
def lossDue (s : State) : Bool :=
  match s.clock.lostTimer with
  | some n => n ≤ s.clock.period
  | none => false

/-! ### Due events (entry 1) -/

/-- R58: a trigger whose width has run out ends. -/
def takeTriggerEnd (s : State) : State := if s.clock.trigger = some 0 then { s with clock := endTrigger s.clock } else s

/-- R51: the end of a down ramp that is due is taken. -/
def takeRampEnd (s : State) : State := if s.rampDue then s.takeAtRest else s

/-- Entry 1: every event that a count has brought about and that has not been taken is taken, in this order: the trigger's end, the
pending clears by line, the edges of L1, L2 and L3 (R183 leaves the order of edges that fall together open), the end of a down
ramp, the enable timeouts by axis, an arrival (DESIGN CHOICE, entry 1). -/
def takeDue (s : State) : State :=
  let s1 := allLines.foldl takeClear (s.takeTriggerEnd)
  let s2 := ([1, 2, 3] : List Line).foldl takeEdge s1
  (allAxes.foldl enableTimesOut s2.takeRampEnd).takeArrival

end State

/-! ### Requests -/

def lineModeNumber : LineMode → Nat
  | .input => 0
  | .output => 1

/-- Table 10-1: the function selected on a line; L0 to L3 have one each. -/
def lineFunctionNumber (l : Line) (r : RigLine) : Nat := if r.selected then l.val + 1 else 0

/-- Table 10-1: the items of a line. -/
def lineBytes (l : Line) (r : RigLine) : List Byte :=
  u8 (lineModeNumber r.mode) ++ flag r.latch ++ u8 (lineFunctionNumber l r) ++ optional u8 r.pendingClear

/-- R182, R184: a function newly selected starts its filter or edge detector afresh. -/
def startFunction (ls : Lines) (l : Line) : Lines :=
  if l = 0 then { ls with edgeArmed := false }
  else putFilter ls l { active := readsActive l (ls.pins.getLsbD l.val), count := 0 }

/-- R180: the line's items replaced as a whole. -/
def storeLine (ls : Lines) (l : Line) (mode : LineMode) (latch selected : Bool) : Lines :=
  let ls1 := { ls with lines := put ls.lines l { mode, latch, selected, pendingClear := none } }
  if selected && !ls.lines[l].selected then startFunction ls1 l else ls1

/-- R182: whether a LINE_SET starts the filter of L1, L2 or L3. -/
def startsFilter (ls : Lines) (l : Line) (selected : Bool) : Bool :=
  selected && !ls.lines[l].selected && (filterOf ls l).isSome

/-- R180. A filter it starts takes the level at its pin as the request is handled (R182; entry 3). -/
def lineSet (tag : Byte) (body : List Byte) (s : State) : Tested State := do
  let o ← need .badForm (lineSetOperands body)
  let l ← need .badValue (lineOf o.line)
  let mode ← need .badValue (lineModeOf o.mode)
  let latch ← need .badValue (boolOf o.latch)
  let selected ← need .badValue (lineFunctionOf l o.function)
  ensure .notSettable !(l = 1 && (!selected || mode = .output))
  ensure .badValue !((l = 2 || l = 3) && selected && mode = .output)
  let s1 := if startsFilter s.lines l selected then s.lookAtPins else s
  let t := { s1 with lines := storeLine s1.lines l mode latch selected }
  pure (t.reply Kind.lineSet tag .ok (lineBytes l t.lines.lines[l]))

/-- R181: the read level of a line: the filtered level where its function has a filter, and else the level at its pin. -/
def readLevel (s : State) (l : Line) : Bool :=
  match filterOf s.lines l with
  | some f => if s.lines.lines[l].selected then f.active else s.pinLevel l
  | none => s.pinLevel l

/-- R181. -/
def lineItem (s : State) (l : Line) : List Byte := lineBytes l s.lines.lines[l] ++ flag (readLevel s l)

/-- R181: the pin levels are those that stand as the request is handled (entry 3). -/
def lineRead (tag : Byte) (body : List Byte) (s : State) : Tested State := do
  need .badForm (noFields body)
  pure (s.lookAtPins.reply Kind.lineRead tag .ok (allLines.flatMap (lineItem s.lookAtPins)))

/-! ### Meanings -/

def execLineSet (tag : Byte) (body : List Byte) (s : State) : Answer := conclude s Kind.lineSet tag (lineSet tag body s)

def execLineRead (tag : Byte) (body : List Byte) (s : State) : Answer := conclude s Kind.lineRead tag (lineRead tag body s)

/-- LINE_FILTER_EDGE (R182), when it is due (entries 1, 4). -/
def execLineFilterEdge (line : Line) (s : State) : Answer := .next (s.takeEdge line)

/-- PENDING_CLEAR_EXPIRY (R187), when it is due (entries 1, 4). -/
def execPendingClearExpiry (line : Line) (s : State) : Answer := .next (s.takeClear line)

/-- CAMERA_PULSE (R184). -/
def execCameraPulse (s : State) : Answer := .next s.cameraRise

/-- CAMERA_LOST_EXPIRY (R61), when it is due (entries 2, 4). -/
def execCameraLostExpiry (s : State) : Answer := .next (if s.lossDue then s.cameraLost else s)

end Sys2Proof.Machine
end

