-- ==== Sys2Proof/Machine/Servo.lean ====
section
/-! DEFINITION. The servo period: SERVO_TIMER_EXPIRY (R44, R49, R67, R162, R182, R187) and SLOT_END (R111). Entry 7 gives the
order of what one expiry does. -/

namespace Sys2Proof.Machine

/-! ### Time -/

/-- Entry 2: a wall-time timer after the period that has passed. -/
def fallTimer (period : Nat) (t : Option Nat) : Option Nat := t.map (· - period)

/-- Entry 2: a wall-time timer that ran out within the period that has passed. -/
def overdue (period : Nat) (t : Option Nat) : Bool :=
  match t with
  | some n => n < period
  | none => false

/-- R103: the time left to a check's completion falls. -/
def fallProgress (period : Nat) (p : CheckProgress) : CheckProgress := { p with timeLeft := p.timeLeft - period }

namespace State

/-- R161, R168: the refresh timers fall. -/
def fallRefresh (s : State) : State := s.mapGen fun _ g => { g with refresh := fallTimer s.clock.period g.refresh }

/-- R61, R91, R103, R168: the wall-time timers fall by the period that has passed, and a check under way walks on. -/
def fallTimers (s : State) : State :=
  { s with
    clock := { s.clock with lostTimer := fallTimer s.clock.period s.clock.lostTimer }
    check := { s.check with progress := s.check.progress.map (fallProgress s.clock.period) } }.fallRefresh.advanceWalk

/-- Entry 2: a check whose time ran out within the period that has passed completes. -/
def takeCheckOverdue (s : State) : State :=
  match s.check.progress with
  | some p => if s.ctrl.state = .checking && p.timeLeft < s.clock.period then s.completeCheck p else s
  | none => s

/-- Entry 2: a refresh timer that ran out within the period that has passed expires. -/
def takeRefreshOverdue (s : State) (a : Axis) : State :=
  if overdue s.clock.period s.gen.recs[a].refresh then s.expireRefresh a else s

/-- Entry 2: the wall-time events of the period that has passed that have not been taken. -/
def takeOverdue (s : State) : State :=
  let s1 := if overdue s.clock.period s.clock.lostTimer then s.cameraLost else s
  allAxes.foldl takeRefreshOverdue s1.takeCheckOverdue

/-- Entries 1, 2, 21: everything of the period before this expiry is finished. -/
def finishBefore (s : State) : State := s.takeDue.finishPeriod.takeDue.takeOverdue

/-- R45, R160: the servo period in force from this expiry; a changed one rescales every velocity. -/
def takePeriod (s : State) : State :=
  let T := periodOf s.clock.cfg.servoRate
  if T = s.clock.period then s
  else
    let s1 := s.mapGen fun _ g => rescale s.clock.period T g
    { s1 with clock := { s1.clock with period := T } }

/-- R187: every pending clear falls by one; at 0 it is due (entry 1). -/
def fallClears (s : State) : State :=
  { s with
    lines :=
      { s.lines with
        lines :=
          tabulate fun l => { s.lines.lines[l] with pendingClear := s.lines.lines[l].pendingClear.map (· - 1) } } }

/-- R184: the edge detector is armed by a low sample (entry 32). -/
def armDetector (s : State) : State :=
  if s.lines.lines[(0 : Line)].selected && s.clock.cfg.sync = .follower && !(s.lines.pins.getLsbD 0) then
    { s with lines := { s.lines with edgeArmed := true } }
  else s

/-- R182, R184: the pins are sampled. -/
def samplePins (s : State) (pins : BitVec 12) : State :=
  (([1, 2, 3] : List Line).foldl sampleFilter (s.seePins pins)).armDetector

/-- R58, R125, R187: the counts of servo periods. -/
def countPeriod (s : State) : State :=
  { s with
    mon := { s.mon with periodCount := s.mon.periodCount + 1 }
    clock := countTrigger s.clock }.fallClears

/-- R134: the ESTOP evaluation of an expiry; with an edge of L1 due it comes with the edge (entry 7). -/
def estopAtExpiry (s : State) : State := if (s.edgeDue 1).isSome then s else s.evaluateEstop

/-- The start of an expiry: time, counts, pins and the ESTOP evaluation. -/
def tick (s : State) (pins : BitVec 12) : State :=
  (s.fallTimers.takePeriod.countPeriod.samplePins pins).estopAtExpiry

/-! ### The advance and the setpoint batch -/

/-- R49: the clock advances, when it is ADVANCING; the current entry follows its hand-over (R78). -/
def advance (s : State) : State × Option HandOver :=
  match s.clock.state, s.currentEntry? with
  | .advancing, some e =>
    let r := advanceClock s.clock s.ctrl.entry e (s.runEntry? (s.ctrl.entry + 1))
    ({ s with clock := r.1, ctrl := { s.ctrl with entry := r.2.entry } }, some r.2)
  | _, _ => (s, none)

/-- R34: the setpoint from which the run controller forms a held value: the arm setpoint in entry 1, and else the one last
received. -/
def heldSetpoint (s : State) (a : Axis) : Int :=
  match s.ctrl.armSetpoints with
  | some arm => if s.ctrl.entry = 1 then arm[a] else s.ctrl.setpoints[a]
  | none => s.ctrl.setpoints[a]

/-- R67: the path's setpoint of an axis, with its CLAMPED flag. -/
def pathSetpoint (s : State) (e : RunEntry) (a : Axis) : Int × Bool :=
  let v := s.evaluate e.slot a s.clock.time (s.heldValue a (s.heldSetpoint a))
  (v.setpoint, v.clamped)

/-- R67: the setpoint of an axis in a period, and its CLAMPED flag; `path` is the current entry when the clock has handed over a
move time. The drive state goes first, then the generator, then the path. -/
def sourceSetpoint (s : State) (path : Option RunEntry) (a : Axis) : Int × Bool :=
  if !(s.driveOf a = .on) then (s.currentSetpoint a, false)
  else if !(s.gen.recs[a].mode = .idle) then (s.gen.recs[a].x, false)
  else
    match path with
    | some e => s.pathSetpoint e a
    | none => (s.ctrl.setpoints[a], false)

/-- R67: the setpoint batch of the period, for every configured axis. -/
def formSetpoints (s : State) (path : Option RunEntry) : State :=
  let batch := tabulate (s.sourceSetpoint path)
  { s with
    ctrl :=
      { s.ctrl with
        setpoints := tabulate fun a => if s.configured a then batch[a].1 else s.ctrl.setpoints[a]
        clamped := tabulate fun a => if s.configured a then batch[a].2 else s.ctrl.clamped[a] } }

/-- R49, R150, R176, R186: a frame crossing reaches capture, the cues, the trigger and the pass log. -/
def takeCrossing (s : State) (n : Nat) : State :=
  let s1 := (s.stageCrossing n).fireCues n
  { s1 with
    clock := beginTrigger s1.clock
    log := { s1.log with crossing := some (s1.crossingAt n) } }

/-- R49, stage 6: what a hand-over brings. -/
def takeHandOver (s : State) (h : HandOver) : State :=
  let s1 :=
    match h.crossing with
    | some n => s.takeCrossing n
    | none => s
  if h.landed then s1.takeLanding else s1

/-! ### "All at rest" -/

/-- R83: JOGGING settles. -/
def settleJogging (s : State) : State :=
  match s.ctrl.ret with
  | none => s.genReleaseAll.enter .idle
  | some r => (s.restoreFrom r).genReleaseAll.enter .held

/-- R79, R83, R87, R163: the run controller acts on "all at rest". -/
def takeAllAtRest (s : State) : State :=
  match s.ctrl.state, s.ctrl.stopForm with
  | .jogging, _ => s.settleJogging
  | .stopping, some .generator => s.genReleaseAll.enter .idle
  | .faultStopping, some .generator => s.genReleaseAll.enter .faulted
  | _, _ => s

/-- R141, R163: the end of the generator's steps. -/
def afterSteps (s : State) : State := (if s.allAtRest then s.takeAllAtRest else s).settleFaults false

/-- R44, R49, R67: the advance, the steps, the batch, and what they bring. -/
def runPeriod (s : State) : State :=
  let r := s.advance
  let s1 := r.1.stepGen
  let s2 := s1.formSetpoints (match r.2 with | some _ => s1.currentEntry? | none => none)
  let s3 :=
    match r.2 with
    | some h => s2.takeHandOver h
    | none => s2
  s3.afterSteps

/-- R44: one expiry of the servo timer. -/
def servoPeriod (s : State) (pins : BitVec 12) : State := ((s.finishBefore.tick pins).runPeriod).startPeriod

end State

/-! ### Meanings -/

/-- SERVO_TIMER_EXPIRY (R49). -/
def execServoTimerExpiry (pins : BitVec 12) (s : State) : Answer := .next (s.servoPeriod pins)

/-- SLOT_END (R111), when a slot is in progress (entry 4). -/
def execSlotEnd (s : State) : Answer :=
  .next
    (match s.takeDue.link.period with
      | some p => s.takeDue.endSlot p
      | none => s)

end Sys2Proof.Machine
end

