-- ==== Sys2Proof/Machine/Reset.lean ====
section
/-! DEFINITION. The two resets: POWER_ON_RESET (R23, R25, R30, R44, R47, R66, R106, R124, R145, R148, R160, R169, R172, R188,
R196) and RIG_RESET (R90, with each block's share). -/

namespace Sys2Proof.Machine

/-! ### RIG_RESET, block by block -/

/-- R196: every FRAME report awaiting sending is removed, and the skipped count becomes 0. -/
def dropFrameReports (c : Console) : Console :=
  refill { c with outQ := c.outQ.filter (!isFrameReport ·), held := c.held.filter (!isFrameReport ·), skipped := 0 }

/-- R124, Table 6-1: a link record after RIG_RESET. -/
def resetLinkRec (l : LinkRec) : LinkRec := { offRec l with misses := 0 }

/-- R145: an instance after RIG_RESET; its cause, value and stamp are kept. -/
def resetInst (c : CondInst) : CondInst := { passOutInst c with latched := none }

/-- R145: the monitor unit after RIG_RESET. -/
def resetMon (m : Mon) : Mon :=
  { m with insts := tabulate fun i => resetInst m.insts[i], detached := fill 16 [], blank := fill 16 0 }

/-- R142, R145: whether RIG_RESET changes the fault set. -/
def resetChangesFaults (m : Mon) : Bool :=
  (allConds.any fun i => !(resetInst m.insts[i] = m.insts[i])) || allAxes.any fun a => !m.detached[a].isEmpty

/-- R188: a pending clear is carried out at once. -/
def carryClear (r : RigLine) : RigLine :=
  match r.pendingClear with
  | some _ => { r with latch := false, pendingClear := none }
  | none => r

/-- R66, R90: every item of Table 4-2 at its reset value; the run list and the setpoints last received are kept. -/
def resetCtrl (c : Ctrl) : Ctrl :=
  { Ctrl.reset with runList := c.runList, setpoints := c.setpoints, clamped := c.clamped }

namespace State

/-- R90, R154, R159: the pass log closes a pass in progress at once, STOPPED, or as its end has already said. -/
def resetLog (s : State) : State :=
  match s.log.closing with
  | some outcome => s.finalizePass outcome
  | none => if s.ctrl.pass.isSome then s.finalizePass .stopped else s

/-- R119, R122, R124: the axis link: drives OFF, the acyclic queue emptied. The record of an unconfigured axis, whose items R107 lets
stand, takes the values of R124 as every other: its consecutive-miss count becomes 0 (DESIGN CHOICE, entry 46). -/
def resetLink (s : State) : State :=
  { s with link := { s.link with recs := tabulate fun a => resetLinkRec s.link.recs[a], due := fill 16 false } }.abortQueue
    fun _ => true

/-- The blocks that take reset values with no message of their own: move store (R23), clock (R54), run controller (R66), run
check (R106), monitor unit (R145), generator (R178), lines (R188). -/
def resetBlocks (s : State) : State :=
  { s with
    store := discardStaging s.store
    clock := resetClock s.clock
    ctrl := resetCtrl s.ctrl
    check := RunCheck.reset
    mon := resetMon s.mon
    gen := { recs := tabulate fun a => toIdle s.gen.recs[a], captureBase := [] }
    lines := { s.lines with lines := tabulate fun l => carryClear s.lines.lines[l] } }

/-- R90, R196: RIG_RESET without its reply. Messages come in R196's order: ABORTED replies, PASS, FAULT, STATE (entry 24). -/
def takeRigReset (s : State) : State :=
  let s1 := { s with console := dropFrameReports s.console }
  let s2 := s1.resetLink.resetLog.resetBlocks.reportFaultsIf (resetChangesFaults s.mon)
  if s.ctrl.state = .idle then s2 else s2.reportState

end State

/-- R90, R196. -/
def rigReset (tag : Byte) (body : List Byte) (s : State) : Tested State := do
  need .badForm (noFields body)
  pure (s.takeRigReset.reply Kind.rigReset tag .ok [])

/-! ### Meanings -/

def execRigReset (tag : Byte) (body : List Byte) (s : State) : Answer := conclude s Kind.rigReset tag (rigReset tag body s)

/-- POWER_ON_RESET (R196): every block at its power-on values. The queue of commands, the pin levels and the count of open
values are not the 1620's own state. -/
def execPowerOnReset (s : State) : Answer :=
  .next
    { State.reset with
      lines := { Lines.reset with pins := s.lines.pins }, pending := s.pending, openReads := s.openReads }

end Sys2Proof.Machine
end

