-- ==== Sys2Proof/Machine/Console.lean ====
section
/-! DEFINITION. The console link interface: the receiver (R189), the input buffer (R190), the taking of requests (R191), sending
(R192, R193), and STATUS (R195). -/

namespace Sys2Proof.Machine

/-! ### The receiver (R189) -/

/-- What stands at the head of the bytes received. -/
inductive Scan where
  /-- a byte that is no start byte -/
  | noise
  /-- a frame that is not complete -/
  | incomplete
  /-- a frame with a bad length or check sequence -/
  | bad
  /-- a good frame and the bytes after it -/
  | good (frame : InFrame) (rest : List Byte)
  deriving DecidableEq, Repr

/-- R189: the fields of a frame whose length is n, the start byte taken off. -/
def scanFields (n : Nat) (bs : List Byte) : Scan :=
  let inner := bs.take (n + 2)
  let rest := bs.drop (n + 2)
  match inner.drop 2 with
  | kind :: tag :: body =>
    if beNat (rest.take 2) = (crc16 inner).toNat then .good { kind, tag, body } (rest.drop 2) else .bad
  | _ => .bad

/-- R189: the frame at the head of the bytes received. -/
def scanFrame : List Byte → Scan
  | [] => .incomplete
  | b :: rest =>
    if b = startByte then
      match rest with
      | n1 :: n0 :: _ =>
        let n := beNat [n1, n0]
        if n < 2 ∨ 4098 < n then .bad else if rest.length < n + 4 then .incomplete else scanFields n rest
      | _ => .incomplete
    else .noise

/-- R190: a good frame is offered to the input buffer. -/
def offerFrame (c : Console) (f : InFrame) : Console :=
  if c.inBuf.length < 4 then { c with inBuf := c.inBuf ++ [f] } else { c with discarded := satSucc 65535 c.discarded }

/-- R189: a frame is discarded and counted; the hunt resumes at the byte after its start byte. -/
def discardFrame (c : Console) : Console := { c with badFrames := satSucc 65535 c.badFrames, rx := c.rx.drop 1 }

/-- R189: the hunt through the bytes received; `fuel` bounds it. -/
def hunt : Nat → Console → Console
  | 0, c => c
  | fuel + 1, c =>
    match c.rx with
    | [] => c
    | _ :: rest =>
      match scanFrame c.rx with
      | .noise => hunt fuel { c with rx := rest }
      | .incomplete => c
      | .bad => hunt fuel (discardFrame c)
      | .good f after => hunt fuel (offerFrame { c with rx := after } f)

/-- R189: bytes reach the receiver. -/
def receive (c : Console) (bytes : List Byte) : Console :=
  let rx := c.rx ++ bytes
  hunt rx.length { c with rx }

/-- R189, entry 13: every frame that is not complete is discarded; `fuel` bounds them. -/
def timeOutFrames : Nat → Console → Console
  | 0, c => c
  | fuel + 1, c => if c.rx = [] then c else timeOutFrames fuel (hunt c.rx.length (discardFrame c))

/-! ### Sending (R192, R193) -/

def stateNumber : CtrlState → Nat
  | .idle => 0
  | .checking => 1
  | .preroll => 2
  | .armed => 3
  | .running => 4
  | .holding => 5
  | .held => 6
  | .jogging => 7
  | .returning => 8
  | .stopping => 9
  | .faultStopping => 10
  | .faulted => 11

/-- R68, R193: the body of a STATE report. -/
def stateReportBytes (st : CtrlState) (kind : Option PassKind) (entry count : Nat) : List Byte :=
  u8 (stateNumber st) ++ optional (fun k => u8 (passKindNumber k)) kind ++ u8 entry ++ u8 count

/-- Table 11-1: the bytes of a message as its sending begins; a FAULT report carries the fault set as it stands then. -/
def messageBytes (m : Mon) : Message → List Byte
  | .reply kind tag body => frameBytes kind tag body
  | .state st kind entry count => frameBytes 0xE0 0 (stateReportBytes st kind entry count)
  | .fault => frameBytes 0xE1 0 (faultBytes m)
  | .check body => frameBytes 0xE2 0 body
  | .pass body => frameBytes 0xE3 0 body
  | .frame body => frameBytes 0xE4 0 body

/-- R192: the oldest message begins sending and leaves its position, which the held list may fill. -/
def sendNext (m : Mon) (c : Console) : Console :=
  match c.outQ with
  | [] => c
  | x :: rest => refill { c with outQ := rest, sending := messageBytes m x }

/-! ### STATUS (R195) -/

def clockStateNumber : ClockState → Nat
  | .stopped => 0
  | .waiting => 1
  | .advancing => 2
  | .atRest => 3

/-- R195: the move time, E and pass frame shown: the recorded ones while a return record exists (R82). -/
def shownPlace (s : State) : Nat × Nat × Nat :=
  match s.ctrl.ret with
  | some r => (r.time, r.travel, r.passFrame)
  | none => (s.clock.time, s.clock.travel, s.clock.passFrame)

def controllerBytes (s : State) : List Byte :=
  u8 (stateNumber s.ctrl.state) ++ optional (fun k => u8 (passKindNumber k)) s.ctrl.pass ++ u8 s.ctrl.entry ++
    flag s.ctrl.ret.isSome

def clockBytes (s : State) : List Byte :=
  u8 (clockStateNumber s.clock.state) ++ u32 (shownPlace s).1 ++ u32 (shownPlace s).2.1 ++ u32 s.clock.speed ++
    u16 (shownPlace s).2.2

def axisStatusBytes (s : State) (a : Axis) : List Byte :=
  i32 s.link.recs[a].lastSent ++ i32 s.link.recs[a].measured ++ flag s.link.recs[a].stale ++ u8 (driveNumber (s.driveOf a)) ++
    flag (s.isDetached a)

/-- R195: none, AXIS_HALT, PATH_STOP, DRIVE_OFF. -/
def severest (m : Mon) : Nat :=
  (allConds.map fun i => match m.insts[i].latched with | some a => actionNumber a + 1 | none => 0).foldl max 0

def faultSummaryBytes (s : State) : List Byte :=
  u8 (allConds.filter fun i => s.mon.insts[i].active).length ++ u8 (stillLatched s.mon).length ++ u8 (severest s.mon) ++
    flag s.estopActive

def consoleBytes (c : Console) : List Byte :=
  u16 c.badFrames ++ u16 c.discarded ++ u8 c.outQ.length ++ i64 c.held.length

/-- R195: the items in the table's order. -/
def statusBytes (s : State) : List Byte :=
  controllerBytes s ++ clockBytes s ++ overAxes s.configured (axisStatusBytes s) ++ faultSummaryBytes s ++
    u16 s.store.free ++ u16 (stagedKeys s.store) ++ consoleBytes s.console

/-- R195. -/
def status (tag : Byte) (body : List Byte) (s : State) : Tested State := do
  need .badForm (noFields body)
  pure (s.reply Kind.status tag .ok (statusBytes s))

/-! ### Meanings -/

def execStatus (tag : Byte) (body : List Byte) (s : State) : Answer := conclude s Kind.status tag (status tag body s)

/-- UNKNOWN_KIND (R191): the interface itself answers BAD_FORM. -/
def execUnknownKind (kind tag : Byte) (_body : List Byte) (s : State) : Answer := .next (s.reply kind tag .badForm [])

/-- FRAME_RECEIVE (R189). -/
def execFrameReceive (bytes : List Byte) (s : State) : Answer := .next { s with console := receive s.console bytes }

/-- INTER_BYTE_TIMEOUT (R189), while a frame is being received (entry 4). -/
def execInterByteTimeout (s : State) : Answer :=
  .next { s with console := timeOutFrames s.console.rx.length s.console }

/-- MESSAGE_SEND (R192), when a message waits (entry 4). -/
def execMessageSend (s : State) : Answer := .next { s with console := sendNext s.mon s.console }

/-- R191: the block that owns a request handles it. -/
def runRequest (i : Instr) (s : State) : Answer :=
  match i with
  | .rigReset t b => execRigReset t b s
  | .moveCreate t b => execMoveCreate t b s
  | .moveDelete t b => execMoveDelete t b s
  | .moveList t b => execMoveList t b s
  | .trackWrite t b => execTrackWrite t b s
  | .trackRead t b => execTrackRead t b s
  | .trackClear t b => execTrackClear t b s
  | .trackCopy t b => execTrackCopy t b s
  | .trackShift t b => execTrackShift t b s
  | .keyEdit t b => execKeyEdit t b s
  | .keyInsert t b => execKeyInsert t b s
  | .keyDelete t b => execKeyDelete t b s
  | .axisSet t b => execAxisSet t b s
  | .axisGet t b => execAxisGet t b s
  | .mapLoad t b => execMapLoad t b s
  | .mapClear t b => execMapClear t b s
  | .evalProbe t b => execEvalProbe t b s
  | .clockSet t b => execClockSet t b s
  | .clockGet t b => execClockGet t b s
  | .takeLoad t b => execTakeLoad t b s
  | .takeGet t b => execTakeGet t b s
  | .check t b => execCheck t b s
  | .arm t b => execArm t b s
  | .go t b => execGo t b s
  | .hold t b => execHold t b s
  | .stop t b => execStop t b s
  | .returnToPath t b => execReturnToPath t b s
  | .jog t b => execJog t b s
  | .jogBind t b => execJogBind t b s
  | .captureSet t b => execCaptureSet t b s
  | .wheelGet t b => execWheelGet t b s
  | .drivesOn t b => execDrivesOn t b s
  | .drivesOff t b => execDrivesOff t b s
  | .drivePass t b => execDrivePass t b s
  | .linkGet t b => execLinkGet t b s
  | .monitorSet t b => execMonitorSet t b s
  | .monitorGet t b => execMonitorGet t b s
  | .clearFaults t b => execClearFaults t b s
  | .logReference t b => execLogReference t b s
  | .logClear t b => execLogClear t b s
  | .logIndex t b => execLogIndex t b s
  | .logRead t b => execLogRead t b s
  | .reportSet t b => execReportSet t b s
  | .status t b => execStatus t b s
  | .lineSet t b => execLineSet t b s
  | .lineRead t b => execLineRead t b s
  | .cueLoad t b => execCueLoad t b s
  | .cueGet t b => execCueGet t b s
  | .unknownKind k t b => execUnknownKind k t b s
  | _ => .next s

/-- R191: at least 8 positions of the output queue are free. -/
def mayTake (c : Console) : Bool := c.outQ.length + 8 ≤ queueSize

/-- TAKE_REQUEST (R191): the oldest buffered frame is taken and dispatched by its kind, when the interface may take one
(entry 4). -/
def execTakeRequest (s : State) : Answer :=
  match s.console.inBuf with
  | [] => .next s
  | f :: rest =>
    if mayTake s.console then
      runRequest (Instr.ofFrame f.kind f.tag f.body) { s with console := { s.console with inBuf := rest } }
    else .next s

end Sys2Proof.Machine
end

