-- ==== Sys2Proof/Machine/Dispatch.lean ====
section
/-! DEFINITION. The effect of each command: one arm per row of the opcode table, each one call of that row's meaning. -/

namespace Sys2Proof.Machine

/-- The command's effect on everything but the queue of the commands that wait. -/
def exec (i : Instr) (s : State) : Host.Outcome State Fault Refusal :=
  match i with
  | .powerOnReset => Sys2Proof.Machine.execPowerOnReset s
  | .rigReset tag body => Sys2Proof.Machine.execRigReset tag body s
  | .moveCreate tag body => Sys2Proof.Machine.execMoveCreate tag body s
  | .moveDelete tag body => Sys2Proof.Machine.execMoveDelete tag body s
  | .moveList tag body => Sys2Proof.Machine.execMoveList tag body s
  | .trackWrite tag body => Sys2Proof.Machine.execTrackWrite tag body s
  | .trackRead tag body => Sys2Proof.Machine.execTrackRead tag body s
  | .trackClear tag body => Sys2Proof.Machine.execTrackClear tag body s
  | .trackCopy tag body => Sys2Proof.Machine.execTrackCopy tag body s
  | .trackShift tag body => Sys2Proof.Machine.execTrackShift tag body s
  | .keyEdit tag body => Sys2Proof.Machine.execKeyEdit tag body s
  | .keyInsert tag body => Sys2Proof.Machine.execKeyInsert tag body s
  | .keyDelete tag body => Sys2Proof.Machine.execKeyDelete tag body s
  | .axisSet tag body => Sys2Proof.Machine.execAxisSet tag body s
  | .axisGet tag body => Sys2Proof.Machine.execAxisGet tag body s
  | .mapLoad tag body => Sys2Proof.Machine.execMapLoad tag body s
  | .mapClear tag body => Sys2Proof.Machine.execMapClear tag body s
  | .evalProbe tag body => Sys2Proof.Machine.execEvalProbe tag body s
  | .clockSet tag body => Sys2Proof.Machine.execClockSet tag body s
  | .clockGet tag body => Sys2Proof.Machine.execClockGet tag body s
  | .takeLoad tag body => Sys2Proof.Machine.execTakeLoad tag body s
  | .takeGet tag body => Sys2Proof.Machine.execTakeGet tag body s
  | .check tag body => Sys2Proof.Machine.execCheck tag body s
  | .arm tag body => Sys2Proof.Machine.execArm tag body s
  | .go tag body => Sys2Proof.Machine.execGo tag body s
  | .hold tag body => Sys2Proof.Machine.execHold tag body s
  | .stop tag body => Sys2Proof.Machine.execStop tag body s
  | .returnToPath tag body => Sys2Proof.Machine.execReturnToPath tag body s
  | .jog tag body => Sys2Proof.Machine.execJog tag body s
  | .jogBind tag body => Sys2Proof.Machine.execJogBind tag body s
  | .captureSet tag body => Sys2Proof.Machine.execCaptureSet tag body s
  | .wheelGet tag body => Sys2Proof.Machine.execWheelGet tag body s
  | .drivesOn tag body => Sys2Proof.Machine.execDrivesOn tag body s
  | .drivesOff tag body => Sys2Proof.Machine.execDrivesOff tag body s
  | .drivePass tag body => Sys2Proof.Machine.execDrivePass tag body s
  | .linkGet tag body => Sys2Proof.Machine.execLinkGet tag body s
  | .monitorSet tag body => Sys2Proof.Machine.execMonitorSet tag body s
  | .monitorGet tag body => Sys2Proof.Machine.execMonitorGet tag body s
  | .clearFaults tag body => Sys2Proof.Machine.execClearFaults tag body s
  | .logReference tag body => Sys2Proof.Machine.execLogReference tag body s
  | .logClear tag body => Sys2Proof.Machine.execLogClear tag body s
  | .logIndex tag body => Sys2Proof.Machine.execLogIndex tag body s
  | .logRead tag body => Sys2Proof.Machine.execLogRead tag body s
  | .reportSet tag body => Sys2Proof.Machine.execReportSet tag body s
  | .status tag body => Sys2Proof.Machine.execStatus tag body s
  | .lineSet tag body => Sys2Proof.Machine.execLineSet tag body s
  | .lineRead tag body => Sys2Proof.Machine.execLineRead tag body s
  | .cueLoad tag body => Sys2Proof.Machine.execCueLoad tag body s
  | .cueGet tag body => Sys2Proof.Machine.execCueGet tag body s
  | .unknownKind kind tag body => Sys2Proof.Machine.execUnknownKind kind tag body s
  | .frameReceive bytes => Sys2Proof.Machine.execFrameReceive bytes s
  | .interByteTimeout => Sys2Proof.Machine.execInterByteTimeout s
  | .takeRequest => Sys2Proof.Machine.execTakeRequest s
  | .messageSend => Sys2Proof.Machine.execMessageSend s
  | .servoTimerExpiry pins => Sys2Proof.Machine.execServoTimerExpiry pins s
  | .rampAtRest => Sys2Proof.Machine.execRampAtRest s
  | .triggerEnd => Sys2Proof.Machine.execTriggerEnd s
  | .cameraPulse => Sys2Proof.Machine.execCameraPulse s
  | .cameraLostExpiry => Sys2Proof.Machine.execCameraLostExpiry s
  | .pendingClearExpiry line => Sys2Proof.Machine.execPendingClearExpiry line s
  | .lineFilterEdge line => Sys2Proof.Machine.execLineFilterEdge line s
  | .driveReply bytes => Sys2Proof.Machine.execDriveReply bytes s
  | .slotEnd => Sys2Proof.Machine.execSlotEnd s
  | .enableTimeout axis => Sys2Proof.Machine.execEnableTimeout axis s
  | .prerollArrival => Sys2Proof.Machine.execPrerollArrival s
  | .returnArrival => Sys2Proof.Machine.execReturnArrival s
  | .checkCompletion => Sys2Proof.Machine.execCheckCompletion s
  | .jogRefreshExpiry axis => Sys2Proof.Machine.execJogRefreshExpiry axis s
  | .wheelStep wheel up => Sys2Proof.Machine.execWheelStep wheel up s

end Sys2Proof.Machine
end

