-- ==== Sys2Proof/Safety.lean ====
section
/-! DEFINITION. The laws of the device, as invariants of the state: what the manual says holds at all times, block by block.
Each is kept by every command; the statements of Sys2Proof/Certificates say so. -/

namespace Sys2Proof.Machine

/-! ### The move store -/

/-- The track of an axis in a move slot. -/
def Store.track (st : Store) (m : MoveSlot) (a : Axis) : Option Track :=
  match st.moves[m] with
  | some mv => mv.tracks[a]
  | none => none

/-- R3, R4, R21: the keys in tracks, in staging and free total 16,384; a track holds 1 to 4,096 keys and a staging list at most
4,096. -/
structure StoreLaw (st : Store) : Prop where
  pool : keysInTracks st + stagedKeys st + st.free = poolSize
  tracks : ∀ (m : MoveSlot) (a : Axis), ∀ ks ∈ st.track m a, 1 ≤ ks.length ∧ ks.length ≤ maxTrackKeys
  staged : ∀ l ∈ st.staging, l.keys.length ≤ maxTrackKeys

/-- R3: every track's keys stand in strictly increasing time. -/
def TracksOrdered (st : Store) : Prop := ∀ (m : MoveSlot) (a : Axis), ∀ ks ∈ st.track m a, ascending ks = true

/-- R3, R20, R176: tracks and staging lists stand in strictly increasing time; a staged key is SMOOTH and AUTO and no later than the
pass frame that stands; staging is empty but in a capture pass. -/
structure OrderLaw (s : State) : Prop where
  tracks : TracksOrdered s.store
  staged : ∀ l ∈ s.store.staging, ascending l.keys = true
  shape : ∀ l ∈ s.store.staging, ∀ k ∈ l.keys, k.segment = .smooth ∧ k.tangents = .auto
  reached : ∀ e ∈ s.runEntry? 1, ∀ l ∈ s.store.staging, ∀ k ∈ l.keys,
    k.time ≤ (e.startFrame + s.clock.passFrame) * subframes
  onlyCapture : s.ctrl.pass ≠ some .capture → s.store.staging = []

/-- The store requests of 01_moves_tracks_and_keys.md. -/
def isStoreRequest : Instr → Bool
  | .moveCreate _ _ | .moveDelete _ _ | .moveList _ _ | .trackWrite _ _ | .trackRead _ _ | .trackClear _ _
  | .trackCopy _ _ | .trackShift _ _ | .keyEdit _ _ | .keyInsert _ _ | .keyDelete _ _ => true
  | _ => false

/-- A key whose fields lie in their ranges (Table 1-1). -/
def keyInRange (k : Key) : Bool :=
  k.time ≤ maxU32 && fits32 k.value &&
    match k.tangents with
    | .auto => true
    | .set i o => fits32 i && fits32 o

/-! ### The axis table -/

/-- R24, Table 2-1: an axis record's fields lie in their ranges and its soft limits are in order. -/
def axisRecInRange (r : AxisRec) : Bool :=
  fits32 r.softMin && fits32 r.softMax && r.softMin < r.softMax && fits32 r.origin && 1 ≤ r.velLimit &&
    r.velLimit ≤ 2147483647 && 1 ≤ r.accLimit && r.accLimit ≤ 2147483647 && 1 ≤ r.jogVel && r.jogVel ≤ 2147483647 &&
    1 ≤ r.jogAcc && r.jogAcc ≤ 2147483647 && r.window ≤ 65535

/-- R39: z is q rounded to the nearest integer, ties going away from zero. -/
def IsRounded (q : ℚ) (z : Int) : Prop := |q - z| ≤ 1 / 2 ∧ (|q - z| = 1 / 2 → |q| < |(z : ℚ)|)

/-- R19: the slope from key a to key b in 1/65,536 units per frame, rounded to nearest and saturated. -/
def IsSlope (a b : Key) (tangent : Int) : Prop :=
  ∃ z : Int, IsRounded ((b.value - a.value : ℚ) * 65536 * 65536 / (b.time - a.time)) z ∧ tangent = sat32 z

/-- R30: a lens map has 2 to 64 entries in range, its inputs strictly increasing. -/
def mapInRange (es : LensMap) : Bool :=
  2 ≤ es.length && es.length ≤ 64 && es.all (fun e => fits32 e.1 && fits32 e.2) && risingInputs es

/-! ### The move clock and the run list -/

/-- R63: a run entry's fields lie in their ranges and its frames differ. -/
def entryInRange (e : RunEntry) : Bool :=
  e.startFrame ≤ 65535 && e.endFrame ≤ 65535 && 1 ≤ e.speed && e.speed ≤ 1000 && !(e.startFrame = e.endFrame)

/-- R44, Table 3-1: the clock settings lie in their ranges. -/
def settingsInRange (c : ClockSettings) : Bool :=
  1000 ≤ c.frameRate && c.frameRate ≤ 250000 && (c.servoRate = 1000 || c.servoRate = 2000 || c.servoRate = 4000) &&
    1 ≤ c.trigWidth && c.trigWidth ≤ 8 && 1 ≤ c.holdRamp && c.holdRamp ≤ 65535 && 1 ≤ c.resumeRamp &&
    c.resumeRamp ≤ 65535 && 1 ≤ c.faultRamp && c.faultRamp ≤ 65535

/-- R52: the target of an up ramp is at most full speed. -/
def rampInRange : Ramp → Bool
  | .up target _ => target ≤ 1000000
  | _ => true

/-- R82: the recorded place of a held pass lies in the ranges of Table 3-2. -/
def recordInRange (r : ReturnRec) : Bool :=
  r.time ≤ maxU32 && r.travel ≤ maxU32 && r.passFrame ≤ 65535 && r.rem < 1000000000000000 && r.speed ≤ 1000000

/-- R48: a move time between the start and end frames of an entry, inclusive. -/
def insideEntry (e : RunEntry) (time : Nat) : Bool :=
  min e.startFrame e.endFrame * subframes ≤ time && time ≤ max e.startFrame e.endFrame * subframes

/-- R82: the clock stands at the recorded place. -/
def standsAt (s : State) (r : ReturnRec) : Bool :=
  s.clock.time = r.time && s.clock.dir = r.dir && s.clock.travel = r.travel && s.clock.passFrame = r.passFrame &&
    s.ctrl.entry = r.entry

/-- R44, R47, R48, R50, R63, R82: the settings, the period in force and every item of Table 3-2 lie in their ranges; the pass frame is
the whole frames of E; while a pass exists, move time lies inside the current entry, in its direction; while a return record
exists, the clock stands at the recorded place. -/
structure ClockLaw (s : State) : Prop where
  settings : settingsInRange s.clock.cfg = true
  period : s.clock.period = 1000 ∨ s.clock.period = 500 ∨ s.clock.period = 250
  time : s.clock.time ≤ maxU32
  travel : s.clock.travel ≤ maxU32
  passFrame : s.clock.passFrame = s.clock.travel / subframes
  inside : s.ctrl.pass.isSome = true → ∀ e ∈ s.currentEntry?,
    insideEntry e s.clock.time = true ∧ s.clock.dir = entryDirection e
  rem : s.clock.rem < 1000000000000000
  speed : s.clock.speed ≤ 1000000
  ramp : rampInRange s.clock.ramp = true
  listLength : s.ctrl.runList.length ≤ 20
  list : ∀ e ∈ s.ctrl.runList, entryInRange e = true
  record : ∀ r ∈ s.ctrl.ret, recordInRange r = true ∧ standsAt s r = true

/-! ### The run controller -/

/-- The states in which the path governs a pass that goes on: the clock is not at rest for good (R67, R76, R79, R86). -/
def clockRuns (s : State) : Bool :=
  match s.ctrl.state, s.ctrl.stopForm with
  | .running, _ => true
  | .holding, _ => true
  | .stopping, some .path => true
  | .faultStopping, some .path => true
  | _, _ => false

/-- R66, R80, R82: the states in which a pass exists. -/
def passExists (s : State) : Bool :=
  clockRuns s || s.ctrl.state = .held || s.ctrl.state = .returning || (s.ctrl.state = .jogging && s.ctrl.ret.isSome)

/-- R51, R76, R79, R86: the kind of down ramp a controller state goes with. -/
def rampFits (s : State) : Bool :=
  match s.clock.ramp with
  | .down .hold _ => s.ctrl.state = .holding
  | .down .stop _ => s.ctrl.state = .stopping && s.ctrl.stopForm = some .path
  | .down .fault _ => s.ctrl.state = .faultStopping && s.ctrl.stopForm = some .path
  | _ => !(s.ctrl.state = .holding) && !(s.ctrl.stopForm = some .path)

/-- R51, R59, R66, R91, Table 4-2: how the items of the run controller, the move clock and the run check go together. -/
structure CtrlLaw (s : State) : Prop where
  stopForm : s.ctrl.stopForm.isSome = (s.ctrl.state = .stopping || s.ctrl.state = .faultStopping)
  clock : (s.clock.state = .advancing || s.clock.state = .waiting) = clockRuns s
  waiting : s.clock.state = .waiting → s.ctrl.state = .running
  follower : s.clock.state = .waiting → s.clock.cfg.sync = .follower ∧ s.clock.speed = 0
  ramp : rampFits s = true
  pass : s.ctrl.pass.isSome = passExists s
  returning : s.ctrl.state = .returning → s.ctrl.ret.isSome = true
  record : s.ctrl.ret.isSome = true → s.ctrl.state = .held ∨ s.ctrl.state = .jogging ∨ s.ctrl.state = .returning
  progress : s.check.progress.isSome = decide (s.ctrl.state = .checking)
  walked : ∀ p ∈ s.check.progress, p.taken ≤ p.total + 1
  entry : s.ctrl.pass.isSome = decide (1 ≤ s.ctrl.entry)
  inList : s.ctrl.entry ≤ s.ctrl.runList.length
  recorded : ∀ r ∈ s.ctrl.ret, 1 ≤ r.entry ∧ r.entry ≤ s.ctrl.runList.length

/-! ### The axis link -/

/-- R107, R111, R116 to R120: only a configured axis has a drive that is not OFF; an axis has an enabling setpoint exactly while
ENABLING, and then only an enable count; counts stay in their ranges; of the queue at most one transaction is in flight, and then
the slot in progress is its. -/
structure LinkLaw (s : State) : Prop where
  configured : ∀ a : Axis, s.driveOf a ≠ .off → s.configured a = true
  enabling : ∀ a : Axis, (s.link.recs[a]).enabling.isSome = decide (s.driveOf a = .enabling)
  enableCount : ∀ a : Axis, (s.link.recs[a]).enableCount ≤ 100
  noCount : ∀ a : Axis, s.driveOf a ≠ .enabling → (s.link.recs[a]).enableCount = 0
  misses : ∀ a : Axis, (s.link.recs[a]).misses ≤ 255
  queue : s.link.queue.length ≤ 4
  attempts : ∀ t ∈ s.link.queue, t.age ≤ 255 ∧ t.fails ≤ 2
  flying : (s.link.queue.filter (·.flying)).length ≤ 1
  inSlot : ∀ t ∈ s.link.queue, t.flying = true → ∃ p, s.link.period = some p ∧ p.current = .acyclic

/-- R112: soft limits are in order, an ENABLING axis has its enabling setpoint, and the setpoint formed for an axis whose drive is
not OFF lies within its soft limits. -/
structure SetpointLaw (s : State) : Prop where
  limits : ∀ a : Axis, (s.axes.recs[a]).softMin ≤ (s.axes.recs[a]).softMax
  enabling : ∀ a : Axis, s.driveOf a = .enabling → (s.link.recs[a]).enabling.isSome = true
  inside : ∀ a : Axis, s.driveOf a ≠ .off →
    (s.axes.recs[a]).softMin ≤ s.currentSetpoint a ∧ s.currentSetpoint a ≤ (s.axes.recs[a]).softMax

/-- R119, R180, R183: L1 is the e-stop input for good; while it is active, or a DRIVE_OFF condition is latched, every drive is OFF.
-/
structure EstopLaw (s : State) : Prop where
  selected : (s.lines.lines[(1 : Line)]).selected = true
  input : (s.lines.lines[(1 : Line)]).mode = .input
  drives : s.estopActive = true → ∀ a : Axis, s.driveOf a = .off
  latched : ∀ i : CondId, (s.mon.insts[i]).latched = some .driveOff → ∀ a : Axis, s.driveOf a = .off

/-! ### The monitor unit -/

/-- R126, R127, R136, R140: ESTOP's settings are those of Table 7-2; no rig monitor's action is AXIS_HALT; of an instance's two
runs one is 0 and none passes 16; an axis is detached only by instances of its own. -/
structure MonLaw (m : Mon) : Prop where
  estop : m.settings[estopCond] = Monitor.default estopCond
  rig : ∀ i : CondId, 96 ≤ i.val → (m.settings[i]).action ≠ .axisHalt
  runs : ∀ i : CondId, (m.insts[i]).trueRun ≤ 16 ∧ (m.insts[i]).falseRun ≤ 16
  oneRun : ∀ i : CondId, (m.insts[i]).trueRun = 0 ∨ (m.insts[i]).falseRun = 0
  detached : ∀ a : Axis, ∀ i ∈ m.detached[a], i.val < 96 ∧ condAxis i = a

/-- R126, Table 7-1: a monitor's settings lie in their ranges; a rig monitor's action is not AXIS_HALT, and a setting the monitor has
not is 0. -/
def monitorInRange (name : Nat) (m : Monitor) : Bool :=
  name < 9 && (isPerAxis name || !(m.action = .axisHalt)) && thresholdInRange name m.threshold && 1 ≤ m.deglitch &&
    m.deglitch ≤ 16 && m.blanking ≤ 1000 && (hasBlanking name || m.blanking = 0)

/-! ### The pass log -/

/-- R146, R148, R149, R151, R155, R156: the age order lists each slot once; the reference is a completed PLAY pass that is not
being recorded; the slot being recorded and the slot held are occupied and differ; no slot holds more than 16,384 records. -/
structure LogLaw (l : PassLog) : Prop where
  age : l.age.length = 4 ∧ l.age.Nodup
  counter : l.counter ≤ 65535
  reference : ∀ i ∈ l.reference, mayBeReference l i = true
  recording : ∀ i ∈ l.recording, (l.slots[i]).isSome = true
  held : ∀ i ∈ l.heldSlot, (l.slots[i]).isSome = true ∧ l.recording ≠ some i
  records : ∀ i : PassSlot, ∀ p ∈ l.slots[i], p.records.length ≤ maxFrameRecords

/-- R154: a pass with its outcome set. -/
def closedPass (p : PassRec) (outcome : PassOutcome) : PassRec := { p with header := { p.header with outcome } }

/-- R154: from s to t the pass being recorded has ended with an outcome: its header is closed, the slot is neither recorded nor held any
more, and its PASS report waits; or, while a crossing's record waits for its batch, the header is held open with the outcome. -/
def PassCloses (s t : State) (outcome : PassOutcome) : Prop :=
  ∀ (i : PassSlot) (p : PassRec), s.log.recording = some i → s.log.slots[i] = some p →
    (s.log.crossing = none →
      t.log.slots[i] = some (closedPass p outcome) ∧ t.log.recording = none ∧ t.log.heldSlot = none ∧
        .pass (u8 (i.val + 1) ++ headerBytes (closedPass p outcome).header p.records.length) ∈
          t.console.outQ ++ t.console.held) ∧
    (s.log.crossing.isSome = true → t.log = { s.log with closing := some outcome })

/-! ### The cues -/

/-- R186: a line after the cues of a pass frame of a pass have fired: every entry for the line, of that pass frame and of kinds that match,
acts in table order: SET and CLEAR write the latch and cancel the pending clear, PULSE sets the latch and counts its width. -/
def lineAfterCues (cues : List Cue) (n : Nat) (kind : PassKind) (l : Line) (r : RigLine) : RigLine :=
  cues.foldl
    (fun r c =>
      if c.line = l ∧ c.passFrame = n ∧
          (c.kinds = .both ∨ (c.kinds = .play ∧ kind = .play) ∨ (c.kinds = .capture ∧ kind = .capture)) then
        match c.action with
        | .set => { r with latch := true, pendingClear := none }
        | .clear => { r with latch := false, pendingClear := none }
        | .pulse w => { r with latch := true, pendingClear := some w }
      else r)
    r

/-! ### The console link -/

/-- R190 to R194: the bounds of the input buffer, the output queue and the counts; messages are held only while the queue is
full, and a FRAME report never waits while one is held; at most one STATE report and one FAULT report await sending. -/
structure ConsoleLaw (c : Console) : Prop where
  input : c.inBuf.length ≤ 4
  output : c.outQ.length ≤ queueSize
  heldFull : c.held = [] ∨ c.outQ.length = queueSize
  heldFrames : ∀ m ∈ c.held, isFrameReport m = false
  queueFrames : c.held = [] ∨ ∀ m ∈ c.outQ, isFrameReport m = false
  oneState : ((c.outQ ++ c.held).filter isStateReport).length ≤ 1
  oneFault : ((c.outQ ++ c.held).filter isFaultReport).length ≤ 1
  badFrames : c.badFrames ≤ 65535
  discarded : c.discarded ≤ 65535
  skipped : c.skipped ≤ 255

/-! ### A period that has nothing left to finish -/

/-- Entries 1, 2, 21: no event that a count or a timer has brought about waits to be taken, and no slot is in progress. -/
structure Quiet (s : State) : Prop where
  trigger : s.clock.trigger ≠ some 0
  clears : ∀ l : Line, (s.lines.lines[l]).pendingClear ≠ some 0
  edges : ∀ l : Line, (s.edgeDue l).isNone = true
  ramp : s.rampDue = false
  enables : ∀ a : Axis, s.link.due[a] = false
  arrival : s.ctrl.inPos ≠ 10
  timer : overdue s.clock.period s.clock.lostTimer = false
  check : ∀ p ∈ s.check.progress, s.clock.period ≤ p.timeLeft
  refresh : ∀ a : Axis, overdue s.clock.period (s.gen.recs[a]).refresh = false

end Sys2Proof.Machine
end

