-- ==== Sys2Proof/Certificates/Slice0/Obligations.lean ====
section
/-! DEFINITION. The statements for the provers: what the numbered rules of spec/ say each command and the machine do, stated of
the model. A completion statement names the state a command answers; where it writes `{ t with x := s.x } = s`, every block but
`x` is unchanged. -/

open Sys2Proof Sys2Proof.Machine

/-! ### The queue of commands -/

/-- Entry 4 and 95_what_each_step_holds.md: a step takes the command at the front of the queue and runs it with the queue's rest;
on an empty queue the 1620 idles (DESIGN CHOICE, entry 4). -/
def Obligations.StepRunsTheFrontCommand : Prop :=
  (∀ (c : Instr) (rest : List Instr) (s : State),
    step { s with pending := c :: rest } = exec c { s with pending := rest }) ∧
  ∀ s : State, s.pending = [] → step s = .next s

/-- Every command answers a next state, and leaves the queue of the commands that wait as it was (the model's own, entries 4
and 28). -/
def Obligations.CommandsCompleteAndKeepTheQueue : Prop :=
  ∀ (c : Instr) (s : State), ∃ t, exec c s = .next t ∧ t.pending = s.pending

/-! ### The resets -/

/-- R23, R25, R30, R44, R47, R63, R66, R106, R124, R145, R148, R160, R169, R172, R188, R196: POWER_ON_RESET puts every block at its
power-on values. The skipped count's 0 is the model's choice (entry 6). -/
def Obligations.PowerOnResetValues : Prop :=
  ∀ s : State, ∃ t, exec .powerOnReset s = .next t ∧
    (∀ m : MoveSlot, t.store.moves[m] = none) ∧ t.store.free = 16384 ∧ t.store.staging = [] ∧
    (∀ a : Axis, t.axes.recs[a] =
        { configured := false, softMin := -2147483648, softMax := 2147483647, origin := 0, velLimit := 100000
          accLimit := 1000000, jogVel := 10000, jogAcc := 100000, window := 100 } ∧ t.axes.maps[a] = none) ∧
    t.clock.cfg = { sync := .free, frameRate := 24000, servoRate := 1000, trigWidth := 2, holdRamp := 500
                    resumeRamp := 500, faultRamp := 100 } ∧
    t.clock.state = .stopped ∧ t.clock.time = 0 ∧ t.clock.dir = .forward ∧ t.clock.travel = 0 ∧ t.clock.passFrame = 0 ∧
    t.clock.rem = 0 ∧ t.clock.speed = 0 ∧ t.clock.ramp = .none ∧ t.clock.lock = none ∧ t.clock.budget = 0 ∧
    t.clock.lostTimer = none ∧ t.clock.trigger = none ∧
    t.ctrl.runList = [] ∧ t.ctrl.state = .idle ∧ t.ctrl.stopForm = none ∧ t.ctrl.purpose = none ∧
    t.ctrl.armSetpoints = none ∧ t.ctrl.prerollTargets = none ∧ t.ctrl.inPos = 0 ∧ t.ctrl.pass = none ∧
    t.ctrl.entry = 0 ∧ t.ctrl.landing = false ∧ t.ctrl.ret = none ∧
    t.check.progress = none ∧ t.check.record = none ∧
    (∀ a : Axis, t.link.recs[a] =
        { drive := .off, enableCount := 0, enabling := none, measured := 0
          flags := { ready := false, fault := false, limitPos := false, limitNeg := false }
          stale := true, misses := 0, lastSent := 0 }) ∧
    t.link.queue = [] ∧
    (∀ i : CondId, t.mon.settings[i] = Monitor.default i ∧ (t.mon.insts[i]).active = false ∧
        (t.mon.insts[i]).latched = none ∧ (t.mon.insts[i]).trueRun = 0 ∧ (t.mon.insts[i]).falseRun = 0 ∧
        (t.mon.insts[i]).last = false ∧ (t.mon.insts[i]).cause = none ∧ (t.mon.insts[i]).value = none ∧
        (t.mon.insts[i]).stamp = none) ∧
    (∀ a : Axis, t.mon.detached[a] = [] ∧ t.mon.blank[a] = 0) ∧ t.mon.periodCount = 0 ∧
    (∀ i : PassSlot, t.log.slots[i] = none) ∧ t.log.age = [0, 1, 2, 3] ∧ t.log.reference = none ∧ t.log.counter = 0 ∧
    (∀ a : Axis, (t.gen.recs[a]).mode = .idle ∧ (t.gen.recs[a]).x = 0 ∧ (t.gen.recs[a]).v = 0 ∧
        (t.gen.recs[a]).target = none ∧ (t.gen.recs[a]).jogVel = none ∧ (t.gen.recs[a]).refresh = none ∧
        (t.gen.recs[a]).wheel = none ∧ (t.gen.recs[a]).captureStart = none) ∧ t.gen.captureBase = [] ∧
    (∀ w : Wheel, t.wheels.counters[w] = 0) ∧ t.wheels.bindings = [] ∧ t.wheels.stride = 1 ∧
    (∀ l : Line, t.lines.lines[l] =
        { mode := .input, latch := false, selected := decide (l = 1), pendingClear := none }) ∧
    t.lines.filterL1 = { active := false, count := 0 } ∧ t.lines.edgeArmed = false ∧ t.lines.cues = [] ∧
    t.console.inBuf = [] ∧ t.console.outQ = [] ∧ t.console.held = [] ∧ t.console.badFrames = 0 ∧
    t.console.discarded = 0 ∧ t.console.interval = 0 ∧ t.console.mask = 0 ∧ t.console.skipped = 0 ∧ t.console.rx = [] ∧
    t.console.sending = []

/-- R23, R54, R66, R90, R106, R124, R145, R154, R178, R188, R196: what RIG_RESET sets and what it keeps; a pass in progress is closed
STOPPED and reported; the messages that wait are kept in their order but for FRAME reports (a waiting STATE report may be updated);
its reply is the last message, and a body with fields is refused. That the miss count becomes 0 also in the record of an unconfigured
axis is the model's choice (entry 46). -/
def Obligations.RigResetResult : Prop :=
  ∀ (s : State) (tag : Byte),
    (∃ t, exec (.rigReset tag []) s = .next t ∧
      t.store.moves = s.store.moves ∧ t.store.staging = [] ∧ t.store.free = s.store.free + stagedKeys s.store ∧
      t.axes = s.axes ∧ t.wheels = s.wheels ∧
      t.clock = { Clock.reset with cfg := s.clock.cfg, period := s.clock.period } ∧
      t.ctrl.runList = s.ctrl.runList ∧ t.ctrl.state = .idle ∧ t.ctrl.stopForm = none ∧ t.ctrl.purpose = none ∧
      t.ctrl.armSetpoints = none ∧ t.ctrl.prerollTargets = none ∧ t.ctrl.inPos = 0 ∧ t.ctrl.pass = none ∧
      t.ctrl.entry = 0 ∧ t.ctrl.landing = false ∧ t.ctrl.ret = none ∧
      t.check = { progress := none, record := none } ∧
      (∀ a : Axis, t.link.recs[a] =
          { s.link.recs[a] with drive := .off, enableCount := 0, enabling := none, misses := 0 }) ∧
      t.link.queue = [] ∧
      (∀ i : CondId, t.mon.settings[i] = s.mon.settings[i] ∧
          t.mon.insts[i] =
            { s.mon.insts[i] with active := false, latched := none, trueRun := 0, falseRun := 0, last := false }) ∧
      (∀ a : Axis, t.mon.detached[a] = [] ∧ t.mon.blank[a] = 0) ∧ t.mon.periodCount = s.mon.periodCount ∧
      t.log.counter = s.log.counter ∧ t.log.reference = s.log.reference ∧ t.log.age = s.log.age ∧
      (∀ i : PassSlot, s.log.recording ≠ some i → t.log.slots[i] = s.log.slots[i]) ∧
      (s.ctrl.pass.isSome = true → t.log.recording = none) ∧
      (∀ (i : PassSlot) (p : PassRec), s.ctrl.pass.isSome = true → s.log.closing = none → s.log.recording = some i →
        s.log.slots[i] = some p →
        t.log.slots[i] = some (closedPass p .stopped) ∧ t.log.heldSlot = none ∧
          .pass (u8 (i.val + 1) ++ headerBytes (closedPass p .stopped).header p.records.length) ∈
            t.console.outQ ++ t.console.held) ∧
      (∀ a : Axis, (t.gen.recs[a]).mode = .idle ∧ (t.gen.recs[a]).v = 0 ∧ (t.gen.recs[a]).x = (s.gen.recs[a]).x) ∧
      (∀ l : Line, t.lines.lines[l] =
          { s.lines.lines[l] with
            latch := (s.lines.lines[l]).latch && (s.lines.lines[l]).pendingClear.isNone, pendingClear := none }) ∧
      { t.lines with lines := s.lines.lines } = s.lines ∧
      t.console.inBuf = s.console.inBuf ∧ t.console.badFrames = s.console.badFrames ∧
      t.console.discarded = s.console.discarded ∧ t.console.interval = s.console.interval ∧
      t.console.mask = s.console.mask ∧ t.console.skipped = 0 ∧
      (t.console.outQ ++ t.console.held).all (!isFrameReport ·) = true ∧
      (s.console.outQ ++ s.console.held).filter (fun m => !isFrameReport m && !isStateReport m) <+:
        (t.console.outQ ++ t.console.held).filter (fun m => !isFrameReport m && !isStateReport m) ∧
      (t.console.outQ ++ t.console.held).getLast? = some (.reply 0xDF tag [0])) ∧
    ∀ (b : Byte) (bs : List Byte), exec (.rigReset tag (b :: bs)) s = .next (s.reply 0x5F tag .badForm [])

/-! ### The move store -/

/-- R6, R7: MOVE_CREATE occupies an empty slot and MOVE_DELETE empties an occupied one whose move is not frozen; nothing else
changes but the output queue, which gets the reply. Each is refused for a slot number outside 1 to 32, MOVE_CREATE for an ill-formed
name and an occupied slot, MOVE_DELETE for an empty slot and a frozen move. -/
def Obligations.MoveCreateAndDelete : Prop :=
  ∀ (tag : Byte) (s : State),
    (∀ (m : MoveSlot) (name : List Byte),
      (nameOk name = true → s.store.moves[m] = none →
        exec (.moveCreate tag (u8 (m.val + 1) ++ u8 name.length ++ name)) s =
          .next
            (({ s with
                store := { s.store with moves := put s.store.moves m (some { name, tracks := fill 16 none }) } }).reply
              0x01 tag .ok (u16 s.store.free))) ∧
      (nameOk name = true → s.store.moves[m] ≠ none →
        exec (.moveCreate tag (u8 (m.val + 1) ++ u8 name.length ++ name)) s = .next (s.reply 0x01 tag .inUse [])) ∧
      (nameOk name = false → name.length ≤ 255 →
        exec (.moveCreate tag (u8 (m.val + 1) ++ u8 name.length ++ name)) s = .next (s.reply 0x01 tag .badValue [])) ∧
      (s.store.moves[m] = none → exec (.moveDelete tag (u8 (m.val + 1))) s = .next (s.reply 0x02 tag .noSuch [])) ∧
      ∀ mv : Move, s.store.moves[m] = some mv →
        (s.frozen m = false →
          exec (.moveDelete tag (u8 (m.val + 1))) s =
            .next
              (({ s with
                  store :=
                    { s.store with moves := put s.store.moves m none, free := s.store.free + moveKeys mv } }).reply
                0x02 tag .ok (u16 (moveKeys mv) ++ u16 (s.store.free + moveKeys mv)))) ∧
        (s.frozen m = true → exec (.moveDelete tag (u8 (m.val + 1))) s = .next (s.reply 0x02 tag .inUse []))) ∧
    ∀ (n : Nat) (name : List Byte), n ≤ 255 → (n = 0 ∨ 32 < n) → name.length ≤ 255 →
      exec (.moveCreate tag (u8 n ++ u8 name.length ++ name)) s = .next (s.reply 0x01 tag .badValue []) ∧
        exec (.moveDelete tag (u8 n)) s = .next (s.reply 0x02 tag .badValue [])

/-- R9, R10: an accepted TRACK_WRITE. REPLACE makes the carried keys the whole track, APPEND adds them after the last key; the
keys they take come from the free keys and the replaced ones return to them. Nothing else changes but the output queue. -/
def Obligations.TrackWriteReplacesOrAppends : Prop :=
  ∀ (m : MoveSlot) (a : Axis) (mv : Move) (ks : List Key) (tag : Byte) (s : State),
    s.store.moves[m] = some mv → s.frozen m = false → 1 ≤ ks.length → ks.length ≤ 64 →
    ks.all keyInRange = true → ascending ks = true →
    (ks.length ≤ s.store.free + trackCount mv a →
      exec (.trackWrite tag (u8 (m.val + 1) ++ u8 a.val ++ u8 0 ++ u16 ks.length ++ ks.flatMap keyBytes)) s =
        .next
          (({ s with
              store :=
                { s.store with
                  moves := put s.store.moves m (some { mv with tracks := put mv.tracks a (some ks) })
                  free := s.store.free + trackCount mv a - ks.length } }).reply
            0x04 tag .ok
            (u8 (m.val + 1) ++ u8 a.val ++ u16 ks.length ++ u16 (s.store.free + trackCount mv a - ks.length)))) ∧
    ∀ old : List Key, (mv.tracks[a]).getD [] = old →
      (∀ last ∈ old.getLast?, ∀ first ∈ ks.head?, last.time < first.time) →
      ks.length ≤ s.store.free → old.length + ks.length ≤ 4096 →
      exec (.trackWrite tag (u8 (m.val + 1) ++ u8 a.val ++ u8 1 ++ u16 ks.length ++ ks.flatMap keyBytes)) s =
        .next
          (({ s with
              store :=
                { s.store with
                  moves := put s.store.moves m (some { mv with tracks := put mv.tracks a (some (old ++ ks)) })
                  free := s.store.free - ks.length } }).reply
            0x04 tag .ok
            (u8 (m.val + 1) ++ u8 a.val ++ u16 (old.length + ks.length) ++ u16 (s.store.free - ks.length)))

/-- R12, R13, R14: TRACK_CLEAR makes a track absent and frees its keys; TRACK_COPY makes the destination track the source's
keys, with the destination's own keys counted as free; TRACK_SHIFT moves every key by a time offset and a value offset when
all stay in range, and is refused with BAD_VALUE otherwise. Nothing else changes but the output queue. The fields of
TRACK_CLEAR's reply are the model's choice (entry 17). -/
def Obligations.TrackClearCopyAndShift : Prop :=
  ∀ (m : MoveSlot) (a : Axis) (mv : Move) (tag : Byte) (s : State), s.store.moves[m] = some mv → s.frozen m = false →
    exec (.trackClear tag (u8 (m.val + 1) ++ u8 a.val)) s =
      .next
        (({ s with
            store :=
              { s.store with
                moves := put s.store.moves m (some { mv with tracks := put mv.tracks a none })
                free := s.store.free + trackCount mv a } }).reply
          0x06 tag .ok (u16 (trackCount mv a) ++ u16 0 ++ u16 (s.store.free + trackCount mv a))) ∧
    (∀ (m' : MoveSlot) (a' : Axis) (src : Move) (ks : Track),
      s.store.moves[m'] = some src → src.tracks[a'] = some ks → ks ≠ [] → ks.length ≤ s.store.free + trackCount mv a →
      exec (.trackCopy tag (u8 (m'.val + 1) ++ u8 a'.val ++ u8 (m.val + 1) ++ u8 a.val)) s =
        .next
          (({ s with
              store :=
                { s.store with
                  moves := put s.store.moves m (some { mv with tracks := put mv.tracks a (some ks) })
                  free := s.store.free + trackCount mv a - ks.length } }).reply
            0x07 tag .ok
            (u8 (m.val + 1) ++ u8 a.val ++ u16 ks.length ++ u16 (s.store.free + trackCount mv a - ks.length)))) ∧
    ∀ (ks : Track) (dt dv : Int), mv.tracks[a] = some ks → ks ≠ [] → fits32 dt = true → fits32 dv = true →
      ((∀ k ∈ ks, 0 ≤ (k.time : Int) + dt ∧ (k.time : Int) + dt ≤ 4294967295 ∧ fits32 (k.value + dv) = true) →
        exec (.trackShift tag (u8 (m.val + 1) ++ u8 a.val ++ i32 dt ++ i32 dv)) s =
          .next
            (({ s with
                store :=
                  { s.store with
                    moves :=
                      put s.store.moves m
                        (some
                          { mv with
                            tracks :=
                              put mv.tracks a
                                (some
                                  (ks.map fun k : Key => { k with time := ((k.time : Int) + dt).toNat, value := k.value + dv })) })
                    free := s.store.free } }).reply
              0x08 tag .ok (u8 (m.val + 1) ++ u8 a.val ++ u16 ks.length ++ u16 s.store.free))) ∧
      ((∃ k ∈ ks, (k.time : Int) + dt < 0 ∨ 4294967295 < (k.time : Int) + dt ∨ fits32 (k.value + dv) = false) →
        exec (.trackShift tag (u8 (m.val + 1) ++ u8 a.val ++ i32 dt ++ i32 dv)) s =
          .next (s.reply 0x08 tag .badValue []))

/-- R15, R16, R17: one key of a track replaced, inserted or deleted. Nothing else changes but the output queue. The order of
the fields of KEY_INSERT's reply is the model's choice (entry 17). -/
def Obligations.KeyEditInsertAndDelete : Prop :=
  ∀ (m : MoveSlot) (a : Axis) (mv : Move) (key : Key) (tag : Byte) (s : State),
    s.store.moves[m] = some mv → s.frozen m = false → keyInRange key = true →
    (∀ (ks : Track) (n : Nat), mv.tracks[a] = some ks → n < ks.length → n < 65536 →
      ((n = 0 ∨ ∃ k, ks[n - 1]? = some k ∧ k.time < key.time) → (∀ k, ks[n + 1]? = some k → key.time < k.time) →
        exec (.keyEdit tag (u8 (m.val + 1) ++ u8 a.val ++ u16 n ++ keyBytes key)) s =
          .next
            (({ s with
                store :=
                  { s.store with
                    moves := put s.store.moves m (some { mv with tracks := put mv.tracks a (some (ks.set n key)) })
                    free := s.store.free } }).reply
              0x09 tag .ok (u8 (m.val + 1) ++ u8 a.val ++ u16 ks.length ++ u16 s.store.free))) ∧
      exec (.keyDelete tag (u8 (m.val + 1) ++ u8 a.val ++ u16 n)) s =
        .next
          (({ s with
              store :=
                { s.store with
                  moves :=
                    put s.store.moves m
                      (some
                        { mv with
                          tracks := put mv.tracks a (if ks.length = 1 then none else some (ks.eraseIdx n)) })
                  free := s.store.free + 1 } }).reply
            0x0B tag .ok (u8 (m.val + 1) ++ u8 a.val ++ u16 (ks.length - 1) ++ u16 (s.store.free + 1)))) ∧
    ((∀ k ∈ (mv.tracks[a]).getD [], k.time ≠ key.time) → 1 ≤ s.store.free → trackCount mv a < 4096 →
      ascending ((mv.tracks[a]).getD []) = true →
      ∃ before after, (mv.tracks[a]).getD [] = before ++ after ∧ (∀ k ∈ before, k.time < key.time) ∧
        (∀ k ∈ after, key.time < k.time) ∧
        exec (.keyInsert tag (u8 (m.val + 1) ++ u8 a.val ++ keyBytes key)) s =
          .next
            (({ s with
                store :=
                  { s.store with
                    moves :=
                      put s.store.moves m (some { mv with tracks := put mv.tracks a (some (before ++ key :: after)) })
                    free := s.store.free - 1 } }).reply
              0x0A tag .ok
              (u16 before.length ++
                (u8 (m.val + 1) ++ u8 a.val ++ u16 (before.length + after.length + 1) ++ u16 (s.store.free - 1)))))

/-- R8, R11: MOVE_LIST replies with the occupied slots in ascending order, the staged and the free keys, which make 16,384 with the keys
in the items; TRACK_READ, on frozen moves too, with the keys from its start index onward. Neither changes anything but the output
queue. A body with fields, a slot, axis or count outside its range, a start index at or beyond the key count, an empty slot and
an absent track are refused with their statuses. -/
def Obligations.MoveListAndTrackRead : Prop :=
  ∀ (tag : Byte) (s : State) (items : List (MoveSlot × Move)),
    items = (allMoveSlots.filterMap fun m => s.store.moves[m].map fun mv => (m, mv)) →
    exec (.moveList tag []) s =
      .next
        (s.reply 0x03 tag .ok
          (counted (fun p => moveItem p.1 p.2) items ++ u16 (stagedKeys s.store) ++ u16 s.store.free)) ∧
    (StoreLaw s.store →
      (items.map fun p => (allAxes.map fun a => ((p.2.tracks[a]).getD []).length).sum).sum + stagedKeys s.store +
        s.store.free = 16384) ∧
    (∀ (b : Byte) (bs : List Byte), exec (.moveList tag (b :: bs)) s = .next (s.reply 0x03 tag .badForm [])) ∧
    (∀ (m : MoveSlot) (a : Axis) (start count : Nat), start < 65536 → 1 ≤ count → count ≤ 64 →
      (∀ (mv : Move) (ks : Track), s.store.moves[m] = some mv → mv.tracks[a] = some ks →
        (start < ks.length →
          exec (.trackRead tag (u8 (m.val + 1) ++ u8 a.val ++ u16 start ++ u8 count)) s =
            .next
              (s.reply 0x05 tag .ok
                (u16 ks.length ++ u16 start ++ counted keyBytes ((ks.drop start).take count)))) ∧
        (ks.length ≤ start →
          exec (.trackRead tag (u8 (m.val + 1) ++ u8 a.val ++ u16 start ++ u8 count)) s =
            .next (s.reply 0x05 tag .badValue []))) ∧
      ((∀ mv : Move, s.store.moves[m] = some mv → mv.tracks[a] = none) →
        exec (.trackRead tag (u8 (m.val + 1) ++ u8 a.val ++ u16 start ++ u8 count)) s =
          .next (s.reply 0x05 tag .noSuch []))) ∧
    ∀ slot axis start count : Nat, slot ≤ 255 → axis ≤ 255 → start < 65536 → count ≤ 255 →
      (slot = 0 ∨ 32 < slot ∨ 15 < axis ∨ count = 0 ∨ 64 < count) →
      exec (.trackRead tag (u8 slot ++ u8 axis ++ u16 start ++ u8 count)) s = .next (s.reply 0x05 tag .badValue [])

/-- R5, R18: no store request changes the move in a frozen slot, whatever its body; one that would, one that names an empty slot, and one
for which the pool or the track (4,096 keys) has no room gets its status and changes nothing but the output queue. -/
def Obligations.StoreRequestsRefused : Prop :=
  (∀ (c : Instr) (m : MoveSlot) (mv : Move) (s t : State), isStoreRequest c = true → s.store.moves[m] = some mv →
    s.frozen m = true → exec c s = .next t → t.store.moves[m] = some mv) ∧
  ∀ (m : MoveSlot) (a : Axis) (key : Key) (ks : List Key) (mode n count : Nat) (dt dv : Int) (tag : Byte) (s : State),
    keyInRange key = true → 1 ≤ ks.length → ks.length ≤ 64 → ks.all keyInRange = true → mode ≤ 1 → n < 65536 →
    1 ≤ count → count ≤ 64 → fits32 dt = true → fits32 dv = true →
    (∀ mv : Move, s.store.moves[m] = some mv → s.frozen m = true →
      exec (.moveDelete tag (u8 (m.val + 1))) s = .next (s.reply 0x02 tag .inUse []) ∧
      exec (.trackWrite tag (u8 (m.val + 1) ++ u8 a.val ++ u8 mode ++ u16 ks.length ++ ks.flatMap keyBytes)) s =
        .next (s.reply 0x04 tag .inUse []) ∧
      exec (.trackClear tag (u8 (m.val + 1) ++ u8 a.val)) s = .next (s.reply 0x06 tag .inUse []) ∧
      exec (.keyInsert tag (u8 (m.val + 1) ++ u8 a.val ++ keyBytes key)) s = .next (s.reply 0x0A tag .inUse []) ∧
      (∀ (m' : MoveSlot) (a' : Axis) (src : Move), s.store.moves[m'] = some src → (src.tracks[a']).isSome = true →
        exec (.trackCopy tag (u8 (m'.val + 1) ++ u8 a'.val ++ u8 (m.val + 1) ++ u8 a.val)) s =
          .next (s.reply 0x07 tag .inUse [])) ∧
      ∀ old : Track, mv.tracks[a] = some old →
        exec (.trackShift tag (u8 (m.val + 1) ++ u8 a.val ++ i32 dt ++ i32 dv)) s = .next (s.reply 0x08 tag .inUse []) ∧
        (n < old.length →
          exec (.keyEdit tag (u8 (m.val + 1) ++ u8 a.val ++ u16 n ++ keyBytes key)) s =
            .next (s.reply 0x09 tag .inUse []) ∧
          exec (.keyDelete tag (u8 (m.val + 1) ++ u8 a.val ++ u16 n)) s = .next (s.reply 0x0B tag .inUse []))) ∧
    (s.store.moves[m] = none →
      exec (.moveDelete tag (u8 (m.val + 1))) s = .next (s.reply 0x02 tag .noSuch []) ∧
      exec (.trackWrite tag (u8 (m.val + 1) ++ u8 a.val ++ u8 mode ++ u16 ks.length ++ ks.flatMap keyBytes)) s =
        .next (s.reply 0x04 tag .noSuch []) ∧
      exec (.trackRead tag (u8 (m.val + 1) ++ u8 a.val ++ u16 n ++ u8 count)) s = .next (s.reply 0x05 tag .noSuch []) ∧
      exec (.trackClear tag (u8 (m.val + 1) ++ u8 a.val)) s = .next (s.reply 0x06 tag .noSuch []) ∧
      (∀ (m' : MoveSlot) (a' : Axis),
        exec (.trackCopy tag (u8 (m.val + 1) ++ u8 a.val ++ u8 (m'.val + 1) ++ u8 a'.val)) s =
            .next (s.reply 0x07 tag .noSuch []) ∧
          exec (.trackCopy tag (u8 (m'.val + 1) ++ u8 a'.val ++ u8 (m.val + 1) ++ u8 a.val)) s =
            .next (s.reply 0x07 tag .noSuch [])) ∧
      exec (.trackShift tag (u8 (m.val + 1) ++ u8 a.val ++ i32 dt ++ i32 dv)) s = .next (s.reply 0x08 tag .noSuch []) ∧
      exec (.keyEdit tag (u8 (m.val + 1) ++ u8 a.val ++ u16 n ++ keyBytes key)) s = .next (s.reply 0x09 tag .noSuch []) ∧
      exec (.keyInsert tag (u8 (m.val + 1) ++ u8 a.val ++ keyBytes key)) s = .next (s.reply 0x0A tag .noSuch []) ∧
      exec (.keyDelete tag (u8 (m.val + 1) ++ u8 a.val ++ u16 n)) s = .next (s.reply 0x0B tag .noSuch [])) ∧
    ∀ (mv : Move) (old : List Key), s.store.moves[m] = some mv → s.frozen m = false → (mv.tracks[a]).getD [] = old →
      ((s.store.free = 0 ∨ 4096 ≤ old.length) → (∀ k ∈ old, k.time ≠ key.time) →
        exec (.keyInsert tag (u8 (m.val + 1) ++ u8 a.val ++ keyBytes key)) s = .next (s.reply 0x0A tag .full [])) ∧
      (s.store.free + old.length < ks.length → ascending ks = true →
        exec (.trackWrite tag (u8 (m.val + 1) ++ u8 a.val ++ u8 0 ++ u16 ks.length ++ ks.flatMap keyBytes)) s =
          .next (s.reply 0x04 tag .full [])) ∧
      ((s.store.free < ks.length ∨ 4096 < old.length + ks.length) → ascending ks = true →
        (∀ last ∈ old.getLast?, ∀ first ∈ ks.head?, last.time < first.time) →
        exec (.trackWrite tag (u8 (m.val + 1) ++ u8 a.val ++ u8 1 ++ u16 ks.length ++ ks.flatMap keyBytes)) s =
          .next (s.reply 0x04 tag .full [])) ∧
      ∀ (m' : MoveSlot) (a' : Axis) (src : Move) (track : Track), s.store.moves[m'] = some src →
        src.tracks[a'] = some track → s.store.free + old.length < track.length →
        exec (.trackCopy tag (u8 (m'.val + 1) ++ u8 a'.val ++ u8 (m.val + 1) ++ u8 a.val)) s =
          .next (s.reply 0x07 tag .full [])

/-- R3, R4, R21: the store law holds after every command if it held before: tracks, staging and the free keys total 16,384, and
tracks and staging lists keep their sizes. -/
def Obligations.EveryCommandKeepsTheStoreLaw : Prop :=
  ∀ (c : Instr) (s t : State), StoreLaw s.store → exec c s = .next t → StoreLaw t.store

/-- R3, R20, R176: the order law holds after every command if it, the clock's law and the run controller's held before: the keys of every
track and of every staging list stand in strictly increasing time, through every store request and every capture commit; and
staging holds keys only in a capture pass. -/
def Obligations.EveryCommandKeepsTheOrderLaw : Prop :=
  ∀ (c : Instr) (s t : State), OrderLaw s → ClockLaw s → CtrlLaw s → exec c s = .next t → OrderLaw t

/-! ### Path evaluation -/

/-- R41: the setpoint is the saturated sum brought inside the soft limits, and CLAMPED is set exactly when the sum lies outside
them: a sum below the soft minimum gives the soft minimum, one above the soft maximum the soft maximum. -/
def Obligations.SetpointsStayInsideTheSoftLimits : Prop :=
  ∀ (r : AxisRec) (m : Option LensMap) (track : Option Track) (t : Nat) (held : Int), r.softMin ≤ r.softMax →
    (evaluateTrack r m track t held).sum = sat32 ((evaluateTrack r m track t held).mapped + r.origin) ∧
    r.softMin ≤ (evaluateTrack r m track t held).setpoint ∧ (evaluateTrack r m track t held).setpoint ≤ r.softMax ∧
    ((evaluateTrack r m track t held).clamped = true ↔
      (evaluateTrack r m track t held).sum < r.softMin ∨ r.softMax < (evaluateTrack r m track t held).sum) ∧
    ((evaluateTrack r m track t held).sum < r.softMin → (evaluateTrack r m track t held).setpoint = r.softMin) ∧
    (r.softMax < (evaluateTrack r m track t held).sum → (evaluateTrack r m track t held).setpoint = r.softMax) ∧
    ((evaluateTrack r m track t held).clamped = false →
      (evaluateTrack r m track t held).setpoint = (evaluateTrack r m track t held).sum)

/-- R19, R34, R35, R36, R37, R38, R39, R40: the path of an ordered track passes through each of its keys at the key's time; before the
first key and after the last it stands at their values; a LINEAR segment stays between the values of its two keys; an axis with no track
keeps the held value. Inside a segment the fraction is floored to 1/65,536, and the position is the first key's value, the linear form or
the cubic Hermite form of the key's type, rounded to nearest and saturated. A tangent is the key's own or, for AUTO, the slope through
both neighbours where the path keeps rising or keeps falling and 0 elsewhere, and at either end the slope of its one segment. Between
two inputs of a lens map the output lies on their line, rounded to nearest; at an input it is the input's output, and outside the
inputs that of the nearest. -/
def Obligations.ThePathPassesThroughItsKeys : Prop :=
  (∀ (ks : Track) (n : Nat) (k : Key), ascending ks = true → ks[n]? = some k → fits32 k.value = true →
    roundPosition (trackPosition ks k.time).exact = k.value) ∧
  (∀ (ks : Track) (first last : Key) (t : Nat), ks.head? = some first → ks.getLast? = some last →
    (t < first.time → trackPosition ks t =
      { found := .beforeFirst, frac := none, tangents := none, exact := whole first.value }) ∧
    (first.time ≤ t → last.time ≤ t → trackPosition ks t =
      { found := .afterLast, frac := none, tangents := none, exact := whole last.value })) ∧
  (∀ (ks : Track) (k t : Nat) (a b : Key), ascending ks = true → ks[k]? = some a → ks[k + 1]? = some b → a.time ≤ t →
    t < b.time →
    ∃ (u : Nat) (z : Int) (x l : ℚ), u = (t - a.time) * 65536 / (b.time - a.time) ∧ x = u / 65536 ∧
      l = (b.time - a.time) / 65536 ∧ (trackPosition ks t).found = .segment k ∧ (trackPosition ks t).frac = some u ∧
      roundPosition (trackPosition ks t).exact = sat32 z ∧
      (a.segment = .step → (trackPosition ks t).tangents = none ∧ z = a.value) ∧
      (a.segment = .linear →
        (trackPosition ks t).tangents = none ∧ IsRounded (a.value + x * (b.value - a.value)) z) ∧
      (a.segment = .smooth →
        ∃ m0 m1 : Int, (trackPosition ks t).tangents = some (m0, m1) ∧ m0 = outTangent ks k ∧ m1 = inTangent ks (k + 1) ∧
          IsRounded
            ((2 * x ^ 3 - 3 * x ^ 2 + 1) * a.value + (x ^ 3 - 2 * x ^ 2 + x) * l * (m0 / 65536) +
              (-2 * x ^ 3 + 3 * x ^ 2) * b.value + (x ^ 3 - x ^ 2) * l * (m1 / 65536)) z)) ∧
  (∀ (ks : Track) (k : Nat) (key : Key), ks[k]? = some key →
    (∀ i o, key.tangents = .set i o → inTangent ks k = i ∧ outTangent ks k = o) ∧
    (key.tangents = .auto → inTangent ks k = autoTangent ks k ∧ outTangent ks k = autoTangent ks k)) ∧
  (∀ (ks : Track) (k : Nat) (a b c : Key), ascending ks = true → ks[k]? = some a → ks[k + 1]? = some b →
    (k = 0 → IsSlope a b (autoTangent ks 0)) ∧
    (ks[k + 2]? = none → IsSlope a b (autoTangent ks (k + 1))) ∧
    (ks[k + 2]? = some c →
      if (a.value < b.value ∧ b.value < c.value) ∨ (b.value < a.value ∧ c.value < b.value) then
        IsSlope a c (autoTangent ks (k + 1))
      else autoTangent ks (k + 1) = 0)) ∧
  (∀ key : Key, autoTangent [key] 0 = 0) ∧
  (∀ (u : Nat) (p0 p1 : Int), u ≤ 65535 → fits32 p0 = true → fits32 p1 = true →
    min p0 p1 ≤ roundPosition (linearPosition u p0 p1) ∧ roundPosition (linearPosition u p0 p1) ≤ max p0 p1) ∧
  (∀ (es : LensMap) (x : Int), risingInputs es = true →
    (∀ e, es.head? = some e → x < e.1 → mapPosition (some es) x = e.2) ∧
    (∀ e, es.getLast? = some e → e.1 < x → mapPosition (some es) x = e.2) ∧
    (∀ y, (x, y) ∈ es → mapPosition (some es) x = y) ∧
    (∀ (j : Nat) (e f : Int × Int), es[j]? = some e → es[j + 1]? = some f → e.1 < x → x < f.1 →
      IsRounded (e.2 + (x - e.1) * (f.2 - e.2) / (f.1 - e.1)) (mapPosition (some es) x)) ∧
    mapPosition none x = x) ∧
  (∀ (r : AxisRec) (m : Option LensMap) (ks : Track) (t : Nat) (held : Int),
    (evaluateTrack r m (some ks) t held).rounded = roundPosition (trackPosition ks t).exact ∧
      (evaluateTrack r m (some ks) t held).mapped = mapPosition m (roundPosition (trackPosition ks t).exact)) ∧
  ∀ (r : AxisRec) (m : Option LensMap) (t : Nat) (setpoint : Int), fits32 setpoint = true → r.softMin ≤ setpoint →
    setpoint ≤ r.softMax → (evaluateTrack r m none t (setpoint - r.origin)).setpoint = setpoint

/-! ### The axis table -/

/-- R26, R27, R29, R107: an accepted AXIS_SET stores the record; an axis newly configured gets its link record, an axis no
longer configured (with no enable timeout of it due, entry 1) loses its acyclic transactions; store, maps, clock, run controller
and wheels are unchanged. It is refused while a run is pending, for un-configuring an axis whose drive is not OFF, for soft limits
that leave the present setpoint out, and for want of slots. AXIS_GET only replies. What the present setpoint is and how AXIS_GET's
reply lays out the map are the model's choices (entries 18, 31). -/
def Obligations.AxisSetAndGet : Prop :=
  ∀ (a : Axis) (r : AxisRec) (tag : Byte) (s : State),
    (axisRecInRange r = true → s.runPending = false → (r.configured = true ∨ s.driveOf a = .off) →
      (s.driveOf a = .off ∨ (r.softMin ≤ s.currentSetpoint a ∧ s.currentSetpoint a ≤ r.softMax)) →
      (r.configured = true → s.configured a = false →
        s.configuredAxes.length + 1 ≤ 1000000 / s.clock.cfg.servoRate / 25) →
      (r.configured = false → s.configured a = true → s.link.due[a] = false) →
      ∃ t, exec (.axisSet tag (u8 a.val ++ axisRecBytes r)) s = .next t ∧
        t.axes = { s.axes with recs := put s.axes.recs a r } ∧
        (r.configured = true → s.configured a = false →
          t.link.recs[a] = LinkRec.reset ∧ (∀ b : Axis, b ≠ a → t.link.recs[b] = s.link.recs[b]) ∧
            { t with axes := s.axes, link := s.link, console := s.console } = s) ∧
        (r.configured = s.configured a → { t with axes := s.axes, console := s.console } = s) ∧
        (r.configured = false → s.configured a = true →
          t.link.queue = s.link.queue.filter (fun x => !(x.axis = a)) ∧
            ∀ c, (t.mon.insts[condOn c a]).active = false ∧ (t.mon.insts[condOn c a]).latched =
              (s.mon.insts[condOn c a]).latched) ∧
        t.store = s.store ∧ t.clock = s.clock ∧ t.ctrl = s.ctrl ∧ t.check = s.check ∧ t.log = s.log ∧
        t.wheels = s.wheels ∧ t.lines = s.lines) ∧
    (axisRecInRange r = true → s.runPending = false → r.configured = false → s.driveOf a ≠ .off →
      exec (.axisSet tag (u8 a.val ++ axisRecBytes r)) s = .next (s.reply 0x10 tag .wrongState [])) ∧
    (axisRecInRange r = true → s.runPending = false → r.configured = true →
      ((s.driveOf a ≠ .off ∧ (s.currentSetpoint a < r.softMin ∨ r.softMax < s.currentSetpoint a)) ∨
        (s.configured a = false ∧ 1000000 / s.clock.cfg.servoRate / 25 < s.configuredAxes.length + 1)) →
      exec (.axisSet tag (u8 a.val ++ axisRecBytes r)) s = .next (s.reply 0x10 tag .badValue [])) ∧
    (axisRecInRange r = true → s.runPending = true →
      exec (.axisSet tag (u8 a.val ++ axisRecBytes r)) s = .next (s.reply 0x10 tag .inUse [])) ∧
    exec (.axisGet tag (u8 a.val)) s =
      .next
        (s.reply 0x11 tag .ok
          (axisRecBytes s.axes.recs[a] ++
            match s.axes.maps[a] with
            | none => [0, 0]
            | some es => 1 :: 1 :: (u16 es.length ++ es.flatMap fun e => i32 e.1 ++ i32 e.2)))

/-- R31, R32, R34, R42, R43: MAP_LOAD stores a map and MAP_CLEAR removes one, while no run is pending; EVAL_PROBE replies with the
stages' values for the held value of the axis's present setpoint. Nothing else changes but the output queue. How the probe's
reply marks absent items, and that the present setpoint is what the drive state gives, are the model's choices (entries 16, 18, 31).
-/
def Obligations.LensMapsAndTheProbe : Prop :=
  (∀ (a : Axis) (es : LensMap) (tag : Byte) (s : State), mapInRange es = true →
    (s.runPending = false →
      exec (.mapLoad tag (u8 a.val ++ u16 es.length ++ es.flatMap mapEntryBytes)) s =
        .next
          (({ s with axes := { s.axes with maps := put s.axes.maps a (some es) } }).reply 0x12 tag .ok
            (u8 es.length)) ∧
      exec (.mapClear tag (u8 a.val)) s =
        .next (({ s with axes := { s.axes with maps := put s.axes.maps a none } }).reply 0x13 tag .ok [])) ∧
    (s.runPending = true →
      exec (.mapLoad tag (u8 a.val ++ u16 es.length ++ es.flatMap mapEntryBytes)) s =
        .next (s.reply 0x12 tag .inUse []) ∧
      exec (.mapClear tag (u8 a.val)) s = .next (s.reply 0x13 tag .inUse []))) ∧
  ∀ (m : MoveSlot) (a : Axis) (time : Nat) (tag : Byte) (s : State), time ≤ maxU32 →
    (s.store.moves[m].isSome = true → (s.configured a = true ∨ (s.trackOf m a).isSome = true) →
      exec (.evalProbe tag (u8 (m.val + 1) ++ u8 a.val ++ u32 time)) s =
        .next
          (s.reply 0x14 tag .ok
            (probeBytes
              (evaluateTrack s.axes.recs[a] s.axes.maps[a] (s.trackOf m a) time
                (s.currentSetpoint a - (s.axes.recs[a]).origin))))) ∧
    (s.store.moves[m] = none ∨ (s.configured a = false ∧ s.trackOf m a = none) →
      exec (.evalProbe tag (u8 (m.val + 1) ++ u8 a.val ++ u32 time)) s = .next (s.reply 0x14 tag .noSuch []))

/-! ### The move clock -/

/-- R45, R46: an accepted CLOCK_SET replaces the seven settings; it is refused while a run is pending, for more axes than the new rate
has slots, and for a trigger as wide as a frame; CLOCK_GET reads them; nothing else changes but the output
queue. -/
def Obligations.ClockSetAndGet : Prop :=
  ∀ (cfg : ClockSettings) (tag : Byte) (s : State), settingsInRange cfg = true →
    (s.runPending = false → s.configuredAxes.length ≤ 1000000 / cfg.servoRate / 25 →
      (cfg.sync = .master → cfg.trigWidth < 1000000000 / (cfg.frameRate * (1000000 / cfg.servoRate))) →
      exec (.clockSet tag (settingsBytes cfg)) s =
        .next (({ s with clock := { s.clock with cfg } }).reply 0x18 tag .ok (settingsBytes cfg))) ∧
    (s.runPending = false →
      (1000000 / cfg.servoRate / 25 < s.configuredAxes.length ∨
        (cfg.sync = .master ∧ 1000000000 / (cfg.frameRate * (1000000 / cfg.servoRate)) ≤ cfg.trigWidth)) →
      exec (.clockSet tag (settingsBytes cfg)) s = .next (s.reply 0x18 tag .badValue [])) ∧
    (s.runPending = true →
      exec (.clockSet tag (settingsBytes cfg)) s = .next (s.reply 0x18 tag .inUse [])) ∧
    exec (.clockGet tag []) s = .next (s.reply 0x19 tag .ok (settingsBytes s.clock.cfg))

/-- R49, R50, R55, R56, R60: over n servo periods at one effective speed with no trim the increments × 10¹⁵ and the remainder left make
n × N and the remainder before: no rounding is lost. In FOLLOWER mode with a lock the increment differs from the untrimmed one by
the budget clamped to an eighth of the nominal increment, and the budget falls by that trim. What one advance does by the
subframes left in the entry: it goes on inside the entry; it carries into the next by the excess, E growing by the whole
increment; or it lands on the end frame, E growing by what was left. The pass frame is the whole frames of E, and a crossing is
handed on exactly when it has risen. -/
def Obligations.AdvanceCarriesOrLands : Prop :=
  (∀ (n : Nat) (c : Clock), c.cfg.sync ≠ .follower →
    ((fun p : Clock × Nat => ((takeIncrement p.1).1, p.2 + (takeIncrement p.1).2))^[n] (c, 0)).2 * 1000000000000000 +
        ((fun p : Clock × Nat => ((takeIncrement p.1).1, p.2 + (takeIncrement p.1).2))^[n] (c, 0)).1.rem =
      n * (c.cfg.frameRate * c.speed * c.period * 65536) + c.rem) ∧
  (∀ (c : Clock) (untrimmed bound : Nat) (trim : Int),
    untrimmed = (c.cfg.frameRate * c.speed * c.period * 65536 + c.rem) / 1000000000000000 →
    bound = c.cfg.frameRate * 1000000 * c.period * 65536 / 1000000000000000 / 8 →
    trim = max (-(bound : Int)) (min bound c.budget) →
    (((takeIncrement c).2 : Int) - untrimmed).natAbs ≤ bound ∧
    (c.cfg.sync = .follower → c.lock.isSome = true → bound ≤ untrimmed →
      ((takeIncrement c).2 : Int) = untrimmed + trim ∧ (takeIncrement c).1.budget = c.budget - trim) ∧
    ((c.cfg.sync ≠ .follower ∨ c.lock = none) →
      (takeIncrement c).2 = untrimmed ∧ (takeIncrement c).1.budget = c.budget)) ∧
  ∀ (c : Clock) (n : Nat) (e : RunEntry) (next : Option RunEntry) (c' : Clock) (h : HandOver) (inc left : Nat),
    advanceClock c n e next = (c', h) →
    inc = (takeIncrement (rampStep c (targetSpeed c.cfg e))).2 → left = toEntryEnd c e → c.passFrame = c.travel / 65536 →
    c.travel ≤ maxU32 →
    c'.passFrame = c'.travel / 65536 ∧
    h.crossing = (if c.travel / 65536 < c'.travel / 65536 then some (c'.travel / 65536) else none) ∧
    (inc < left →
      c'.time = moveTime c.dir c.time inc ∧ c'.dir = c.dir ∧ c'.travel = min maxU32 (c.travel + inc) ∧
        c'.state = c.state ∧ h.entry = n ∧ h.carried = false ∧ h.landed = false) ∧
    (left ≤ inc → ∀ e', next = some e' → e.holdAtEnd = false →
      c'.time = moveTime (entryDirection e') (e'.startFrame * 65536) (inc - left) ∧ c'.dir = entryDirection e' ∧
        c'.travel = min maxU32 (c.travel + inc) ∧ c'.state = c.state ∧ h.entry = n + 1 ∧ h.carried = true ∧
        h.landed = false) ∧
    (left ≤ inc → (next = none ∨ e.holdAtEnd = true) →
      c'.time = e.endFrame * 65536 ∧ c'.travel = min maxU32 (c.travel + left) ∧ c'.state = .atRest ∧ c'.speed = 0 ∧
        c'.rem = 0 ∧ c'.ramp = .none ∧ c'.lock = none ∧ c'.budget = 0 ∧ c'.lostTimer = none ∧ h.entry = n ∧
        h.carried = false ∧ h.landed = true)

/-- R51, R53, R58, R76, R79, R80, R87, R154: a down ramp taken at speed e with a setting of n periods lowers the speed to 0 in n periods
at most, and a fault ramp is never slower than the down ramp it takes over. RAMP_AT_REST ends a down ramp whose speed has come
to 0, as its kind says, the pass of a stop ending STOPPED and that of a fault FAULTED; TRIGGER_END ends the trigger whose periods
have run out. An event that is not due changes nothing (DESIGN CHOICE, entries 1 and 4). -/
def Obligations.DownRampsAndTriggersEnd : Prop :=
  (∀ (n target : Nat) (k : RampKind) (c : Clock), 1 ≤ n →
    ((fun x => rampStep x target)^[n] { c with ramp := .down k (rampDecrement c.speed n) }).speed = 0) ∧
  (∀ (c : Clock) (k : RampKind) (d : Nat), c.ramp = .down k d → 1 ≤ c.cfg.faultRamp →
    ∃ d', (startFaultRamp c).ramp = .down .fault d' ∧ d ≤ d' ∧ c.speed ≤ d' * c.cfg.faultRamp) ∧
  ∀ s : State,
    (∀ d, s.clock.state = .advancing → s.clock.speed = 0 → s.clock.ramp = .down .hold d →
      ∃ t, exec .rampAtRest s = .next t ∧
        t.clock = { s.clock with state := .atRest, speed := 0, ramp := .none } ∧
        t.ctrl = { s.ctrl with state := .held, stopForm := none, landing := false } ∧
        { t with clock := s.clock, ctrl := s.ctrl, console := s.console } = s) ∧
    (∀ d, s.clock.state = .advancing → s.clock.speed = 0 → s.clock.ramp = .down .stop d → s.ctrl.pass.isSome = true →
      ∃ t, exec .rampAtRest s = .next t ∧ t.ctrl.state = .idle ∧ t.ctrl.stopForm = none ∧ t.ctrl.pass = none ∧
        t.ctrl.entry = 0 ∧ t.ctrl.ret = none ∧ t.clock.state = .stopped ∧ t.clock.time = s.clock.time ∧
        t.clock.travel = s.clock.travel ∧ t.clock.ramp = .none ∧ PassCloses s t .stopped ∧ t.axes = s.axes ∧
        t.link = s.link ∧ t.lines = s.lines ∧ t.wheels = s.wheels ∧ t.check = s.check) ∧
    (∀ d, s.clock.state = .advancing → s.clock.speed = 0 → s.clock.ramp = .down .fault d → s.ctrl.pass.isSome = true →
      ∃ t, exec .rampAtRest s = .next t ∧ t.ctrl.state = .faulted ∧ t.ctrl.stopForm = none ∧ t.ctrl.pass = none ∧
        t.ctrl.entry = 0 ∧ t.ctrl.ret = none ∧ t.clock.state = .stopped ∧ t.clock.time = s.clock.time ∧
        t.clock.travel = s.clock.travel ∧ t.clock.ramp = .none ∧ PassCloses s t .faulted ∧ t.axes = s.axes ∧
        t.link = s.link ∧ t.lines = s.lines ∧ t.wheels = s.wheels ∧ t.check = s.check) ∧
    (s.clock.speed ≠ 0 → exec .rampAtRest s = .next s) ∧
    (s.clock.trigger = some 0 → exec .triggerEnd s = .next { s with clock := { s.clock with trigger := none } }) ∧
    (s.clock.trigger ≠ some 0 → exec .triggerEnd s = .next s)

/-- R59, R60, R61, R62, R75, R135, R184, R186: a camera pulse with the detector armed. In WAITING, where a pass
exists, it starts the clock and forms the lock (at the start of a pass, with no reference held); with the lock present and the phase
error within CAMERA_SLIP's threshold it counts, sets the budget to the phase error and restarts the timer; ADVANCING with no lock
and no down ramp it forms the lock anew; a clock STOPPED, AT_REST or in a down ramp ignores it. With the detector not armed only the
pin's level is noted (DESIGN CHOICE, entry 3). A pulse in WAITING evaluates CAMERA_LOST false after a loss, and at the start of a pass fires the cues of
pass frame 0. The expiry of the camera-lost timer, which may be taken at any time left up to a servo period (the
model's choice, entry 2), releases the lock, sets c to 0, restarts the timer from its expiry and evaluates CAMERA_LOST true; a
timer that is not due changes nothing (the model's choice, entries 2 and 4). The mark of a loss that no pulse has followed is the
model's (entry 25). -/
def Obligations.CameraPulsesAndTheirLoss : Prop :=
  (∀ s : State,
    (s.isPulse = true → s.clock.state = .waiting → s.ctrl.pass.isSome = true →
      (s.clock.travel ≠ 0 ∨ s.log.heldSlot = none) →
      ∃ t, exec .cameraPulse s = .next t ∧ t.lines.edgeArmed = false ∧ t.clock.state = .advancing ∧
        t.clock.speed = 1000000 ∧ t.clock.ramp = .none ∧ t.clock.time = s.clock.time ∧
        t.clock.lock = some { pulses := 0, base := s.clock.travel } ∧
        t.clock.lostTimer = some (1500000000 / s.clock.cfg.frameRate) ∧ t.ctrl = s.ctrl ∧ t.axes = s.axes ∧
        t.link = s.link ∧ t.wheels = s.wheels ∧ t.check = s.check ∧
        (∀ kind, s.ctrl.pass = some kind → ∀ l : Line, t.lines.lines[l] =
          if s.clock.travel = 0 then lineAfterCues s.lines.cues 0 kind l s.lines.lines[l] else s.lines.lines[l]) ∧
        (s.clock.lost = false → t.mon = s.mon) ∧
        (s.clock.lost = true → (s.mon.settings[cameraLostCond]).mode ≠ .off →
          t.clock.lost = false ∧ (t.mon.insts[cameraLostCond]).last = false ∧
            (t.mon.insts[cameraLostCond]).trueRun = 0 ∧
            (t.mon.insts[cameraLostCond]).falseRun = min 16 ((s.mon.insts[cameraLostCond]).falseRun + 1))) ∧
    (∀ l : Lock, s.isPulse = true → s.clock.state = .advancing → s.clock.lock = some l →
      (((l.pulses + 1 : Nat) : Int) * 65536 - (s.clock.travel - l.base)).natAbs ≤ (s.mon.settings[cameraSlipCond]).threshold →
      ∃ t, exec .cameraPulse s = .next t ∧ t.lines.edgeArmed = false ∧
        t.clock =
          { s.clock with
            lock := some { l with pulses := l.pulses + 1 }
            budget := ((l.pulses + 1 : Nat) : Int) * 65536 - (s.clock.travel - l.base)
            lostTimer := some (1500000000 / s.clock.cfg.frameRate), lost := false } ∧
        { t with clock := s.clock, mon := s.mon, gen := s.gen, lines := s.lines, console := s.console } = s) ∧
    (s.isPulse = true → s.clock.state = .advancing → s.clock.lock = none → (∀ k d, s.clock.ramp ≠ .down k d) →
      ∃ t, exec .cameraPulse s = .next t ∧ t.lines.edgeArmed = false ∧
        t.clock =
          { s.clock with
            lock := some { pulses := 0, base := s.clock.travel }
            lostTimer := some (1500000000 / s.clock.cfg.frameRate), lost := false } ∧
        { t with clock := s.clock, mon := s.mon, gen := s.gen, lines := s.lines, console := s.console } = s) ∧
    (s.isPulse = true →
      (s.clock.state = .stopped ∨ s.clock.state = .atRest ∨
        (s.clock.state = .advancing ∧ s.clock.lock = none ∧ ∃ k d, s.clock.ramp = .down k d)) →
      exec .cameraPulse s =
        .next { s with lines := { s.lines with pins := s.lines.pins ||| 1#12, edgeArmed := false } }) ∧
    (s.isPulse = false → exec .cameraPulse s = .next { s with lines := { s.lines with pins := s.lines.pins ||| 1#12 } }) ∧
    ((∀ n ∈ s.clock.lostTimer, s.clock.period < n) → exec .cameraLostExpiry s = .next s)) ∧
  ∀ (s : State) (n : Nat), s.clock.lostTimer = some n → n ≤ s.clock.period →
    (((s.mon.settings[cameraLostCond]).mode = .reportOnly ∨ (s.mon.settings[cameraLostCond]).mode = .off ∨
        (s.mon.insts[cameraLostCond]).active = true ∨
        (s.mon.insts[cameraLostCond]).trueRun + 1 < (s.mon.settings[cameraLostCond]).deglitch) →
      ∃ t, exec .cameraLostExpiry s = .next t ∧
        t.clock =
          { s.clock with
            lock := none, budget := 0, lostTimer := some (n + 1500000000 / s.clock.cfg.frameRate), lost := true } ∧
        { t with clock := s.clock, mon := s.mon, gen := s.gen, console := s.console } = s ∧
        ((s.mon.settings[cameraLostCond]).mode ≠ .off →
          (t.mon.insts[cameraLostCond]).last = true ∧ (t.mon.insts[cameraLostCond]).falseRun = 0 ∧
            (t.mon.insts[cameraLostCond]).trueRun = min 16 ((s.mon.insts[cameraLostCond]).trueRun + 1)) ∧
        ((s.mon.settings[cameraLostCond]).mode = .reportOnly → (s.mon.settings[cameraLostCond]).deglitch ≤ 1 →
          (t.mon.insts[cameraLostCond]).active = true)) ∧
    ((s.mon.settings[cameraLostCond]).mode = .latched → (s.mon.settings[cameraLostCond]).deglitch ≤ 1 →
      (s.mon.insts[cameraLostCond]).active = false →
      ∃ t, exec .cameraLostExpiry s = .next t ∧
        (t.mon.insts[cameraLostCond]).latched = some (s.mon.settings[cameraLostCond]).action)

/-! ### The run controller -/

/-- R64, R65: an accepted TAKE_LOAD replaces the run list; TAKE_GET reads it; nothing else changes but the output queue. A TAKE_LOAD that
names an empty slot is refused with the number of its first such entry. That TAKE_GET's entry count is the count of the list is the
model's choice (entry 18). -/
def Obligations.TakeLoadAndGet : Prop :=
  ∀ (es : List RunEntry) (tag : Byte) (s : State),
    (1 ≤ es.length → es.length ≤ 20 → es.all entryInRange = true →
      ((s.ctrl.state = .idle ∨ s.ctrl.state = .faulted) → (∀ e ∈ es, s.store.moves[e.slot].isSome = true) →
        exec (.takeLoad tag (u16 es.length ++ es.flatMap entryBytes)) s =
          .next (({ s with ctrl := { s.ctrl with runList := es } }).reply 0x20 tag .ok (u8 es.length))) ∧
      (s.ctrl.state ≠ .idle → s.ctrl.state ≠ .faulted →
        exec (.takeLoad tag (u16 es.length ++ es.flatMap entryBytes)) s = .next (s.reply 0x20 tag .wrongState [])) ∧
      (∀ before e after, es = before ++ e :: after → (s.ctrl.state = .idle ∨ s.ctrl.state = .faulted) →
        (∀ b ∈ before, s.store.moves[b.slot].isSome = true) → s.store.moves[e.slot] = none →
        exec (.takeLoad tag (u16 es.length ++ es.flatMap entryBytes)) s =
          .next (s.reply 0x20 tag .noSuch (u8 (before.length + 1))))) ∧
    exec (.takeGet tag []) s =
      .next (s.reply 0x21 tag .ok (u16 s.ctrl.runList.length ++ s.ctrl.runList.flatMap entryBytes))

/-- R69, R70, R71, R91, R92, R103: an accepted CHECK or ARM enters CHECKING with its purpose, the setpoints as they stand, no check
frame walked and the time its walk takes; ARM keeps those setpoints as the arm setpoints. Both are refused with WRONG_STATE outside IDLE. -/
def Obligations.CheckAndArmStartTheCheck : Prop :=
  ∀ (tag : Byte) (s : State),
    (s.ctrl.state = .idle → s.ctrl.runList ≠ [] → (∀ e ∈ s.ctrl.runList, s.store.moves[e.slot].isSome = true) →
      (∃ t, exec (.check tag []) s = .next t ∧
        t.ctrl = { s.ctrl with purpose := some .check, state := .checking, stopForm := none } ∧
        t.check =
          { s.check with
            progress :=
              some
                { purpose := .check, start := tabulate s.currentSetpoint, total := totalFrames s.ctrl.runList
                  taken := 0, first := none, peaks := fill 16 { velocity := 0, accel := 0 }
                  timeLeft :=
                    1000 *
                      max 1
                        (((totalFrames s.ctrl.runList + s.ctrl.runList.length) * s.configuredAxes.length + 3999) / 4000) } } ∧
        { t with ctrl := s.ctrl, check := s.check, console := s.console } = s) ∧
      ∀ kind : PassKind, s.configuredAxes ≠ [] → (∀ a : Axis, s.configured a = true → s.driveOf a = .on) →
        (∀ i : CondId, (s.mon.insts[i]).latched = none ∧
          ((s.mon.insts[i]).active = true → hasAction s.mon .pathStop i = false ∧ hasAction s.mon .driveOff i = false)) →
        (∀ a : Axis, s.mon.detached[a] = []) →
        (kind = .play ∨
          ∃ e, s.ctrl.runList = [e] ∧ e.startFrame < e.endFrame ∧ s.wheels.bindings ≠ [] ∧
            ∀ b ∈ s.wheels.bindings, s.configured b.axis = true ∧ s.axes.maps[b.axis] = none) →
        ∃ t, exec (.arm tag (u8 (passKindNumber kind))) s = .next t ∧
          t.ctrl =
            { s.ctrl with
              armSetpoints := some (tabulate s.currentSetpoint), purpose := some (.arm kind), state := .checking
              stopForm := none } ∧
          t.check =
            { s.check with
              progress :=
                some
                  { purpose := .arm kind, start := tabulate s.currentSetpoint, total := totalFrames s.ctrl.runList
                    taken := 0, first := none, peaks := fill 16 { velocity := 0, accel := 0 }
                    timeLeft :=
                      1000 *
                        max 1
                          (((totalFrames s.ctrl.runList + s.ctrl.runList.length) * s.configuredAxes.length + 3999) /
                            4000) } } ∧
          { t with ctrl := s.ctrl, check := s.check, console := s.console } = s) ∧
    (s.ctrl.state ≠ .idle →
      exec (.check tag []) s = .next (s.reply 0x22 tag .wrongState []) ∧
      ∀ kind : PassKind, exec (.arm tag (u8 (passKindNumber kind))) s = .next (s.reply 0x23 tag .wrongState []))

/-- R48, R52, R56, R74, R75, R77, R148, R186, R194: GO in ARMED begins a pass of the armed kind at the first entry (here with no
REPEAT action in force where it is compared, so that the order of the pass start, which is the model's choice, entry 45, is not in
question), and, but in FOLLOWER mode, fires the cues of pass frame 0; in HOLDING and HELD it takes the pass up again, on the entry it is
in or, after a landing, on the next; in another state, or while a return record exists, it is refused. At each GO the skipped count
becomes 0 (and stays so while the output queue has room). -/
def Obligations.GoBeginsAndResumesThePass : Prop :=
  (∀ (tag : Byte) (s : State) (e : RunEntry) (es : List RunEntry) (kind : PassKind),
    s.ctrl.state = .armed → s.ctrl.runList = e :: es → s.ctrl.purpose = some (.arm kind) →
    (kind = .play → s.clock.cfg.sync ≠ .follower → s.log.reference ≠ none →
      ∀ a : Axis, inForce s.mon.settings[condOn .repeatDev a] = none) →
    ∃ t, exec (.go tag []) s = .next t ∧ t.ctrl.state = .running ∧ t.ctrl.pass = some kind ∧ t.ctrl.entry = 1 ∧
      t.ctrl.landing = false ∧ t.ctrl.runList = s.ctrl.runList ∧
      t.clock.time = e.startFrame * 65536 ∧
      t.clock.dir = (if e.startFrame < e.endFrame then .forward else .reverse) ∧ t.clock.travel = 0 ∧
      t.clock.passFrame = 0 ∧ t.clock.rem = 0 ∧ t.clock.budget = 0 ∧ t.clock.ramp = .none ∧ t.clock.lock = none ∧
      t.clock.cfg = s.clock.cfg ∧
      (s.clock.cfg.sync ≠ .follower → t.clock.state = .advancing ∧ t.clock.speed = e.speed * 1000) ∧
      (s.clock.cfg.sync = .master → t.clock.trigger = some s.clock.cfg.trigWidth) ∧
      (s.clock.cfg.sync = .follower →
        t.clock.state = .waiting ∧ t.clock.speed = 0 ∧ t.clock.lostTimer = some (1500000000 / s.clock.cfg.frameRate)) ∧
      t.log.counter = (if s.log.counter = 65535 then 1 else s.log.counter + 1) ∧ t.log.recording.isSome = true ∧
      t.axes = s.axes ∧ t.link = s.link ∧ t.check = s.check ∧ t.wheels = s.wheels ∧
      (kind = .capture ∨ s.clock.cfg.sync = .follower ∨ s.log.reference = none → t.mon = s.mon) ∧
      t.mon.settings = s.mon.settings ∧ t.mon.detached = s.mon.detached ∧
      (s.console.held = [] → s.console.outQ.length ≤ 40 → t.console.skipped = 0) ∧
      { t.lines with lines := s.lines.lines } = s.lines ∧
      (∀ l : Line, t.lines.lines[l] =
        if s.clock.cfg.sync = .follower then s.lines.lines[l]
        else lineAfterCues s.lines.cues 0 kind l s.lines.lines[l]) ∧
      (kind = .play → t.store = s.store ∧ t.gen = s.gen)) ∧
  ∀ (tag : Byte) (s : State),
    (∀ e, s.currentEntry? = some e →
      (s.ctrl.state = .holding ∨ (s.ctrl.state = .held ∧ s.ctrl.ret = none ∧ s.ctrl.landing = false)) →
      ∃ t, exec (.go tag []) s = .next t ∧ t.ctrl = { s.ctrl with state := .running, stopForm := none } ∧
        t.clock =
          { s.clock with
            state := .advancing
            ramp := .up (targetSpeed s.clock.cfg e) (ceilDiv (targetSpeed s.clock.cfg e) s.clock.cfg.resumeRamp) } ∧
        (s.console.held = [] → s.console.outQ.length ≤ 40 → t.console.skipped = 0) ∧
        { t with ctrl := s.ctrl, clock := s.clock, console := s.console } = s) ∧
    (∀ e, s.runEntry? (s.ctrl.entry + 1) = some e → s.ctrl.state = .held → s.ctrl.ret = none → s.ctrl.landing = true →
      ∃ t, exec (.go tag []) s = .next t ∧
        t.ctrl = { s.ctrl with state := .running, stopForm := none, entry := s.ctrl.entry + 1, landing := false } ∧
        t.clock.time = e.startFrame * 65536 ∧ t.clock.dir = entryDirection e ∧ t.clock.rem = 0 ∧ t.clock.speed = 0 ∧
        t.clock.travel = s.clock.travel ∧ t.clock.passFrame = s.clock.passFrame ∧
        (s.clock.cfg.sync ≠ .follower →
          t.clock.state = .advancing ∧
            t.clock.ramp = .up (e.speed * 1000) (ceilDiv (e.speed * 1000) s.clock.cfg.resumeRamp)) ∧
        (s.clock.cfg.sync = .follower → t.clock.state = .waiting ∧ t.clock.ramp = .none) ∧
        (s.console.held = [] → s.console.outQ.length ≤ 40 → t.console.skipped = 0) ∧
        { t with ctrl := s.ctrl, clock := s.clock, console := s.console } = s) ∧
    ((s.ctrl.state ≠ .armed ∧ s.ctrl.state ≠ .holding ∧ s.ctrl.state ≠ .held) ∨
        (s.ctrl.state = .held ∧ s.ctrl.ret.isSome = true) →
      exec (.go tag []) s = .next (s.reply 0x24 tag .wrongState []))

/-- R51, R76: HOLD in RUNNING starts a hold ramp in FREE and MASTER mode, and in FOLLOWER mode is taken as a stop with the reply
AS_STOP; in HOLDING it is accepted and changes nothing; elsewhere it is refused. -/
def Obligations.HoldSlowsThePass : Prop :=
  ∀ (tag : Byte) (s : State),
    (s.ctrl.state = .running → s.clock.cfg.sync ≠ .follower → s.clock.speed ≠ 0 →
      ∃ t, exec (.hold tag []) s = .next t ∧ t.ctrl = { s.ctrl with state := .holding, stopForm := none } ∧
        t.clock =
          { s.clock with
            ramp := .down .hold (ceilDiv s.clock.speed s.clock.cfg.holdRamp), lock := none, lostTimer := none
            budget := 0 } ∧
        { t with ctrl := s.ctrl, clock := s.clock, console := s.console } = s) ∧
    (s.ctrl.state = .running → s.clock.cfg.sync = .follower → s.clock.state = .advancing → s.clock.speed ≠ 0 →
      (∀ d, s.clock.ramp ≠ .down .hold d) →
      ∃ t, exec (.hold tag []) s = .next t ∧ t.ctrl = { s.ctrl with state := .stopping, stopForm := some .path } ∧
        t.clock.ramp = .down .stop (ceilDiv s.clock.speed s.clock.cfg.holdRamp) ∧ t.clock.lock = none ∧
        { t with ctrl := s.ctrl, clock := s.clock, console := s.console } = s ∧
        (s.console.held = [] → s.console.outQ.length ≤ 62 → s.console.outQ.all (!isStateReport ·) = true →
          t.console.outQ =
            s.console.outQ ++
              [.reply 0xA5 tag [0x02], .state .stopping s.ctrl.pass s.ctrl.entry 1])) ∧
    (s.ctrl.state = .holding → exec (.hold tag []) s = .next (s.reply 0x25 tag .ok [])) ∧
    (s.ctrl.state ≠ .running → s.ctrl.state ≠ .holding →
      exec (.hold tag []) s = .next (s.reply 0x25 tag .wrongState []))

/-- R51, R53, R79, R80, R91, R104, R154: STOP, state by state; a pass that it ends closes STOPPED. That the in-position count is 0 after
a stop, and that the arm setpoints and preroll targets go with a check but stay in PREROLL, are the model's choices (entries 35
and 38), how far a cancelled walk had got is a free value (entry 9), and what its record counts as walked is the model's choice
(entry 39). -/
def Obligations.StopInEveryState : Prop :=
  ∀ (tag : Byte) (s : State),
    ((s.ctrl.state = .idle ∨ s.ctrl.state = .stopping ∨ s.ctrl.state = .faultStopping ∨ s.ctrl.state = .faulted) →
      exec (.stop tag []) s = .next (s.reply 0x26 tag .ok [])) ∧
    (∀ p, s.ctrl.state = .checking → s.check.progress = some p →
      ∃ t r, exec (.stop tag []) s = .next t ∧ t.ctrl.state = .idle ∧ t.ctrl.armSetpoints = none ∧
        t.check = { progress := none, record := some r } ∧ r.purpose = p.purpose ∧ r.outcome = .cancelled ∧
        r.total = p.total ∧ r.walked ≤ p.total ∧
        (∃ n, n ≤ p.total + 1 ∧ (p.taken ≤ p.total + 1 → p.taken ≤ n) ∧ r.walked = n - 1 ∧
          r.violation = (s.walkTo p n).first) ∧ r.peaks = none ∧ r.headroom = none ∧ r.notes = none ∧ r.signature = none ∧
        { t with ctrl := s.ctrl, check := s.check, console := s.console, openReads := s.openReads } = s) ∧
    (s.ctrl.state = .preroll →
      ∃ t, exec (.stop tag []) s = .next t ∧
        t.ctrl = { s.ctrl with state := .stopping, stopForm := some .generator, inPos := 0 } ∧
        { t with ctrl := s.ctrl, gen := s.gen, console := s.console } = s ∧
        ∀ a : Axis, s.configured a = true → s.mon.detached[a] = [] → s.driveOf a ≠ .off →
          (s.gen.recs[a]).mode ≠ .capture → (t.gen.recs[a]).mode = .resting) ∧
    (s.ctrl.state = .armed →
      ∃ t, exec (.stop tag []) s = .next t ∧
        t.ctrl =
          { s.ctrl with state := .idle, stopForm := none, armSetpoints := none, prerollTargets := none, inPos := 0 } ∧
        { t with ctrl := s.ctrl, console := s.console } = s) ∧
    (((s.ctrl.state = .running ∧ s.clock.state = .advancing) ∨ s.ctrl.state = .holding) → s.clock.speed ≠ 0 →
      ∃ t d, exec (.stop tag []) s = .next t ∧ t.ctrl = { s.ctrl with state := .stopping, stopForm := some .path } ∧
        t.clock =
          { s.clock with ramp := .down .stop d, lock := none, lostTimer := none, budget := 0 } ∧
        (∀ d0, s.clock.ramp = .down .hold d0 → d = d0) ∧
        ((∀ d0, s.clock.ramp ≠ .down .hold d0) → d = ceilDiv s.clock.speed s.clock.cfg.holdRamp) ∧
        { t with ctrl := s.ctrl, clock := s.clock, console := s.console } = s) ∧
    (∀ kind, ((s.ctrl.state = .running ∧ s.clock.state = .waiting) ∨ s.ctrl.state = .held) → s.ctrl.pass = some kind →
      ∃ t, exec (.stop tag []) s = .next t ∧ t.ctrl.state = .idle ∧ t.ctrl.pass = none ∧ t.ctrl.entry = 0 ∧
        t.ctrl.ret = none ∧ t.clock.state = .stopped ∧ t.clock.time = s.clock.time ∧ t.clock.travel = s.clock.travel ∧
        PassCloses s t .stopped ∧
        t.axes = s.axes ∧ t.link = s.link ∧ t.lines = s.lines ∧ t.wheels = s.wheels ∧ t.check = s.check) ∧
    ((s.ctrl.state = .jogging ∨ s.ctrl.state = .returning) →
      ∃ t, exec (.stop tag []) s = .next t ∧ t.ctrl.state = .stopping ∧ t.ctrl.stopForm = some .generator ∧
        (s.ctrl.pass.isSome = true →
          t.ctrl.pass = none ∧ t.ctrl.ret = none ∧ t.ctrl.entry = 0 ∧ PassCloses s t .stopped) ∧
        t.axes = s.axes ∧ t.link = s.link ∧ t.lines = s.lines ∧ t.wheels = s.wheels ∧ t.check = s.check)

/-- R72, R82, R84, R164: RETURN targets every axis at its recorded setpoint; the arrivals that are due end PREROLL in ARMED
and RETURNING in HELD at the recorded place. An arrival that is not due changes nothing (DESIGN CHOICE, entries 1 and 4). That
the in-position count starts again at 0 is the model's choice (entry 35). -/
def Obligations.ReturnAndArrivals : Prop :=
  ∀ (tag : Byte) (s : State),
    (∀ r, s.ctrl.ret = some r → (s.ctrl.state = .jogging ∨ s.ctrl.state = .held) →
      ∃ t, exec (.returnToPath tag []) s = .next t ∧
        t.ctrl = { s.ctrl with state := .returning, stopForm := none, inPos := 0 } ∧ t.clock.state = .stopped ∧
        { t with ctrl := s.ctrl, clock := s.clock, gen := s.gen, console := s.console } = s ∧
        (∀ a : Axis, s.configured a = true → s.mon.detached[a] = [] →
          (t.gen.recs[a]).mode = .target ∧ (t.gen.recs[a]).target = some r.setpoints[a])) ∧
    ((s.ctrl.ret = none ∨ (s.ctrl.state ≠ .jogging ∧ s.ctrl.state ≠ .held)) →
      exec (.returnToPath tag []) s = .next (s.reply 0x27 tag .wrongState [])) ∧
    (s.ctrl.state = .preroll → s.ctrl.inPos = 10 →
      ∃ t, exec .prerollArrival s = .next t ∧ t.ctrl = { s.ctrl with state := .armed, stopForm := none, inPos := 0 } ∧
        (∀ a : Axis, s.mon.detached[a] = [] → (s.gen.recs[a]).mode ≠ .capture →
          (t.gen.recs[a]).mode = .idle ∧ (t.gen.recs[a]).x = (s.gen.recs[a]).x) ∧
        { t with ctrl := s.ctrl, gen := s.gen, console := s.console } = s) ∧
    (∀ r, s.ctrl.state = .returning → s.ctrl.inPos = 10 → s.ctrl.ret = some r →
      ∃ t, exec .returnArrival s = .next t ∧
        t.ctrl =
          { s.ctrl with
            state := .held, stopForm := none, inPos := 0, ret := none, entry := r.entry, landing := r.landing } ∧
        t.clock =
          { s.clock with
            state := .atRest, time := r.time, dir := r.dir, travel := r.travel, passFrame := r.passFrame, rem := r.rem
            speed := r.speed, ramp := .none } ∧
        { t with ctrl := s.ctrl, clock := s.clock, gen := s.gen, console := s.console } = s) ∧
    (s.ctrl.inPos ≠ 10 → exec .prerollArrival s = .next s ∧ exec .returnArrival s = .next s)

/-- R69, R71, R72, R99, R103, R105: CHECK_COMPLETION, when it is due, makes the completed record, PASS exactly when the walk
found no violation, and acts on its purpose; an ARM check that passes is tested once more for drives not ON and detached axes; when it is not due nothing changes (DESIGN CHOICE, entries 2 and 4). That the
in-position count starts at 0 is the model's choice (entry 35). -/
def Obligations.CheckCompletionActsOnItsPurpose : Prop :=
  ∀ (s : State) (p : CheckProgress), s.ctrl.state = .checking → s.check.progress = some p →
    (p.timeLeft ≤ s.clock.period →
      ∃ t r, exec .checkCompletion s = .next t ∧ t.check = { progress := none, record := some r } ∧
        r = s.completedCheck p ∧ r.purpose = p.purpose ∧ r.total = p.total ∧ r.walked = p.total ∧
        (r.outcome = .pass ↔ r.violation = none) ∧ (r.outcome = .pass ↔ r.signature.isSome = true) ∧
        (p.purpose = .check → t.ctrl = { s.ctrl with state := .idle, stopForm := none }) ∧
        .check (checkBytes r) ∈ t.console.outQ ++ t.console.held ∧
        (∀ kind, p.purpose = .arm kind → r.outcome ≠ .pass → t.ctrl.state = .idle ∧ t.ctrl.armSetpoints = none) ∧
        (∀ kind, p.purpose = .arm kind → r.outcome = .pass →
          ((∃ a : Axis, s.configured a = true ∧ s.driveOf a ≠ .on) ∨ ∃ a : Axis, s.mon.detached[a] ≠ []) →
          t.ctrl.state = .idle ∧ t.ctrl.armSetpoints = none ∧ t.gen = s.gen) ∧
        (∀ kind arm e, p.purpose = .arm kind → r.outcome = .pass → s.ctrl.armSetpoints = some arm →
          s.runEntry? 1 = some e → (∀ a : Axis, s.configured a = true → s.driveOf a = .on) →
          (∀ a : Axis, s.mon.detached[a] = []) →
          t.ctrl.state = .preroll ∧ t.ctrl.inPos = 0 ∧
            ∀ a : Axis, s.configured a = true →
              (t.gen.recs[a]).mode = .target ∧
                (t.gen.recs[a]).target =
                  some
                    (evaluateTrack s.axes.recs[a] s.axes.maps[a] (s.trackOf e.slot a) (e.startFrame * 65536)
                      (arm[a] - (s.axes.recs[a]).origin)).setpoint) ∧
        { t with ctrl := s.ctrl, check := s.check, gen := s.gen, console := s.console } = s ∧
        (p.purpose = .check → t.gen = s.gen)) ∧
    (s.clock.period < p.timeLeft → exec .checkCompletion s = .next s)

/-- R95, R99, R103: when the check passes, the path of every configured axis that has a track in an entry's move and is not bound
to a capture lies inside the soft limits at every check frame of that entry: no sample is clamped. -/
def Obligations.APassedTakeNeverClamps : Prop :=
  ∀ (s : State) (p : CheckProgress) (e : RunEntry) (a : Axis) (ks : Track) (n : Nat),
    p.total = totalFrames s.ctrl.runList → (s.completedCheck p).outcome = .pass → e ∈ s.ctrl.runList →
    s.configured a = true → s.trackOf e.slot a = some ks →
    (isCapturePurpose p.purpose && isBound s.wheels.bindings a) = false → n ≤ entryLength e →
    (evaluateTrack s.axes.recs[a] s.axes.maps[a] (some ks) (checkTime e n) 0).clamped = false

/-! ### The axis link -/

/-- R73, R85, R116, R118, R154: DRIVES_ON makes each named axis that is configured, OFF, fresh and inside its soft limits ENABLING, with its
measured position as enabling setpoint, and leaves every other link record; DRIVES_OFF turns the named axes OFF, leaves the
others and lists each named axis OFF, and, where it turns a drive from ON, takes ARMED to IDLE and ends a held pass. That ARMED then
has an in-position count of 0 is the model's choice (entry 35). Both are refused in the states and for the faults the rules name. -/
def Obligations.DrivesOnAndOff : Prop :=
  ∀ (mask : Nat) (tag : Byte) (s : State), 1 ≤ mask → mask < 65536 →
    (s.runPending = false → (∀ i : CondId, (s.mon.insts[i]).latched ≠ some .driveOff) → s.estopActive = false →
      ∃ t, exec (.drivesOn tag (u16 mask)) s = .next t ∧ { t with link := s.link, console := s.console } = s ∧
        { t.link with recs := s.link.recs } = s.link ∧
        ∀ a : Axis, t.link.recs[a] =
          if mask.testBit a.val ∧ s.configured a = true ∧ s.driveOf a = .off ∧ (s.link.recs[a]).stale = false ∧
              (s.axes.recs[a]).softMin ≤ (s.link.recs[a]).measured ∧ (s.link.recs[a]).measured ≤ (s.axes.recs[a]).softMax then
            { s.link.recs[a] with drive := .enabling, enabling := some (s.link.recs[a]).measured, enableCount := 0 }
          else s.link.recs[a]) ∧
    (s.runPending = true → exec (.drivesOn tag (u16 mask)) s = .next (s.reply 0x30 tag .wrongState [])) ∧
    (s.runPending = false → ((∃ i : CondId, (s.mon.insts[i]).latched = some .driveOff) ∨ s.estopActive = true) →
      exec (.drivesOn tag (u16 mask)) s = .next (s.reply 0x30 tag .faultActive [])) ∧
    (s.ctrl.state ≠ .running → s.ctrl.state ≠ .holding → s.ctrl.state ≠ .preroll → s.ctrl.state ≠ .returning →
      s.ctrl.state ≠ .stopping →
      ∃ t, exec (.drivesOff tag (u16 mask)) s = .next t ∧ t.axes = s.axes ∧ t.wheels = s.wheels ∧
        t.lines = s.lines ∧ t.check = s.check ∧ { t.link with recs := s.link.recs } = s.link ∧
        .reply 0xB1 tag
            (0 :: u16 mask ++ (allAxes.filter fun a => mask.testBit a.val).map fun _ => (0 : Byte)) ∈
          t.console.outQ ++ t.console.held ∧
        (((∀ a : Axis, mask.testBit a.val = true → s.driveOf a ≠ .on) ∨
            (s.ctrl.state ≠ .armed ∧ s.ctrl.state ≠ .held ∧ (s.ctrl.state = .jogging → s.ctrl.ret = none))) →
          t.ctrl = s.ctrl ∧ t.clock = s.clock ∧ t.store = s.store ∧ t.log = s.log) ∧
        (∀ a : Axis, mask.testBit a.val = true → s.driveOf a = .on →
          (s.ctrl.state = .armed →
            t.ctrl =
              { s.ctrl with state := .idle, stopForm := none, armSetpoints := none, prerollTargets := none, inPos := 0 } ∧
            t.clock = s.clock ∧ t.store = s.store ∧ t.log = s.log) ∧
          (∀ kind, s.ctrl.pass = some kind → (s.ctrl.state = .held ∨ (s.ctrl.state = .jogging ∧ s.ctrl.ret.isSome = true)) →
            t.ctrl =
              { s.ctrl with
                state := if s.ctrl.state = .held then .idle else .jogging
                stopForm := if s.ctrl.state = .held then none else s.ctrl.stopForm
                entry := 0, pass := none, landing := false, armSetpoints := none, prerollTargets := none, ret := none } ∧
            t.clock.state = .stopped ∧ t.clock.time = s.clock.time ∧ PassCloses s t .stopped)) ∧
        ∀ a : Axis,
          (mask.testBit a.val = true → t.driveOf a = .off ∧ (t.link.recs[a]).measured = (s.link.recs[a]).measured) ∧
          (mask.testBit a.val = false → t.link.recs[a] = s.link.recs[a])) ∧
    ((s.ctrl.state = .running ∨ s.ctrl.state = .holding ∨ s.ctrl.state = .preroll ∨ s.ctrl.state = .returning ∨
        s.ctrl.state = .stopping) →
      exec (.drivesOff tag (u16 mask)) s = .next (s.reply 0x31 tag .wrongState []))

/-- R120, R123: an accepted DRIVE_PASS joins the end of the queue with no reply; with four waiting it is refused with FULL, for an
unconfigured axis with NO_SUCH. LINK_GET only replies, with the values that stood at the last close of the feedback batch (which
SLOT_END takes) and the drive states as they stand. That the values of the last close stand after AXIS_SET and DRIVE_PASS too, and
how the reply marks an absent enable count, are the model's choices (entries 16, 22). -/
def Obligations.DrivePassAndLinkGet : Prop :=
  ∀ (a : Axis) (index : Byte) (op : AcyclicOp) (value : BitVec 32) (tag : Byte) (s : State),
    (s.configured a = true → s.link.queue.length < 4 →
      exec (.drivePass tag (u8 a.val ++ [index] ++ u8 (match op with | .read => 0 | .write => 1) ++ u32 value.toNat)) s =
        .next
          { s with
            link :=
              { s.link with
                queue :=
                  s.link.queue ++ [{ axis := a, index, op, value, tag, age := 0, fails := 0, flying := false }] } }) ∧
    (s.configured a = true → 4 ≤ s.link.queue.length →
      exec (.drivePass tag (u8 a.val ++ [index] ++ u8 (match op with | .read => 0 | .write => 1) ++ u32 value.toNat)) s =
        .next (s.reply 0x32 tag .full [])) ∧
    (s.configured a = false →
      exec (.drivePass tag (u8 a.val ++ [index] ++ u8 (match op with | .read => 0 | .write => 1) ++ u32 value.toNat)) s =
        .next (s.reply 0x32 tag .noSuch [])) ∧
    exec (.linkGet tag []) s =
      .next
        (s.reply 0x33 tag .ok
          (u8 s.link.snapQueue ++
            allAxes.flatMap fun b =>
              flag (s.link.snap[b]).configured ++ u8 (driveNumber (s.driveOf b)) ++
                optional u8 (if s.driveOf b = .enabling then some (s.link.recs[b]).enableCount else none) ++
                flag (s.link.snap[b]).stale ++ u8 (s.link.snap[b]).misses ++ i32 (s.link.snap[b]).measured ++
                driveFlagBytes (s.link.snap[b]).flags))

/-- R109, R110, R113, R117, R121, R198: a good setpoint reply in its axis's slot updates the axis's feedback, and the first
with READY set turns an ENABLING axis ON at its enabling setpoint; a good acyclic reply answers its DRIVE_PASS; bytes that are
no frame of the addressed axis and the kind asked for, with its check sequence, are no reply in either slot. That the reserved bits of the status byte are passed over is the model's choice (entry 34). -/
def Obligations.DriveRepliesAreTaken : Prop :=
  ∀ (s : State) (p : LinkPeriod), s.link.period = some p →
    (∀ (a : Axis) (retry : Bool) (z : Int) (st : Byte), p.current = .setpoint a retry → s.configured a = true →
      fits32 z = true →
      ∃ t, exec (.driveReply (linkFrame (u8 a.val ++ [0x80#8] ++ i32 z ++ [st]))) s = .next t ∧
        (t.link.recs[a]).measured = z ∧ (t.link.recs[a]).stale = false ∧ (t.link.recs[a]).misses = 0 ∧
        (t.link.recs[a]).flags =
          { ready := st.getLsbD 0, fault := st.getLsbD 1, limitPos := st.getLsbD 2, limitNeg := st.getLsbD 3 } ∧
        t.link.period = some { p with good := a :: p.good, current := .unused } ∧
        (∀ b : Axis, b ≠ a → t.link.recs[b] = s.link.recs[b] ∧ t.ctrl.setpoints[b] = s.ctrl.setpoints[b]) ∧
        ((s.driveOf a ≠ .enabling ∨ st.getLsbD 0 = false) → t.driveOf a = s.driveOf a ∧ { t with link := s.link } = s) ∧
        (∀ sp, s.driveOf a = .enabling → (s.link.recs[a]).enabling = some sp → st.getLsbD 0 = true →
          t.driveOf a = .on ∧ (t.link.recs[a]).enabling = none ∧ t.ctrl.setpoints[a] = sp ∧
            t.mon.blank[a] = (s.mon.settings[condOn .follow a]).blanking ∧
            { t with link := s.link, gen := s.gen, ctrl := s.ctrl, mon := s.mon } = s ∧
            { t.ctrl with setpoints := s.ctrl.setpoints, clamped := s.ctrl.clamped } = s.ctrl)) ∧
    (∀ (x : Acyclic) (value : BitVec 32), p.current = .acyclic → s.link.queue.find? (·.flying) = some x →
      exec (.driveReply (linkFrame (u8 x.axis.val ++ [0x81#8, 0x00#8] ++ u32 value.toNat))) s =
          .next
            (({ s with
                link :=
                  { s.link with
                    period := some { p with current := .unused }
                    queue := s.link.queue.filter fun y => !y.flying } }).reply 0x32 x.tag .ok (u32 value.toNat)) ∧
        exec (.driveReply (linkFrame (u8 x.axis.val ++ [0x81#8, 0x01#8] ++ u32 value.toNat))) s =
          .next
            (({ s with
                link :=
                  { s.link with
                    period := some { p with current := .unused }
                    queue := s.link.queue.filter fun y => !y.flying } }).reply 0x32 x.tag .badValue [])) ∧
    (∀ (a : Axis) (retry : Bool) (bytes : List Byte), p.current = .setpoint a retry →
      (∀ (z : Int) (st : Byte), fits32 z = true → bytes ≠ linkFrame (u8 a.val ++ [0x80#8] ++ i32 z ++ [st])) →
      exec (.driveReply bytes) s = .next s) ∧
    (∀ (x : Acyclic) (bytes : List Byte), p.current = .acyclic → s.link.queue.find? (·.flying) = some x →
      (∀ (result : Byte) (value : BitVec 32), result = 0x00#8 ∨ result = 0x01#8 →
        bytes ≠ linkFrame (u8 x.axis.val ++ [0x81#8, result] ++ u32 value.toNat)) →
      exec (.driveReply bytes) s = .next s) ∧
    ∀ bytes : List Byte, p.current = .unused → exec (.driveReply bytes) s = .next s

/-- R72, R84, R107, R108, R111, R112, R113, R114, R117, R121, R123, R131: SLOT_END grants the next slot to the first waiting claim (a first
attempt, an aged acyclic transaction, a retry, a further acyclic attempt), where the acyclic transactions of an axis configured since the
period began are passed over until the next (that younger ones may go before them is the model's reading, entry 40); a third attempt
with no good reply ends its DRIVE_PASS with NO_RESPONSE; at the period's last slot it closes the period: an axis of the period with no
good reply is MISSED, the 100th period of an ENABLING axis makes its timeout due, and LINK_GET shows the values from then on. The close
evaluates FOLLOW, OVERSPEED, LIMIT_SW, DRIVE_FAULT and LINK of each axis of the batch, a DRIVE_FAULT whose enable timeout is due apart
(entry 1), and then counts the axes in position in PREROLL and RETURNING (here where no action of a per-axis condition is in force). With
no slot in progress nothing changes (DESIGN CHOICE, entry 4). That what a count has made due is taken first is the model's choice (entry
1), and `Quiet` rules it out; that the monitors come before the count is its choice too (entry 8), and that an instance takes its cause
when it activates (entry 41). -/
def Obligations.SlotEndGrantsTheNextClaim : Prop :=
  ∀ s : State, Quiet s →
    (s.link.period = none → exec .slotEnd s = .next s) ∧
    ∀ p : LinkPeriod, s.link.period = some p →
      (∀ a rest, p.current = .unused → 0 < p.left → p.first = a :: rest → s.configured a = true →
        ∃ t, exec .slotEnd s = .next t ∧
          t.link.period = some { p with left := p.left - 1, current := .setpoint a false, first := rest } ∧
          (t.link.recs[a]).lastSent = s.currentSetpoint a ∧
          t.link.sent = setpointFrame a (s.currentSetpoint a) (!(s.driveOf a = .off)) ∧ { t with link := s.link } = s) ∧
      (∀ a, p.current = .setpoint a false → 0 < p.left → p.first = [] → p.retries = [] → s.link.queue = [] →
        s.configured a = true →
        ∃ t, exec .slotEnd s = .next t ∧
          t.link.period = some { p with left := p.left - 1, current := .setpoint a true } ∧
          t.link.sent = setpointFrame a (s.currentSetpoint a) (!(s.driveOf a = .off)) ∧ { t with link := s.link } = s) ∧
      (∀ x rest, p.current = .unused → 0 < p.left → p.first = [] → p.agedDone = false → s.link.queue = x :: rest →
        8 ≤ x.age → x.flying = false → p.axes.contains x.axis = true →
        ∃ t, exec .slotEnd s = .next t ∧
          t.link.period = some { p with left := p.left - 1, current := .acyclic, agedDone := true } ∧
          t.link.queue = { x with flying := true } :: rest ∧ t.link.sent = acyclicFrame x ∧ { t with link := s.link } = s) ∧
      (∀ new x rest, p.current = .unused → 0 < p.left → p.first = [] → p.retries = [] → s.link.queue = new ++ x :: rest →
        (∀ y ∈ new, p.axes.contains y.axis = false) → (new ≠ [] ∨ x.age < 8 ∨ p.agedDone = true) →
        x.flying = false → p.axes.contains x.axis = true →
        ∃ t, exec .slotEnd s = .next t ∧ t.link.period = some { p with left := p.left - 1, current := .acyclic } ∧
          t.link.queue = new ++ { x with flying := true } :: rest ∧ t.link.sent = acyclicFrame x ∧
          { t with link := s.link } = s) ∧
      (p.current = .unused → 0 < p.left → p.first = [] → p.retries = [] →
        (∀ y ∈ s.link.queue, p.axes.contains y.axis = false) →
        exec .slotEnd s =
          .next { s with link := { s.link with period := some { p with left := p.left - 1, current := .unused } } }) ∧
      (∀ x, p.current = .acyclic → 0 < p.left → p.first = [] → p.retries = [] → s.link.queue = [x] → x.flying = true →
        (x.fails < 2 → p.axes.contains x.axis = true →
          ∃ t, exec .slotEnd s = .next t ∧
            t.link.period =
              some
                { p with left := p.left - 1, current := .acyclic, agedDone := p.agedDone || decide (8 ≤ x.age) } ∧
            t.link.queue = [{ x with fails := x.fails + 1 }] ∧ { t with link := s.link } = s) ∧
        (2 ≤ x.fails →
          exec .slotEnd s =
            .next
              (({ s with
                  link :=
                    { s.link with
                      queue := [], period := some { p with left := p.left - 1, current := .unused } } }).reply
                0x32 x.tag .noResponse []))) ∧
      (p.current = .unused → p.left = 0 →
        ∃ t, exec .slotEnd s = .next t ∧ t.link.period = none ∧ t.axes = s.axes ∧ t.wheels = s.wheels ∧
          t.link.snapQueue = s.link.queue.length ∧
          ∀ a : Axis,
            (s.configured a = true → p.axes.contains a = true → p.good.contains a = false →
              (t.link.recs[a]).stale = true ∧ (t.link.recs[a]).misses = min 255 ((s.link.recs[a]).misses + 1)) ∧
            (p.good.contains a = true →
              (t.link.recs[a]).stale = (s.link.recs[a]).stale ∧ (t.link.recs[a]).misses = (s.link.recs[a]).misses) ∧
            (t.link.recs[a]).measured = (s.link.recs[a]).measured ∧
            t.link.due[a] = (decide (s.driveOf a = .enabling) && decide (99 ≤ (s.link.recs[a]).enableCount)) ∧
            t.link.snap[a] =
              { configured := s.configured a, stale := (t.link.recs[a]).stale, misses := (t.link.recs[a]).misses
                measured := (t.link.recs[a]).measured, flags := (t.link.recs[a]).flags }) ∧
      (p.current = .unused → p.left = 0 → (∀ j : CondId, j.val < 96 → inForce s.mon.settings[j] = none) →
        ∃ t, exec .slotEnd s = .next t ∧
          (∀ (a : Axis) (eval : AxisCond → Bool → Option Nat → Option Cause → CondInst),
            (∀ c truth value cause, eval c truth value cause =
              if (s.mon.settings[condOn c a]).mode = .off then s.mon.insts[condOn c a]
              else
                evaluateInst s.mon.settings[condOn c a] s.stampNow s.mon.insts[condOn c a]
                  { id := condOn c a, truth, value, cause, force := false }) →
            (s.configured a = true → p.axes.contains a = true →
              t.mon.blank[a] = s.mon.blank[a] - 1 ∧
              (∀ err, err = ((s.link.recs[a]).lastSent - (s.link.recs[a]).measured).natAbs →
                t.mon.insts[condOn .follow a] =
                  if s.driveOf a = .on ∧ p.good.contains a = true ∧ s.mon.blank[a] = 0 then
                    eval .follow (decide ((s.mon.settings[condOn .follow a]).threshold < err)) (some err) none
                  else s.mon.insts[condOn .follow a]) ∧
              (∀ prev moved, s.link.batch[a] = some prev → p.good.contains a = true → prev.stale = false →
                moved = ((s.link.recs[a]).measured - prev.measured).natAbs * 1000000 →
                t.mon.insts[condOn .overspeed a] =
                  eval .overspeed (decide ((s.mon.settings[condOn .overspeed a]).threshold * s.clock.period < moved))
                    (some (moved / s.clock.period)) none) ∧
              ((p.good.contains a = false ∨ s.link.batch[a] = none ∨ ∃ prev, s.link.batch[a] = some prev ∧ prev.stale = true) →
                t.mon.insts[condOn .overspeed a] = s.mon.insts[condOn .overspeed a]) ∧
              (∀ pos neg, pos = ((s.link.recs[a]).flags).limitPos → neg = ((s.link.recs[a]).flags).limitNeg →
                ∃ cause, t.mon.insts[condOn .limitSw a] = eval .limitSw (pos || neg) none (some cause) ∧
                  (pos = true → neg = true → cause = .both) ∧ (pos = true → neg = false → cause = .pos) ∧
                  (pos = false → neg = true → cause = .neg)) ∧
              (t.link.due[a] = false →
                t.mon.insts[condOn .driveFault a] = eval .driveFault ((s.link.recs[a]).flags).fault none (some .status)) ∧
              t.mon.insts[condOn .link a] =
                eval .link (decide ((s.mon.settings[condOn .link a]).threshold ≤ (t.link.recs[a]).misses))
                  (some (t.link.recs[a]).misses) none) ∧
            ((s.configured a = false ∨ p.axes.contains a = false) →
              t.mon.blank[a] = s.mon.blank[a] ∧
                ∀ c : AxisCond, c ≠ .repeatDev → t.mon.insts[condOn c a] = s.mon.insts[condOn c a])) ∧
          { t.ctrl with inPos := s.ctrl.inPos } = s.ctrl ∧
          (s.ctrl.state ≠ .preroll → s.ctrl.state ≠ .returning → t.ctrl = s.ctrl) ∧
          ((s.ctrl.state = .preroll ∨ s.ctrl.state = .returning) → (∀ a : Axis, s.mon.detached[a] = []) →
            (∀ a : Axis, s.configured a = true → p.axes.contains a = true) →
            ((∀ a : Axis, s.configured a = true → (s.gen.recs[a]).mode = .target ∧
                (s.gen.recs[a]).target = some (s.gen.recs[a]).x ∧ (s.gen.recs[a]).v = 0 ∧ p.good.contains a = true ∧
                ((s.link.recs[a]).measured - (s.gen.recs[a]).x).natAbs ≤ (s.axes.recs[a]).window) →
              t.ctrl.inPos = min 10 (s.ctrl.inPos + 1)) ∧
            (∀ a : Axis, s.configured a = true →
              ((s.gen.recs[a]).mode ≠ .target ∨ (s.gen.recs[a]).target ≠ some (s.gen.recs[a]).x ∨
                (s.gen.recs[a]).v ≠ 0 ∨ p.good.contains a = false ∨
                (s.axes.recs[a]).window < ((s.link.recs[a]).measured - (s.gen.recs[a]).x).natAbs) →
              t.ctrl.inPos = 0)) ∧
          ((s.ctrl.state = .preroll ∨ s.ctrl.state = .returning) → (∃ a : Axis, t.mon.detached[a] ≠ []) →
            t.ctrl.inPos = 0))

/-- R117, R132, R139: the enable timeout of an axis, due since the close that brought its count to 100, turns an axis still ENABLING
OFF and evaluates DRIVE_FAULT true at once, whatever the deglitch and whatever has turned the axis OFF meanwhile: an inactive instance
activates, latches in LATCHED mode, and its action in force is taken: AXIS_HALT detaches the axis, PATH_STOP starts a fault ramp
while the clock advances, DRIVE_OFF turns every drive OFF. A timeout that is not due changes nothing (DESIGN CHOICE, entries 1
and 4). -/
def Obligations.EnableTimeoutTurnsTheDriveOff : Prop :=
  ∀ (a : Axis) (s : State) (i : CondId) (m : Monitor), i = condOn .driveFault a → m = s.mon.settings[i] →
    (s.link.due[a] = true →
      ∃ t, exec (.enableTimeout a) s = .next t ∧ t.link.due[a] = false ∧
        (∀ b : Axis, b ≠ a → t.link.due[b] = s.link.due[b]) ∧
        (s.driveOf a = .enabling → (s.link.recs[a]).enableCount = 100 →
          t.driveOf a = .off ∧ (t.link.recs[a]).enabling = none ∧ (t.link.recs[a]).enableCount = 0) ∧
        t.axes = s.axes ∧ t.wheels = s.wheels ∧ t.lines = s.lines ∧ t.mon.settings = s.mon.settings ∧
        (m.mode = .off → t.mon.insts[i] = s.mon.insts[i]) ∧ (m.mode ≠ .off → (t.mon.insts[i]).last = true) ∧
        (m.mode ≠ .off → (s.mon.insts[i]).active = false →
          (t.mon.insts[i]).active = true ∧ (t.mon.insts[i]).cause = some .enableTimeout ∧
          (m.mode = .latched → (t.mon.insts[i]).latched = some m.action) ∧
          ((m.mode = .latched ∨ m.mode = .selfClearing) →
            (m.action = .axisHalt → i ∈ t.mon.detached[a] ∧
              (s.mon.detached[a] = [] → (t.gen.recs[a]).mode = .halt)) ∧
            (m.action = .pathStop → s.ctrl.state = .running → s.clock.state = .advancing → s.clock.speed ≠ 0 →
              t.ctrl = { s.ctrl with state := .faultStopping, stopForm := some .path } ∧
                t.clock.ramp =
                  .down .fault (max (currentDecrement s.clock.ramp) (ceilDiv s.clock.speed s.clock.cfg.faultRamp))) ∧
            (m.action = .driveOff → t.ctrl.state = .faulted ∧ (∀ b : Axis, t.driveOf b = .off) ∧ t.link.queue = [])))) ∧
    (s.link.due[a] = false → exec (.enableTimeout a) s = .next s)

/-- R107, R111, R116, R117, R118, R120, R121: the link law holds after every command if it held before. -/
def Obligations.EveryCommandKeepsTheLinkLaw : Prop :=
  ∀ (c : Instr) (s t : State), LinkLaw s → exec c s = .next t → LinkLaw t

/-- R112: every setpoint formed for an axis whose drive is not OFF lies within its soft limits, after every command if before. -/
def Obligations.EverySetpointSentEnabledIsInsideTheLimits : Prop :=
  ∀ (c : Instr) (s t : State), SetpointLaw s → exec c s = .next t → SetpointLaw t

/-- R119, R134, R180, R183: L1 stays the e-stop input, and while it is active or a DRIVE_OFF condition is latched every drive is OFF,
after every command if before. -/
def Obligations.EveryCommandKeepsTheEstopLaw : Prop :=
  ∀ (c : Instr) (s t : State), EstopLaw s → exec c s = .next t → EstopLaw t

/-! ### The monitor unit -/

/-- R127, R128, R129, R142: an accepted MONITOR_SET writes the settings of the named instances, whose runs become 0, a change that is
reported; turning a monitor OFF passes its instances out of evaluation; ESTOP is not settable. MONITOR_GET only replies. How the requests carry an
absent mask or name and the layout of MONITOR_GET's reply are the model's choices (entries 16, 18, 20). -/
def Obligations.MonitorSetAndGet : Prop :=
  ∀ (name mask : Nat) (m : Monitor) (tag : Byte) (s : State), monitorInRange name m = true → 1 ≤ mask → mask < 65536 →
    (name ≠ 6 →
      ∃ t, exec
          (.monitorSet tag (u8 name ++ optional u16 (if isPerAxis name then some mask else none) ++ monitorBytes name m)) s =
          .next t ∧
        (∀ i ∈ condsOf name mask, t.mon.settings[i] = m ∧ (t.mon.insts[i]).trueRun = 0 ∧ (t.mon.insts[i]).falseRun = 0 ∧
          (t.mon.insts[i]).latched = (s.mon.insts[i]).latched ∧
          (t.mon.insts[i]).active = (!(m.mode = .off) && (s.mon.insts[i]).active)) ∧
        (∀ i, i ∉ condsOf name mask → t.mon.settings[i] = s.mon.settings[i] ∧ t.mon.insts[i] = s.mon.insts[i]) ∧
        ((∃ i ∈ condsOf name mask, (s.mon.insts[i]).trueRun ≠ 0 ∨ (s.mon.insts[i]).falseRun ≠ 0) →
          .fault ∈ t.console.outQ ++ t.console.held) ∧
        (m.mode ≠ .off → { t with mon := s.mon, console := s.console } = s) ∧
        { t with mon := s.mon, gen := s.gen, console := s.console } = s) ∧
    (name = 6 →
      exec (.monitorSet tag (u8 name ++ optional u16 none ++ monitorBytes name m)) s =
        .next (s.reply 0x38 tag .notSettable [])) ∧
    exec (.monitorGet tag [0]) s =
        .next (s.reply 0x39 tag .ok (counted (monitorItem s.mon) [0, 1, 2, 3, 4, 5, 6, 7, 8] ++ faultBytes s.mon)) ∧
      exec (.monitorGet tag (1 :: u8 name)) s =
        .next (s.reply 0x39 tag .ok (counted (monitorItem s.mon) [name] ++ faultBytes s.mon))

/-- R89, R143: CLEAR_FAULTS unlatches every latched instance whose last evaluation was false and no other, and leaves FAULTED for
IDLE when no latched PATH_STOP or DRIVE_OFF is left. -/
def Obligations.ClearFaultsUnlatches : Prop :=
  ∀ (tag : Byte) (s : State),
    ∃ t, exec (.clearFaults tag []) s = .next t ∧
      (∀ i : CondId, t.mon.insts[i] =
        if (s.mon.insts[i]).last = false then { s.mon.insts[i] with latched := none } else s.mon.insts[i]) ∧
      t.mon.settings = s.mon.settings ∧
      (s.ctrl.state = .faulted →
        (∀ i : CondId, (t.mon.insts[i]).latched ≠ some .pathStop ∧ (t.mon.insts[i]).latched ≠ some .driveOff) →
        t.ctrl = { s.ctrl with state := .idle, stopForm := none }) ∧
      ((∃ i : CondId, (t.mon.insts[i]).latched = some .pathStop ∨ (t.mon.insts[i]).latched = some .driveOff) →
        t.ctrl = s.ctrl) ∧
      (s.ctrl.state ≠ .faulted → t.ctrl = s.ctrl) ∧
      { t with mon := s.mon, gen := s.gen, ctrl := s.ctrl, console := s.console } = s

/-- R22, R51, R53, R73, R80, R86, R88, R104, R119, R122, R139, R154, R175: the actions that stop a run, taken at an evaluation that latches
(here that of an enable timeout, R132): PATH_STOP by the controller's state (Table 4-6), and DRIVE_OFF in every state. What becomes of the
arm setpoints, the preroll targets and the in-position count, and the order in which a pass end and its state are taken, are the
model's choices (entries 33, 35, 38). -/
def Obligations.ActionsStopTheRun : Prop :=
  ∀ (a : Axis) (s : State) (i : CondId), i = condOn .driveFault a → s.link.due[a] = true →
    (s.mon.settings[i]).mode = .latched → (s.mon.insts[i]).active = false →
    ∃ t, exec (.enableTimeout a) s = .next t ∧ t.axes = s.axes ∧ t.wheels = s.wheels ∧ t.lines = s.lines ∧
      .fault ∈ t.console.outQ ++ t.console.held ∧
      ((s.mon.settings[i]).action = .pathStop →
        ((s.ctrl.state = .idle ∨ s.ctrl.state = .armed) →
          t.ctrl =
              { s.ctrl with
                state := .faulted, stopForm := none, armSetpoints := none, prerollTargets := none, inPos := 0 } ∧
            t.clock = s.clock ∧ t.store = s.store ∧ t.log = s.log ∧ t.check = s.check) ∧
        (∀ p, s.ctrl.state = .checking → s.check.progress = some p →
          t.ctrl.state = .faulted ∧ t.check.progress = none ∧ ∃ r, t.check.record = some r ∧ r.outcome = .cancelled) ∧
        (s.ctrl.state = .preroll →
          t.ctrl = { s.ctrl with state := .faultStopping, stopForm := some .generator, inPos := 0 } ∧
          ∀ b : Axis, s.configured b = true → s.mon.detached[b] = [] → t.driveOf b ≠ .off →
            (s.gen.recs[b]).mode ≠ .capture → (t.gen.recs[b]).mode = .resting) ∧
        (∀ kind, ((s.ctrl.state = .running ∧ s.clock.state = .waiting) ∨ s.ctrl.state = .held) → s.ctrl.pass = some kind →
          t.ctrl.state = .faulted ∧ t.ctrl.pass = none ∧ t.ctrl.entry = 0 ∧ t.ctrl.ret = none ∧
          t.clock.state = .stopped ∧ t.clock.time = s.clock.time ∧ t.clock.travel = s.clock.travel ∧
          PassCloses s t .faulted ∧ t.store.moves = s.store.moves ∧
          (kind = .capture → t.store.staging = [] ∧ t.store.free = s.store.free + stagedKeys s.store)) ∧
        (((s.ctrl.state = .running ∧ s.clock.state = .advancing) ∨ s.ctrl.state = .holding ∨
            (s.ctrl.state = .stopping ∧ s.ctrl.stopForm = some .path)) → s.clock.speed ≠ 0 →
          t.ctrl = { s.ctrl with state := .faultStopping, stopForm := some .path } ∧
          t.clock =
            { s.clock with
              ramp := .down .fault (max (currentDecrement s.clock.ramp) (ceilDiv s.clock.speed s.clock.cfg.faultRamp))
              lock := none, lostTimer := none, budget := 0 } ∧
          t.store = s.store ∧ t.log = s.log ∧
          ∀ b : Axis, s.mon.detached[b] = [] → (s.gen.recs[b]).mode = .capture →
            (t.gen.recs[b]).mode = .resting ∧ (t.gen.recs[b]).pathLimits = true ∧ (t.gen.recs[b]).v = (s.gen.recs[b]).v) ∧
        (s.ctrl.state = .faultStopping → s.ctrl.stopForm = some .path → s.clock.speed ≠ 0 →
          t.ctrl = s.ctrl ∧
          t.clock.ramp =
            .down .fault (max (currentDecrement s.clock.ramp) (ceilDiv s.clock.speed s.clock.cfg.faultRamp))) ∧
        (s.ctrl.state = .stopping → s.ctrl.stopForm = some .generator →
          t.ctrl = { s.ctrl with state := .faultStopping, stopForm := some .generator } ∧ t.clock = s.clock) ∧
        ((s.ctrl.state = .jogging ∨ s.ctrl.state = .returning) →
          t.ctrl.state = .faultStopping ∧ t.ctrl.stopForm = some .generator ∧
          (s.ctrl.pass.isSome = true → t.ctrl.pass = none ∧ t.ctrl.ret = none ∧ PassCloses s t .faulted)) ∧
        ((s.ctrl.state = .faulted ∨ (s.ctrl.state = .faultStopping ∧ s.ctrl.stopForm = some .generator)) →
          t.ctrl = s.ctrl ∧ t.clock = s.clock)) ∧
      ((s.mon.settings[i]).action = .driveOff →
        t.ctrl.state = .faulted ∧ (∀ b : Axis, t.driveOf b = .off) ∧ t.link.queue = [] ∧
        (∀ x ∈ s.link.queue, .reply 0xB2 x.tag [0x19] ∈ t.console.outQ ++ t.console.held) ∧
        (s.ctrl.state ≠ .faulted →
          t.clock.state = .stopped ∧ t.clock.speed = 0 ∧ t.clock.time = s.clock.time ∧ t.check.progress = none ∧
          t.ctrl.armSetpoints = none ∧ t.ctrl.prerollTargets = none ∧
          (s.ctrl.pass.isSome = true → t.ctrl.pass = none ∧ t.ctrl.ret = none ∧ PassCloses s t .faulted) ∧
          ∀ b : Axis, s.mon.detached[b] = [] → (t.gen.recs[b]).mode = .idle))

/-- R73, R140, R141, R143, R166, R167: AXIS_HALT adds its instance to those that detach the axis; the first halts the axis in the generator,
standing at the setpoint its link forms while its drive is not ON; ARMED returns to IDLE and any other state goes on; the other axes
are as before. A JOG of a detached axis is refused. CLEAR_FAULTS releases an axis when no pass exists, none of the instances that
detached it is active or latched and its generator holds it at rest: the axis takes its setpoint from its state's source again;
while one of these terms fails it stays detached. -/
def Obligations.DetachmentAndRelease : Prop :=
  (∀ (a : Axis) (s : State) (i : CondId), i = condOn .driveFault a → s.link.due[a] = true →
    (s.mon.settings[i]).mode = .latched → (s.mon.settings[i]).action = .axisHalt → (s.mon.insts[i]).active = false →
    (∀ b : Axis, b ≠ a → s.mon.detached[b] = []) →
    ∃ t, exec (.enableTimeout a) s = .next t ∧ t.mon.detached[a] = s.mon.detached[a] ++ [i] ∧
      (∀ b : Axis, b ≠ a → t.mon.detached[b] = [] ∧ t.gen.recs[b] = s.gen.recs[b]) ∧
      (s.mon.detached[a] ≠ [] → t.gen.recs[a] = s.gen.recs[a]) ∧
      (s.mon.detached[a] = [] →
        (t.gen.recs[a]).mode = .halt ∧ (t.gen.recs[a]).target = none ∧ (t.gen.recs[a]).jogVel = none ∧
        (t.gen.recs[a]).wheel = none ∧
        (t.driveOf a ≠ .on → (t.gen.recs[a]).x = t.currentSetpoint a ∧ (t.gen.recs[a]).v = 0) ∧
        (t.driveOf a = .on → (s.gen.recs[a]).mode ≠ .idle →
          (t.gen.recs[a]).x = (s.gen.recs[a]).x ∧ (t.gen.recs[a]).v = (s.gen.recs[a]).v) ∧
        (t.driveOf a = .on → (s.gen.recs[a]).mode = .idle →
          (t.gen.recs[a]).x = s.ctrl.setpoints[a] ∧ (t.gen.recs[a]).v = 0)) ∧
      (s.ctrl.state = .armed → t.ctrl.state = .idle ∧ t.ctrl.armSetpoints = none ∧ t.ctrl.prerollTargets = none) ∧
      (s.ctrl.state ≠ .armed → t.ctrl = s.ctrl) ∧ t.clock = s.clock ∧ t.log = s.log ∧ t.store = s.store ∧
      .fault ∈ t.console.outQ ++ t.console.held) ∧
  (∀ (a : Axis) (v : Int) (tag : Byte) (s : State), fits32 v = true →
    (s.ctrl.state = .idle ∨ s.ctrl.state = .jogging) → s.configured a = true → s.driveOf a = .on →
    s.mon.detached[a] ≠ [] → exec (.jog tag (u8 a.val ++ i32 v)) s = .next (s.reply 0x28 tag .faultActive [])) ∧
  ∀ (tag : Byte) (s : State),
    ∃ t, exec (.clearFaults tag []) s = .next t ∧
      ∀ a : Axis, s.mon.detached[a] ≠ [] →
        (¬(s.ctrl.pass = none ∧ genAtRest s.gen.recs[a] = true ∧
            ∀ i ∈ s.mon.detached[a], (t.mon.insts[i]).active = false ∧ (t.mon.insts[i]).latched = none) →
          t.mon.detached[a] = s.mon.detached[a] ∧ t.gen.recs[a] = s.gen.recs[a]) ∧
        (s.ctrl.pass = none → genAtRest s.gen.recs[a] = true →
          (∀ i ∈ s.mon.detached[a], (t.mon.insts[i]).active = false ∧ (t.mon.insts[i]).latched = none) →
          t.mon.detached[a] = [] ∧ .fault ∈ t.console.outQ ++ t.console.held ∧ (t.gen.recs[a]).v = 0 ∧
          ((s.driveOf a ≠ .on ∨
              (s.ctrl.state ≠ .preroll ∧ s.ctrl.state ≠ .jogging ∧ s.ctrl.stopForm ≠ some .generator)) →
            (t.gen.recs[a]).mode = .idle ∧ (t.gen.recs[a]).x = (s.gen.recs[a]).x) ∧
          (s.driveOf a = .on →
            (∀ ts, s.ctrl.state = .preroll → s.ctrl.prerollTargets = some ts →
              (t.gen.recs[a]).mode = .target ∧ (t.gen.recs[a]).target = some ts[a] ∧
                (t.gen.recs[a]).x = s.ctrl.setpoints[a]) ∧
            ((s.ctrl.state = .jogging ∨
                ((s.ctrl.state = .stopping ∨ s.ctrl.state = .faultStopping) ∧ s.ctrl.stopForm = some .generator)) →
              (t.gen.recs[a]).mode = .resting ∧ (t.gen.recs[a]).x = s.ctrl.setpoints[a])))

/-- R136, R138: an instance becomes active at the evaluation that makes its run of true evaluations as long as the deglitch, with
the value and stamp of that evaluation, and latches then in LATCHED mode; it becomes inactive by a run of false evaluations
as long, and its latch stays. -/
def Obligations.InstancesFollowTheirRuns : Prop :=
  ∀ (m : Monitor) (stamp : Stamp) (i : CondInst) (e : Evidence) (n : Nat), 1 ≤ m.deglitch → m.deglitch ≤ 16 →
    e.force = false →
    (i.active = false → i.trueRun = 0 → e.truth = true →
      ((fun x => evaluateInst m stamp x e)^[n] i).active = decide (m.deglitch ≤ n) ∧
      (m.deglitch ≤ n →
        ((fun x => evaluateInst m stamp x e)^[n] i).latched = (if m.mode = .latched then some m.action else i.latched) ∧
        ((fun x => evaluateInst m stamp x e)^[n] i).value = e.value ∧
        ((fun x => evaluateInst m stamp x e)^[n] i).cause = e.cause ∧
        ((fun x => evaluateInst m stamp x e)^[n] i).stamp = some stamp)) ∧
    (i.active = true → i.falseRun = 0 → e.truth = false →
      ((fun x => evaluateInst m stamp x e)^[n] i).active = decide (n < m.deglitch) ∧
      ((fun x => evaluateInst m stamp x e)^[n] i).latched = i.latched)

/-- R126, R127, R136, R140: the monitor unit's law holds after every command if it held before. -/
def Obligations.EveryCommandKeepsTheMonitorLaw : Prop :=
  ∀ (c : Instr) (s t : State), MonLaw s.mon → exec c s = .next t → MonLaw t.mon

/-! ### The pass log -/

/-- R155, R156, R157, R158, R194: the log's requests. LOG_REFERENCE designates or un-designates a slot, LOG_CLEAR empties a
slot that is neither recorded nor held, LOG_INDEX and LOG_READ only reply, REPORT_SET replaces the report settings. How
LOG_REFERENCE carries NONE and the layout of LOG_INDEX's reply are the model's choices (entries 16, 18). -/
def Obligations.LogRequests : Prop :=
  ∀ (i : PassSlot) (tag : Byte) (s : State),
    exec (.logReference tag [0]) s =
      .next (({ s with log := { s.log with reference := none } }).reply 0x40 tag .ok []) ∧
    (∀ p, s.log.slots[i] = some p → s.log.recording ≠ some i → p.header.kind = .play → p.header.outcome = .complete →
      exec (.logReference tag (1 :: u8 (i.val + 1))) s =
        .next (({ s with log := { s.log with reference := some i } }).reply 0x40 tag .ok [])) ∧
    ((∀ p, s.log.slots[i] = some p → s.log.recording = some i ∨ p.header.kind ≠ .play ∨ p.header.outcome ≠ .complete) →
      exec (.logReference tag (1 :: u8 (i.val + 1))) s = .next (s.reply 0x40 tag .badValue [])) ∧
    (∀ p, s.log.recording ≠ some i → s.log.heldSlot ≠ some i → s.log.slots[i] = some p →
      exec (.logClear tag (u8 (i.val + 1))) s =
        .next
          (({ s with
              log :=
                { s.log with
                  slots := put s.log.slots i none, age := i :: s.log.age.filter (fun j => !(j = i))
                  reference := if s.log.reference = some i then none else s.log.reference } }).reply 0x41 tag .ok [])) ∧
    ((s.log.recording = some i ∨ s.log.heldSlot = some i) →
      exec (.logClear tag (u8 (i.val + 1))) s = .next (s.reply 0x41 tag .inUse [])) ∧
    exec (.logIndex tag []) s = .next (s.reply 0x42 tag .ok (logIndexReply s.log)) ∧
    (∀ p first count mask, s.log.slots[i] = some p → 1 ≤ count → count ≤ 24 → mask < 65536 → first + count ≤ 65535 →
      (∃ a : Axis, mask.testBit a.val = true ∧ p.header.axes[a] = true) →
      (first + count ≤ p.records.length →
        exec (.logRead tag (u8 (i.val + 1) ++ u16 first ++ u8 count ++ u16 mask)) s =
          .next
            (s.reply 0x43 tag .ok
              (u16 p.header.number ++ counted (frameRecBytes mask) ((p.records.drop first).take count)))) ∧
      (p.records.length < first + count →
        exec (.logRead tag (u8 (i.val + 1) ++ u16 first ++ u8 count ++ u16 mask)) s =
          .next (s.reply 0x43 tag .badValue []))) ∧
    ∀ n mask, n < 256 → mask < 65536 →
      exec (.reportSet tag (u8 n ++ u16 mask)) s =
        .next
          (({ s with console := { s.console with interval := n, mask := BitVec.ofNat 16 mask } }).reply 0x50 tag .ok
            (u8 n ++ u16 mask))

/-- R75, R80, R114, R147, R148, R149, R150, R151, R153, R154, R194: what a record adds to its pass: the axes of the pass's set, and for each
axis that the held reference can be compared with, its summary and a REPEAT evaluation; a full slot is marked TRUNCATED instead. GO
opens a header in the slot the rules choose, settles with what the pass is compared, and, but in FOLLOWER mode, writes pass frame 0 as
its first record and compares it (here with no REPEAT action in force where it is compared). The close of the batch after a crossing writes the
crossing's record from the batch, and closes a pass that waited for it, with its PASS report; a FRAME report goes with each as the
settings at the crossing say (here where no action of a per-axis condition, which alone the batch evaluates, is in force). What a
record holds of an axis that has no batch item, and that a setpoint not formed by the evaluator has CLAMPED clear, are the model's
choices (entries 10, 42). -/
def Obligations.PassFramesAreRecordedAndCompared : Prop :=
  (∀ (l : PassLog) (mon : Mon) (i : PassSlot) (p : PassRec) (r : FrameRec), l.recording = some i → l.slots[i] = some p →
    (maxFrameRecords ≤ p.records.length →
      (writeRecord l r).slots[i] = some { p with header := { p.header with truncated := true } } ∧
        repeatEvaluations l mon r = []) ∧
    (p.records.length < maxFrameRecords →
      ∃ q, writeRecord l r = { l with slots := put l.slots i (some q) } ∧
        q.records =
          p.records ++ [{ r with samples := tabulate fun a => if p.header.axes[a] then r.samples[a] else none }] ∧
        { q.header with summary := p.header.summary } = p.header ∧
        (l.heldSlot = none → q.header.summary = p.header.summary ∧ repeatEvaluations l mon r = []) ∧
        ∀ (h : PassSlot) (ref : PassRec) (old : FrameRec) (a : Axis) (x y : AxisSample), l.heldSlot = some h →
          l.slots[h] = some ref → ref.records[r.passFrame]? = some old → p.header.axes[a] = true →
          r.samples[a] = some x → old.samples[a] = some y →
          ((x.stale = true ∨ y.stale = true) →
            q.header.summary[a] = p.header.summary[a] ∧ ∀ e ∈ repeatEvaluations l mon r, e.id ≠ condOn .repeatDev a) ∧
          (x.stale = false → y.stale = false →
            (q.header.summary[a]).compared = (p.header.summary[a]).compared + 1 ∧
            (q.header.summary[a]).maxDev = max (p.header.summary[a]).maxDev (x.measured - y.measured).natAbs ∧
            (q.header.summary[a]).atFrame =
              (if (p.header.summary[a]).maxDev < (x.measured - y.measured).natAbs then some r.passFrame
                else (p.header.summary[a]).atFrame) ∧
            ∃ e ∈ repeatEvaluations l mon r, e.id = condOn .repeatDev a ∧ e.value = some (x.measured - y.measured).natAbs ∧
              e.truth =
                decide ((mon.settings[condOn .repeatDev a]).threshold < (x.measured - y.measured).natAbs)))) ∧
  (∀ (tag : Byte) (s : State) (e : RunEntry) (es : List RunEntry) (kind : PassKind) (sig : BitVec 32),
    s.ctrl.state = .armed → s.ctrl.runList = e :: es → s.ctrl.purpose = some (.arm kind) →
    sig = (s.check.record.bind (·.signature)).getD 0 →
    (kind = .play → s.clock.cfg.sync ≠ .follower → ∀ r q, s.log.reference = some r → s.log.slots[r] = some q →
      q.header.signature = sig → ∀ a : Axis, inForce s.mon.settings[condOn .repeatDev a] = none) →
    ∃ t i p, exec (.go tag []) s = .next t ∧ t.log.recording = some i ∧ t.log.slots[i] = some p ∧
      t.log.reference = s.log.reference ∧ t.log.age.getLast? = some i ∧
      (∀ j, s.log.slots[j] = none → (∀ k : PassSlot, k < j → s.log.slots[k] ≠ none) → i = j) ∧
      (∀ older j rest, (∀ k : PassSlot, s.log.slots[k] ≠ none) → s.log.age = older ++ j :: rest →
        (∀ k ∈ older, s.log.reference = some k) → s.log.reference ≠ some j → i = j) ∧
      { p.header with captureShort := false } =
        { number := if s.log.counter = 65535 then 1 else s.log.counter + 1, kind, signature := sig
          axes := tabulate s.configured, outcome := .running, truncated := false, captureShort := false
          comparison := p.header.comparison, summary := p.header.summary } ∧
      (kind = .capture → p.header.comparison = .absent .kind) ∧
      (kind = .play → s.log.reference = none → p.header.comparison = .absent .noReference) ∧
      (∀ r q, kind = .play → s.log.reference = some r → s.log.slots[r] = some q →
        p.header.comparison =
          if q.header.signature = sig then .against r q.header.number else .absent .signature) ∧
      (∀ why, p.header.comparison = .absent why →
        t.log.heldSlot = none ∧ p.header.summary = fill 16 { maxDev := 0, atFrame := none, compared := 0 }) ∧
      (∀ r number, p.header.comparison = .against r number → t.log.heldSlot = some r ∧
        (LogLaw s.log → s.clock.cfg.sync ≠ .follower →
          ∀ q old a y, s.log.slots[r] = some q → q.records[0]? = some old → s.configured a = true →
            old.samples[a] = some y →
            p.header.summary[a] =
              if (s.startSample a).stale = true ∨ y.stale = true then { maxDev := 0, atFrame := none, compared := 0 }
              else
                { maxDev := ((s.startSample a).measured - y.measured).natAbs
                  atFrame := if (s.startSample a).measured = y.measured then none else some 0, compared := 1 })) ∧
      p.records =
        (if s.clock.cfg.sync = .follower then []
        else
          [{ passFrame := 0, entry := 1, time := e.startFrame * 65536
             samples := tabulate fun a => if s.configured a then some (s.startSample a) else none }]) ∧
      (∀ a b, s.link.batch[a] = some b →
        s.startSample a =
          { setpoint := (s.link.recs[a]).lastSent, measured := b.measured, stale := b.stale, clamped := b.clamped
            detached := b.detached }) ∧
      (s.clock.cfg.sync ≠ .follower → s.console.interval ≠ 0 → s.console.held = [] → s.console.outQ.length ≤ 40 →
        ∃ body, .frame (body ++ [0]) ∈ t.console.outQ)) ∧
  ∀ (s : State) (p : LinkPeriod) (c : Crossing) (i : PassSlot) (pass : PassRec), Quiet s → s.link.period = some p →
    p.current = .unused → p.left = 0 → MonLaw s.mon →
    (∀ j : CondId, j.val < 96 → inForce s.mon.settings[j] = none) → s.log.crossing = some c →
    s.log.recording = some i → s.log.slots[i] = some pass →
    ∃ t r q, exec .slotEnd s = .next t ∧ r.passFrame = c.passFrame ∧ r.entry = c.entry ∧ r.time = c.time ∧
      (∀ a, p.axes.contains a = true → s.configured a = true →
        r.samples[a] =
          some
            { setpoint := (s.link.recs[a]).lastSent, measured := (s.link.recs[a]).measured
              stale := !p.good.contains a, clamped := s.ctrl.clamped[a] && decide (s.driveOf a = .on)
              detached := !(s.mon.detached[a]).isEmpty }) ∧
      (writeRecord s.log r).slots[i] = some q ∧
      (s.log.closing = none → t.log = { writeRecord s.log r with crossing := none }) ∧
      (∀ outcome, s.log.closing = some outcome →
        t.log =
          { writeRecord s.log r with
            slots := put (writeRecord s.log r).slots i (some (closedPass q outcome)), recording := none, heldSlot := none
            crossing := none, closing := none } ∧
        .pass (u8 (i.val + 1) ++ headerBytes (closedPass q outcome).header q.records.length) ∈
          t.console.outQ ++ t.console.held) ∧
      ((c.interval = 0 ∨ c.passFrame % c.interval ≠ 0) →
        ∀ m ∈ t.console.outQ ++ t.console.held, isFrameReport m = true → m ∈ s.console.outQ ++ s.console.held) ∧
      (c.interval ≠ 0 → c.passFrame % c.interval = 0 → s.console.held = [] → s.console.outQ.length ≤ 40 →
        ∃ body, .frame (body ++ [BitVec.ofNat 8 s.console.skipped]) ∈ t.console.outQ)

/-- R146, R148, R149, R151, R155, R156: the pass log's law holds after every command if it held before. -/
def Obligations.EveryCommandKeepsTheLogLaw : Prop :=
  ∀ (c : Instr) (s t : State), LogLaw s.log → exec c s = .next t → LogLaw t.log

/-- R44, R47, R48, R49, R50, R63, R82: the clock's law holds after every command if it and the run controller's held before: every
item in its range, the move time inside the current entry while a pass exists; and within a pass the pass frame never falls and
no command raises it by more than one. -/
def Obligations.EveryCommandKeepsTheClockLaw : Prop :=
  ∀ (c : Instr) (s t : State), ClockLaw s → CtrlLaw s → exec c s = .next t →
    ClockLaw t ∧
      (s.ctrl.pass.isSome = true → t.ctrl.pass.isSome = true → t.log.counter = s.log.counter →
        s.clock.passFrame ≤ t.clock.passFrame ∧ t.clock.passFrame ≤ s.clock.passFrame + 1)

/-- R51, R59, R66, R68, R80, R82, R91, Table 4-2: the controller state, the clock state, the ramp, the pass, the return record and the check
progress go together after every command if they did before. -/
def Obligations.EveryCommandKeepsTheControllerLaw : Prop :=
  ∀ (c : Instr) (s t : State), CtrlLaw s → exec c s = .next t → CtrlLaw t

/-! ### The motion generator, the hand-wheels and capture -/

/-- R81, R82, R167, R168, R170, R171: an accepted JOG enters JOGGING with the axis in VELOCITY toward the soft limit of its
direction, or in RESTING at zero, its refresh timer restarted; from HELD the place of the pass is recorded and the clock
stops. JOG_BIND puts the axis in WHEEL from a base at its position, and with NONE ends a wheel binding. How JOG_BIND carries
NONE is the model's choice (entry 16). -/
def Obligations.JogAndJogBind : Prop :=
  ∀ (a : Axis) (v : Int) (w : Wheel) (ratio : Int) (tag : Byte) (s : State), fits32 v = true → fits32 ratio = true →
    ((s.ctrl.state = .idle ∨ s.ctrl.state = .jogging ∨ (s.ctrl.state = .held ∧ s.ctrl.pass = some .play)) →
      s.configured a = true → s.driveOf a = .on → s.mon.detached[a] = [] →
      (∃ t g, exec (.jog tag (u8 a.val ++ i32 v)) s = .next t ∧ t.gen.recs[a] = g ∧ t.ctrl.state = .jogging ∧
        (∀ vt, vt = max (-((s.axes.recs[a]).jogVel : Int)) (min (s.axes.recs[a]).jogVel v) →
          (vt ≠ 0 → g.mode = .velocity ∧ g.jogVel = some vt ∧ g.refresh = some 250000 ∧ g.wheel = none ∧
            g.target = some (if 0 < vt then (s.axes.recs[a]).softMax else (s.axes.recs[a]).softMin)) ∧
          (vt = 0 → g.mode = .resting ∧ g.jogVel = none ∧ g.refresh = none ∧ g.wheel = none)) ∧
        ((s.gen.recs[a]).mode = .idle → g.x = s.currentSetpoint a ∧ g.v = 0) ∧
        ((s.gen.recs[a]).mode ≠ .idle → g.x = (s.gen.recs[a]).x ∧ g.v = (s.gen.recs[a]).v) ∧
        (s.ctrl.state = .held → s.ctrl.ret = none → t.clock.state = .stopped ∧ t.ctrl.ret =
          some
            { entry := s.ctrl.entry, landing := s.ctrl.landing, time := s.clock.time, dir := s.clock.dir
              travel := s.clock.travel, passFrame := s.clock.passFrame, rem := s.clock.rem, speed := s.clock.speed
              setpoints := s.ctrl.setpoints }) ∧
        (s.ctrl.state = .jogging → ∀ b : Axis, b ≠ a → t.gen.recs[b] = s.gen.recs[b]) ∧
        { t with ctrl := s.ctrl, clock := s.clock, gen := s.gen, console := s.console } = s ∧ t.ctrl.pass = s.ctrl.pass) ∧
      (∃ t g, exec (.jogBind tag (u8 a.val ++ [1] ++ u8 w.val ++ i32 ratio)) s = .next t ∧ t.gen.recs[a] = g ∧
        t.ctrl.state = .jogging ∧ g.mode = .wheel ∧
        g.wheel = some { wheel := w, ratio, baseSetpoint := g.x, baseCount := s.wheels.counters[w] } ∧
        ((s.gen.recs[a]).mode = .idle → g.x = s.currentSetpoint a ∧ g.v = 0) ∧
        ((s.gen.recs[a]).mode ≠ .idle → g.x = (s.gen.recs[a]).x ∧ g.v = (s.gen.recs[a]).v) ∧
        (s.ctrl.state = .jogging → ∀ b : Axis, b ≠ a → t.gen.recs[b] = s.gen.recs[b]) ∧
        { t with ctrl := s.ctrl, clock := s.clock, gen := s.gen, console := s.console } = s ∧ t.ctrl.pass = s.ctrl.pass) ∧
      ∃ t, exec (.jogBind tag (u8 a.val ++ [0])) s = .next t ∧ { t with gen := s.gen, console := s.console } = s ∧
        (∀ b : Axis, b ≠ a → t.gen.recs[b] = s.gen.recs[b]) ∧
        ((s.gen.recs[a]).mode = .wheel → (t.gen.recs[a]).mode = .resting) ∧
        ((s.gen.recs[a]).mode ≠ .wheel → t.gen = s.gen)) ∧
    (s.ctrl.state ≠ .idle → s.ctrl.state ≠ .jogging → s.ctrl.state ≠ .held →
      exec (.jog tag (u8 a.val ++ i32 v)) s = .next (s.reply 0x28 tag .wrongState []) ∧
      exec (.jogBind tag (u8 a.val ++ [0])) s = .next (s.reply 0x29 tag .wrongState []))

/-- R168, R169, R172, R173: CAPTURE_SET replaces the bindings and the stride while no run is pending; WHEEL_GET only replies;
a wheel step moves its counter by one, wrapping; the refresh timer's expiry brings a jogged axis to RESTING. An expiry that is
not due changes nothing (DESIGN CHOICE, entries 2 and 4). The layout of WHEEL_GET's reply is the model's choice (entry 18). -/
def Obligations.CaptureSettingsAndWheelEvents : Prop :=
  ∀ (tag : Byte) (s : State),
    (∀ (bs : List Binding) (stride : Nat), bs.length ≤ 4 → (∀ b ∈ bs, fits32 b.ratio = true) → 1 ≤ stride → stride ≤ 8 →
      (s.runPending = false →
        exec (.captureSet tag (u16 bs.length ++ bs.flatMap bindingBytes ++ u8 stride)) s =
          .next (({ s with wheels := { s.wheels with bindings := bs, stride } }).reply 0x2A tag .ok [])) ∧
      (s.runPending = true →
        exec (.captureSet tag (u16 bs.length ++ bs.flatMap bindingBytes ++ u8 stride)) s =
          .next (s.reply 0x2A tag .inUse []))) ∧
    exec (.wheelGet tag []) s = .next (s.reply 0x2B tag .ok (wheelGetReply s.wheels s.gen)) ∧
    (∀ (w : Wheel) (up : Bool), ∃ t, exec (.wheelStep w up) s = .next t ∧ { t with wheels := s.wheels } = s ∧
      t.wheels.bindings = s.wheels.bindings ∧ t.wheels.stride = s.wheels.stride ∧
      ∀ u : Wheel, t.wheels.counters[u] =
        if u = w then (if up then s.wheels.counters[w] + 1 else s.wheels.counters[w] - 1) else s.wheels.counters[u]) ∧
    ∀ (a : Axis),
      (∀ n, (s.gen.recs[a]).mode = .velocity → (s.gen.recs[a]).refresh = some n → n ≤ s.clock.period →
        ∃ t, exec (.jogRefreshExpiry a) s = .next t ∧ { t with gen := s.gen } = s ∧
          (∀ b : Axis, b ≠ a → t.gen.recs[b] = s.gen.recs[b]) ∧ (t.gen.recs[a]).mode = .resting ∧
          (t.gen.recs[a]).jogVel = none ∧ (t.gen.recs[a]).refresh = none ∧
          (t.gen.recs[a]).x = (s.gen.recs[a]).x ∧ (t.gen.recs[a]).v = (s.gen.recs[a]).v) ∧
      ((s.gen.recs[a]).mode ≠ .velocity ∨ (s.gen.recs[a]).refresh = none ∨
          (∃ n, (s.gen.recs[a]).refresh = some n ∧ s.clock.period < n) →
        exec (.jogRefreshExpiry a) s = .next s)

/-- R20, R21, R22, R80, R174, R175, R176, R177: a CAPTURE pass. The key handed to a list takes a free key, or is refused for an empty pool,
which stops every list, or for a full list, which stops that one (where both refusals apply, the empty pool's, DESIGN CHOICE, entry
36). GO opens a list for each binding, puts the bound axes in CAPTURE at their setpoints, and stages their keys of pass frame 0; a
crossing at a multiple of the stride stages one key for each binding, at the setpoints of its period; a step in CAPTURE goes toward
the start setpoint and the wheel's term. STOP in HELD commits the lists: the last list with keys for an axis becomes its track, and
the axes leave the generator. -/
def Obligations.CaptureStagesAndCommits : Prop :=
  (∀ (st : Store) (n : Nat) (key : Key) (l : StagingList), st.staging[n]? = some l →
    ((st.poolRefused = true ∨ l.closed = true) → stageKey st n key = (st, false)) ∧
    (st.poolRefused = false → l.closed = false →
      (st.free = 0 → stageKey st n key = ({ st with poolRefused := true }, true)) ∧
      (0 < st.free → 4096 ≤ l.keys.length →
        stageKey st n key = ({ st with staging := st.staging.set n { l with closed := true } }, true)) ∧
      (0 < st.free → l.keys.length < 4096 →
        stageKey st n key =
          ({ st with staging := st.staging.set n { l with keys := l.keys ++ [key] }, free := st.free - 1 }, false)))) ∧
  (∀ (tag : Byte) (s : State) (e : RunEntry) (es : List RunEntry), s.ctrl.state = .armed → s.ctrl.runList = e :: es →
    s.ctrl.purpose = some (.arm .capture) → s.clock.cfg.sync ≠ .follower → s.store.staging = [] →
    ∃ t, exec (.go tag []) s = .next t ∧
      (s.wheels.bindings.length ≤ s.store.free →
        t.store =
          { s.store with
            staging := s.wheels.bindings.map fun b : Binding =>
              { axis := b.axis, closed := false
                keys :=
                  [{ time := e.startFrame * 65536, value := sat32 (s.ctrl.setpoints[b.axis] - (s.axes.recs[b.axis]).origin)
                     segment := .smooth, tangents := .auto }] }
            free := s.store.free - s.wheels.bindings.length, stagingTarget := some e.slot, poolRefused := false }) ∧
      (s.store.free = 0 → s.wheels.bindings ≠ [] →
        t.store.poolRefused = true ∧ t.store.free = 0 ∧ (∀ l ∈ t.store.staging, l.keys = []) ∧
          ∃ i p, t.log.recording = some i ∧ t.log.slots[i] = some p ∧ p.header.captureShort = true) ∧
      t.store.moves = s.store.moves ∧
      t.gen.captureBase = s.wheels.bindings.map (fun b : Binding => s.wheels.counters[b.wheel]) ∧
      ∀ a : Axis,
        ((∃ b ∈ s.wheels.bindings, b.axis = a) → s.mon.detached[a] = [] →
          (t.gen.recs[a]).mode = .capture ∧ (t.gen.recs[a]).captureStart = some (s.currentSetpoint a)) ∧
        ((∀ b ∈ s.wheels.bindings, b.axis ≠ a) ∨ s.mon.detached[a] ≠ [] → t.gen.recs[a] = s.gen.recs[a])) ∧
  (∀ (pins : BitVec 12) (s : State) (c : Clock) (e : RunEntry) (c' : Clock) (h : HandOver) (n : Nat),
    c =
      { s.clock with
        lostTimer := s.clock.lostTimer.map (· - s.clock.period), trigger := s.clock.trigger.map (· - 1) } →
    Quiet s → s.link.period = none → s.lines.filterL1.active = false →
    s.clock.period = 1000000 / s.clock.cfg.servoRate → s.clock.state = .advancing → s.ctrl.state = .running →
    s.ctrl.pass = some .capture → s.ctrl.entry = 1 → s.ctrl.runList = [e] → advanceClock c 1 e none = (c', h) →
    h.landed = false → h.crossing = some n →
    ∃ t, exec (.servoTimerExpiry pins) s = .next t ∧
      (n % s.wheels.stride ≠ 0 → t.store = s.store) ∧
      (n % s.wheels.stride = 0 → s.store.poolRefused = false →
        (∀ l ∈ s.store.staging, l.closed = false ∧ l.keys.length < 4096) →
        s.store.staging.length = s.wheels.bindings.length → s.wheels.bindings.length ≤ s.store.free →
        t.store =
          { s.store with
            staging := (s.store.staging.zip s.wheels.bindings).map fun p : StagingList × Binding =>
              { p.1 with
                keys :=
                  p.1.keys ++
                    [{ time := (e.startFrame + n) * 65536
                       value := sat32 (t.ctrl.setpoints[p.2.axis] - (s.axes.recs[p.2.axis]).origin)
                       segment := .smooth, tangents := .auto }] }
            free := s.store.free - s.wheels.bindings.length })) ∧
  (∀ (r : AxisRec) (w : Wheels) (b : Binding) (base : BitVec 32) (period : Nat) (x : Int) (g : GenRec) (start : Int),
    w.bindings = [b] → g.mode = .capture → g.captureStart = some start →
    (stepRecord r w [base] period .on x b.axis g).target =
      some (softClamp r (start + roundDiv (b.ratio * (w.counters[b.wheel] - base).toInt) 65536))) ∧
  ∀ (tag : Byte) (s : State) (m : MoveSlot) (mv : Move), s.ctrl.state = .held → s.ctrl.pass = some .capture →
    s.store.stagingTarget = some m → s.store.moves[m] = some mv →
    ∃ t mv', exec (.stop tag []) s = .next t ∧ t.ctrl.state = .idle ∧ t.ctrl.pass = none ∧ PassCloses s t .stopped ∧
      t.store.staging = [] ∧ t.store.stagingTarget = none ∧ t.store.moves = put s.store.moves m (some mv') ∧
      mv'.name = mv.name ∧
      (∀ a : Axis,
        mv'.tracks[a] =
          match (s.store.staging.filter fun l => l.axis = a && !l.keys.isEmpty).getLast? with
          | some l => some l.keys
          | none => mv.tracks[a]) ∧
      keysInTracks t.store + t.store.free = keysInTracks s.store + stagedKeys s.store + s.store.free ∧
      t.gen.captureBase = [] ∧
      ∀ a : Axis, s.mon.detached[a] = [] → (s.gen.recs[a]).mode = .capture →
        (t.gen.recs[a]).mode = .idle ∧ (t.gen.recs[a]).v = 0 ∧ (t.gen.recs[a]).x = (s.gen.recs[a]).x

/-- R162, R165: stage 1 of a step slows the axis by A, and stage 2 brings it toward V in the sense of the target; both change the velocity
by at most A, and never past the greater of V and the speed it had. A step inside the soft limits moves by that velocity, or arrives: it
stands at the target. A step of an axis that stands or moves toward the target stays between where it was and the target; from rest the
axis stands at the target after at most two steps a count, and from any motion after some number of steps (here with A and V at least 1,
as R161 has them). A whole step leaves the axis inside its soft limits; a step to rest slows by A until the axis stands. That nothing
lies beyond X as seen from X is the model's choice (entry 43). -/
def Obligations.GeneratorStepsAreBounded : Prop :=
  (∀ (v r : Int) (V A : Nat), (nextVelocity v r V A - v).natAbs ≤ A ∧ (nextVelocity v r V A).natAbs ≤ max V v.natAbs ∧
    (v ≠ 0 ∧ (v.sign ≠ r.sign ∨ 2 * A * r.natAbs ≤ v.natAbs * (v.natAbs + A)) →
      nextVelocity v r V A = v.sign * max 0 (v.natAbs - A)) ∧
    (v = 0 ∨ (v.sign = r.sign ∧ v.natAbs * (v.natAbs + A) < 2 * A * r.natAbs) →
      nextVelocity v r V A = r.sign * (if v.natAbs ≤ V then min (v.natAbs + A) V else max (v.natAbs - A) V))) ∧
  (∀ (rec : AxisRec) (X : Int) (V A : Nat) (m : Motion), rec.softMin ≤ rec.softMax →
    rec.softMin ≤ (stepToward rec X V A m).x ∧ (stepToward rec X V A m).x ≤ rec.softMax ∧
      rec.softMin ≤ (stepToRest rec A m).x ∧ (stepToRest rec A m).x ≤ rec.softMax) ∧
  (∀ (rec : AxisRec) (X x' v' : Int) (V A : Nat) (m : Motion), rec.softMin ≤ X → X ≤ rec.softMax →
    v' = nextVelocity m.v (X - m.x) V A → x' = m.x + v' →
    (x' = X ∨ (m.x < X ∧ X < x') ∨ (X < m.x ∧ x' < X) ∨ ((X - x').natAbs ≤ A ∧ v'.natAbs ≤ A) →
      stepToward rec X V A m = { x := X, v := 0 }) ∧
    (x' ≠ X → (m.x < X → x' < X) → (X < m.x → X < x') → (A < (X - x').natAbs ∨ A < v'.natAbs) →
      rec.softMin ≤ x' → x' ≤ rec.softMax → stepToward rec X V A m = { x := x', v := v' })) ∧
  (∀ (rec : AxisRec) (X : Int) (V A : Nat) (m : Motion), rec.softMin ≤ X → X ≤ rec.softMax → 1 ≤ V → 1 ≤ A →
    (rec.softMin ≤ m.x → m.x ≤ rec.softMax → (m.v = 0 ∨ m.v.sign = (X - m.x).sign) →
      min m.x X ≤ (stepToward rec X V A m).x ∧ (stepToward rec X V A m).x ≤ max m.x X) ∧
    (rec.softMin ≤ m.x → m.x ≤ rec.softMax → m.v = 0 →
      (m.x ≠ X → ((X - (stepToward rec X V A m).x).natAbs < (X - m.x).natAbs)) ∧
        ∀ n, 2 * (X - m.x).natAbs ≤ n → (stepToward rec X V A)^[n] m = { x := X, v := 0 }) ∧
    ∃ k, ∀ n, k ≤ n → (stepToward rec X V A)^[n] m = { x := X, v := 0 }) ∧
  ∀ (rec : AxisRec) (A n : Nat) (m : Motion), m.v.natAbs ≤ n * A → ((stepToRest rec A)^[n] m).v = 0

/-! ### The rig lines and the cues -/

/-- R179, R180, R181, R182, R184: an accepted LINE_SET replaces a line's items and drops its pending clear; a newly selected GO_IN
or HOLD_IN starts its filter at the pin's level, a newly selected CAMERA its edge detector disarmed; L1 stays an input with
ESTOP_IN selected. LINE_READ only replies: an ordinary input reads its pin, an output its latch, a filtered function its filter, and
CAMERA the trigger in MASTER mode and else the pin. The levels that stand at the pins as a request is handled are free values, and
how a function is numbered and that a trigger under way at the selection reads at once are the model's choices (entries 3, 18, 44).
-/
def Obligations.LineSetAndRead : Prop :=
  ∀ (l : Line) (mode : LineMode) (latch : Bool) (tag : Byte) (s : State) (seen : BitVec 12),
    seen = Config.freePins s.openReads →
    (l ≠ 1 →
      ∃ t, exec (.lineSet tag (u8 l.val ++ u8 (lineModeNumber mode) ++ flag latch ++ [0])) s = .next t ∧
        t.lines = { s.lines with lines := put s.lines.lines l { mode, latch, selected := false, pendingClear := none } } ∧
        { t with lines := s.lines, console := s.console } = s) ∧
    ((l = 2 ∨ l = 3) →
      ∃ t, exec (.lineSet tag (u8 l.val ++ [0] ++ flag latch ++ u8 (l.val + 1))) s = .next t ∧
        ((s.lines.lines[l]).selected = false →
          t.lines =
            { s.lines with
              lines := put s.lines.lines l { mode := .input, latch, selected := true, pendingClear := none }, pins := seen
              filterL2 := if l = 2 then { active := seen.getLsbD 2, count := 0 } else s.lines.filterL2
              filterL3 := if l = 3 then { active := seen.getLsbD 3, count := 0 } else s.lines.filterL3 } ∧
          { t with lines := s.lines, console := s.console } = { s with openReads := s.openReads + 1 }) ∧
        ((s.lines.lines[l]).selected = true →
          t.lines =
            { s.lines with lines := put s.lines.lines l { mode := .input, latch, selected := true, pendingClear := none } } ∧
          { t with lines := s.lines, console := s.console } = s)) ∧
    (l = 0 →
      ∃ t, exec (.lineSet tag (u8 0 ++ u8 (lineModeNumber mode) ++ flag latch ++ [1])) s = .next t ∧
        t.lines =
          { s.lines with
            lines := put s.lines.lines 0 { mode, latch, selected := true, pendingClear := none }
            edgeArmed := s.lines.edgeArmed && (s.lines.lines[(0 : Line)]).selected } ∧
        { t with lines := s.lines, console := s.console } = s) ∧
    ((s.lines.lines[(1 : Line)]).selected = true →
      ∃ t, exec (.lineSet tag (u8 1 ++ [0] ++ flag latch ++ [2])) s = .next t ∧
        t.lines =
          { s.lines with lines := put s.lines.lines 1 { mode := .input, latch, selected := true, pendingClear := none } } ∧
        { t with lines := s.lines, console := s.console } = s) ∧
    (exec (.lineSet tag (u8 1 ++ u8 (lineModeNumber mode) ++ flag latch ++ [0])) s =
        .next (s.reply 0x48 tag .notSettable []) ∧
      exec (.lineSet tag (u8 1 ++ [1] ++ flag latch ++ [2])) s = .next (s.reply 0x48 tag .notSettable [])) ∧
    ∃ (t : State) (level : Line → Bool), exec (.lineRead tag []) s =
        .next (t.reply 0x49 tag .ok (allLines.flatMap fun k => lineBytes k s.lines.lines[k] ++ flag (level k))) ∧
      t = { s with lines := { s.lines with pins := seen }, openReads := s.openReads + 1 } ∧
      ((s.lines.lines[l]).selected = false → (s.lines.lines[l]).mode = .input → level l = seen.getLsbD l.val) ∧
      ((s.lines.lines[l]).selected = false → (s.lines.lines[l]).mode = .output → level l = (s.lines.lines[l]).latch) ∧
      ((s.lines.lines[l]).selected = true →
        (∀ f, filterOf s.lines l = some f → level l = f.active) ∧
        (l = 0 → level l = if s.clock.cfg.sync = .master then s.clock.trigger.isSome else seen.getLsbD 0))

/-- R185: an accepted CUE_LOAD replaces the cue table by the entries in ascending pass frame, entries of one pass frame in the
order in which they were loaded and none lost; CUE_GET reads it. How an entry carries an absent pulse width, and that CUE_GET's
entry count is the count of the list, are the model's choices (entries 16, 18). -/
def Obligations.CueLoadAndGet : Prop :=
  ∀ (cs : List Cue) (tag : Byte) (s : State), cs.length ≤ 64 →
    (∀ c ∈ cs, c.passFrame ≤ 65535 ∧ 4 ≤ c.line.val ∧ ∀ w, c.action = .pulse w → 1 ≤ w ∧ w ≤ 255) →
    (s.runPending = false →
      ∃ t, exec (.cueLoad tag (u16 cs.length ++ cs.flatMap cueBytes)) s = .next t ∧
        t.lines.cues.Pairwise (fun c d => c.passFrame ≤ d.passFrame) ∧
        (∀ n, t.lines.cues.filter (fun c => c.passFrame = n) = cs.filter (fun c => c.passFrame = n)) ∧
        t.lines.cues.length = cs.length ∧
        { t.lines with cues := s.lines.cues } = s.lines ∧ { t with lines := s.lines, console := s.console } = s) ∧
    (s.runPending = true →
      exec (.cueLoad tag (u16 cs.length ++ cs.flatMap cueBytes)) s = .next (s.reply 0x4A tag .inUse [])) ∧
    exec (.cueGet tag []) s = .next (s.reply 0x4B tag .ok (u16 s.lines.cues.length ++ s.lines.cues.flatMap cueBytes))

/-- R77, R119, R182, R183, R187, R194: a pending clear that has run out clears its latch; a filtered edge that is due turns the filter,
and an active one reaches its owner: L1's turns every drive OFF, L2's is taken as GO, L3's as HOLD, each with its STATE report and
no reply. The model's choices: that an edge taken as GO makes the skipped count 0 (entry 12), and that an event that is not due changes
nothing (entries 1 and 4). -/
def Obligations.LineEventsAreTaken : Prop :=
  ∀ (l : Line) (s : State),
    ((s.lines.lines[l]).pendingClear = some 0 →
      exec (.pendingClearExpiry l) s =
        .next
          { s with
            lines :=
              { s.lines with
                lines := put s.lines.lines l { s.lines.lines[l] with latch := false, pendingClear := none } } }) ∧
    ((s.lines.lines[l]).pendingClear ≠ some 0 → exec (.pendingClearExpiry l) s = .next s) ∧
    (s.edgeDue l = none → exec (.lineFilterEdge l) s = .next s) ∧
    (∀ f, s.edgeDue 1 = some f → f.active = false →
      ∃ t, exec (.lineFilterEdge 1) s = .next t ∧ t.estopActive = true ∧ (∀ a : Axis, t.driveOf a = .off) ∧
        t.lines = { s.lines with filterL1 := { active := true, count := 0 } } ∧ t.axes = s.axes ∧ t.wheels = s.wheels) ∧
    (∀ f, (l = 2 ∨ l = 3) → s.edgeDue l = some f → f.active = true →
      exec (.lineFilterEdge l) s = .next { s with lines := putFilter s.lines l { active := false, count := 0 } }) ∧
    (∀ f e, s.edgeDue 2 = some f → f.active = false → s.ctrl.state = .holding → s.currentEntry? = some e →
      ∃ t, exec (.lineFilterEdge 2) s = .next t ∧ t.lines.filterL2 = { active := true, count := 0 } ∧
        t.ctrl = { s.ctrl with state := .running, stopForm := none } ∧ t.clock.state = .advancing ∧
        t.console = queueStateReport { s.console with skipped := 0 } .running s.ctrl.pass s.ctrl.entry ∧
        { t with lines := s.lines, ctrl := s.ctrl, clock := s.clock, console := s.console } = s) ∧
    ∀ f, s.edgeDue 3 = some f → f.active = false → s.ctrl.state = .running → s.clock.cfg.sync ≠ .follower →
      s.clock.speed ≠ 0 →
      ∃ t, exec (.lineFilterEdge 3) s = .next t ∧ t.lines.filterL3 = { active := true, count := 0 } ∧
        t.ctrl = { s.ctrl with state := .holding, stopForm := none } ∧
        t.clock.ramp = .down .hold (ceilDiv s.clock.speed s.clock.cfg.holdRamp) ∧
        t.console = queueStateReport s.console .holding s.ctrl.pass s.ctrl.entry ∧
        { t with lines := s.lines, ctrl := s.ctrl, clock := s.clock, console := s.console } = s

/-! ### The console link -/

/-- R191, R195: STATUS only replies; a taken frame of no request kind gets BAD_FORM under its own kind; a request with no
fields that carries some gets BAD_FORM. The layout of STATUS's reply follows R195's table, with the presence bytes and widths
of entries 14 and 16, the model's choice. -/
def Obligations.StatusAndUnknownKind : Prop :=
  ∀ (tag b : Byte) (bs : List Byte) (s : State),
    exec (.status tag []) s =
      .next
        (s.reply 0x51 tag .ok
          (controllerBytes s ++ clockBytes s ++ overAxes s.configured (axisStatusBytes s) ++ faultSummaryBytes s ++
            u16 s.store.free ++ u16 (stagedKeys s.store) ++ consoleBytes s.console)) ∧
    (∀ kind : Byte, exec (.unknownKind kind tag bs) s = .next (s.reply kind tag .badForm [])) ∧
    exec (.status tag (b :: bs)) s = .next (s.reply 0x51 tag .badForm []) ∧
    exec (.moveList tag (b :: bs)) s = .next (s.reply 0x03 tag .badForm []) ∧
    exec (.clockGet tag (b :: bs)) s = .next (s.reply 0x19 tag .badForm []) ∧
    exec (.takeGet tag (b :: bs)) s = .next (s.reply 0x21 tag .badForm []) ∧
    exec (.check tag (b :: bs)) s = .next (s.reply 0x22 tag .badForm []) ∧
    exec (.go tag (b :: bs)) s = .next (s.reply 0x24 tag .badForm []) ∧
    exec (.hold tag (b :: bs)) s = .next (s.reply 0x25 tag .badForm []) ∧
    exec (.stop tag (b :: bs)) s = .next (s.reply 0x26 tag .badForm []) ∧
    exec (.returnToPath tag (b :: bs)) s = .next (s.reply 0x27 tag .badForm []) ∧
    exec (.wheelGet tag (b :: bs)) s = .next (s.reply 0x2B tag .badForm []) ∧
    exec (.linkGet tag (b :: bs)) s = .next (s.reply 0x33 tag .badForm []) ∧
    exec (.clearFaults tag (b :: bs)) s = .next (s.reply 0x3A tag .badForm []) ∧
    exec (.logIndex tag (b :: bs)) s = .next (s.reply 0x42 tag .badForm []) ∧
    exec (.lineRead tag (b :: bs)) s = .next (s.reply 0x49 tag .badForm []) ∧
    exec (.cueGet tag (b :: bs)) s = .next (s.reply 0x4B tag .badForm [])

/-- R191, R192, R193, Table 11-5: TAKE_REQUEST takes the oldest buffered frame and runs the request its kind names, when at least 8
positions of the output queue are free; another kind is answered BAD_FORM; with fewer positions free the frame waits, and with no
frame nothing changes (the model's choice, entry 4). MESSAGE_SEND sends the oldest message as its frame, and the oldest
held message takes the position it leaves; a FAULT report carries the fault set as it stands then. A message that becomes due joins the
newest end, behind every message that is not a FRAME report; the queue gives up at most its newest FRAME report for it, and only
when it is full, counting it as skipped. -/
def Obligations.TakingAndSendingTheOldest : Prop :=
  (∀ s : State,
    (∀ (f : InFrame) (rest : List InFrame), s.console.inBuf = f :: rest → s.console.outQ.length + 8 ≤ 64 →
      (∃ t, exec .takeRequest s = .next t ∧
        exec (Instr.ofFrame f.kind f.tag f.body) { s with console := { s.console with inBuf := rest } } = .next t ∧
        t.console.inBuf = rest ∧ t.console.rx = s.console.rx) ∧
      (requestKinds.contains f.kind = false →
        exec .takeRequest s =
          .next
            (({ s with console := { s.console with inBuf := rest } }).reply f.kind f.tag .badForm []))) ∧
    (∀ kind tag body, requestKinds.contains kind = false → Instr.ofFrame kind tag body = .unknownKind kind tag body) ∧
    (64 < s.console.outQ.length + 8 → exec .takeRequest s = .next s) ∧
    (s.console.inBuf = [] → exec .takeRequest s = .next s)) ∧
  (∀ (s : State) (m : Message) (rest : List Message), s.console.outQ = m :: rest → rest.length < 64 →
    (∃ t, exec .messageSend s = .next t ∧ { t with console := s.console } = s ∧
      t.console.sending = messageBytes s.mon m ∧
      t.console.outQ ++ t.console.held = rest ++ s.console.held ∧
      t.console.outQ.length = min 64 (rest.length + s.console.held.length) ∧
      { t.console with outQ := s.console.outQ, held := s.console.held, sending := s.console.sending } = s.console) ∧
    (∀ kind tag body, m = .reply kind tag body → messageBytes s.mon m = frameBytes kind tag body) ∧
    (m = .fault → messageBytes s.mon m = frameBytes 0xE1 0 (faultBytes s.mon))) ∧
  ∀ (c : Console) (m : Message), ConsoleLaw c → isFrameReport m = false →
    ((queueMessage c m).outQ ++ (queueMessage c m).held).filter (!isFrameReport ·) =
        (c.outQ ++ c.held).filter (!isFrameReport ·) ++ [m] ∧
    ((queueMessage c m).outQ ++ (queueMessage c m).held).getLast? = some m ∧
    (c.outQ.length < 64 →
      (queueMessage c m).outQ = c.outQ ++ [m] ∧ (queueMessage c m).held = [] ∧ (queueMessage c m).skipped = c.skipped) ∧
    (c.outQ.length = 64 →
      (c.outQ.any isFrameReport = false →
        (queueMessage c m).outQ = c.outQ ∧ (queueMessage c m).held = c.held ++ [m] ∧
          (queueMessage c m).skipped = c.skipped) ∧
      (c.outQ.any isFrameReport = true →
        ∃ before report after, c.outQ = before ++ report :: after ∧ isFrameReport report = true ∧
          after.any isFrameReport = false ∧ (queueMessage c m).outQ = before ++ after ++ [m] ∧
          (queueMessage c m).held = [] ∧ (queueMessage c m).skipped = min 255 (c.skipped + 1)))

/-- R189, R190: the bytes of a good frame reach the receiver as that frame, whatever its kind, tag and body; bytes that are no start
byte are passed over; and it makes no difference how the bytes are divided among arrivals. After the gap of 1 ms nothing of a frame
that is not complete is left; a lone one is counted once as bad; with no frame under way nothing changes (DESIGN CHOICE, entry 4).
That every candidate left is discarded at one gap is the model's choice (entry 13). -/
def Obligations.FramesAreReceivedWhole : Prop :=
  (∀ (kind tag : Byte) (body : List Byte) (s : State), body.length ≤ 4096 → s.console.rx = [] →
    exec (.frameReceive (frameBytes kind tag body)) s =
      .next
        { s with
          console :=
            if s.console.inBuf.length < 4 then { s.console with inBuf := s.console.inBuf ++ [{ kind, tag, body }] }
            else { s.console with discarded := min 65535 (s.console.discarded + 1) } }) ∧
  (∀ (bytes : List Byte) (s : State), s.console.rx = [] → bytes.contains startByte = false →
    exec (.frameReceive bytes) s = .next s) ∧
  (∀ (xs ys : List Byte) (c : Console), receive (receive c xs) ys = receive c (xs ++ ys)) ∧
  ∀ s : State,
    (∃ t, exec .interByteTimeout s = .next t ∧ t.console.rx = [] ∧
      { t with console := s.console } = s ∧ t.console.outQ = s.console.outQ ∧ t.console.held = s.console.held) ∧
    (s.console.rx = [] → exec .interByteTimeout s = .next s) ∧
    ∀ bytes : List Byte, s.console.rx = startByte :: bytes → bytes.contains startByte = false →
      exec .interByteTimeout s =
        .next { s with console := { s.console with rx := [], badFrames := min 65535 (s.console.badFrames + 1) } }

/-- R190, R192, R193, R194: the console link's law holds after every command if it held before: its queues and counts keep their
bounds, messages are held only behind a full queue, and at most one STATE and one FAULT report await sending. -/
def Obligations.EveryCommandKeepsTheConsoleLaw : Prop :=
  ∀ (c : Instr) (s t : State), ConsoleLaw s.console → exec c s = .next t → ConsoleLaw t.console

/-! ### The servo period -/

/-- R44, R49, R58, R61, R67, R78, R83, R125, R182, R184, R186, R187: with nothing left of the period before and the e-stop input inactive,
SERVO_TIMER_EXPIRY counts the period, the trigger, the camera-lost timer and the pending clears, and samples the pins: each selected
filter and the edge detector take their sample. A clock that is ADVANCING takes one advance; its crossing fires the cues of its pass
frame and waits for the batch; a landing ends the pass or leads to HELD; a clock that is not ADVANCING stands. Each configured axis gets its setpoint: by its drive, by
its generator, by the path, or the one it had; "all at rest" ends a jog or a stop of the generator. The first attempt of the lowest
configured axis is granted. The model's choices: the order of what an expiry does (entry 7); that a filter, a trigger or a pending
clear whose count has reached its end stands so until its event is taken (entry 1); that a period lowers the camera-lost timer by T
(entry 2); that the pins are seen at the expiry (entry 3); that the edge detector is armed only in FOLLOWER mode and else stands
(entry 32); that a setpoint not formed by the evaluator has CLAMPED clear (entry 10).
-/
def Obligations.ServoPeriodAdvancesTheClock : Prop :=
  ∀ (pins : BitVec 12) (s : State) (c : Clock),
    c =
      { s.clock with
        lostTimer := s.clock.lostTimer.map (· - s.clock.period), trigger := s.clock.trigger.map (· - 1) } →
    Quiet s → s.link.period = none → s.lines.filterL1.active = false →
    s.clock.period = 1000000 / s.clock.cfg.servoRate →
    ∃ t, exec (.servoTimerExpiry pins) s = .next t ∧
      t.mon.periodCount = s.mon.periodCount + 1 ∧ t.axes = s.axes ∧ t.clock.cfg = s.clock.cfg ∧
      t.clock.period = s.clock.period ∧ t.wheels = s.wheels ∧
      (t.lines.pins = pins ∧ t.lines.cues = s.lines.cues ∧
        t.lines.edgeArmed =
          (s.lines.edgeArmed ||
            ((s.lines.lines[(0 : Line)]).selected && decide (s.clock.cfg.sync = .follower) && !pins.getLsbD 0)) ∧
        (∀ l f, filterOf s.lines l = some f → filterOf t.lines l =
          if (s.lines.lines[l]).selected = true then
            some
              { active := f.active
                count := if (pins.getLsbD l.val != decide (l = 1)) = f.active then 0 else min 4 (f.count + 1) }
          else some f) ∧
        ((s.lines.cues = [] ∨ s.clock.state ≠ .advancing) → ∀ l : Line, t.lines.lines[l] =
          { s.lines.lines[l] with pendingClear := (s.lines.lines[l]).pendingClear.map (· - 1) })) ∧
      (∀ e c' h kind, s.clock.state = .advancing → s.currentEntry? = some e → s.ctrl.pass = some kind →
        advanceClock c s.ctrl.entry e (s.runEntry? (s.ctrl.entry + 1)) = (c', h) → ∀ l : Line, ∀ counted : RigLine,
        counted = { s.lines.lines[l] with pendingClear := (s.lines.lines[l]).pendingClear.map (· - 1) } →
        t.lines.lines[l] =
          match h.crossing with
          | none => counted
          | some n => lineAfterCues s.lines.cues n kind l counted) ∧
      (∀ e c' h, s.clock.state = .advancing → s.currentEntry? = some e →
        advanceClock c s.ctrl.entry e (s.runEntry? (s.ctrl.entry + 1)) = (c', h) →
        (h.landed = false → s.ctrl.state ≠ .jogging → s.ctrl.stopForm ≠ some .generator →
          t.ctrl.state = s.ctrl.state ∧ t.ctrl.entry = h.entry ∧
          (h.crossing = none → t.clock = c' ∧ t.log = s.log) ∧
          (∀ n, h.crossing = some n →
            t.clock = (if s.clock.cfg.sync = .master then { c' with trigger := some s.clock.cfg.trigWidth } else c') ∧
            t.log.crossing =
              some
                { passFrame := n, entry := h.entry, time := c'.time, interval := s.console.interval
                  mask := s.console.mask })) ∧
        (h.landed = true → s.ctrl.state = .running → s.ctrl.pass.isSome = true → t.clock.time = e.endFrame * 65536 ∧
          (s.ctrl.entry < s.ctrl.runList.length →
            t.ctrl.state = .held ∧ t.ctrl.landing = true ∧ t.ctrl.entry = s.ctrl.entry ∧ t.clock.state = .atRest) ∧
          (s.ctrl.runList.length ≤ s.ctrl.entry →
            t.ctrl.state = .idle ∧ t.ctrl.pass = none ∧ t.clock.state = .stopped ∧
            (h.crossing = none → PassCloses s t .complete) ∧
            (h.crossing.isSome = true → t.log.closing = some .complete ∧ t.log.recording = s.log.recording))) ∧
        (∀ a e', s.configured a = true → s.driveOf a = .on → s.mon.detached[a] = [] → (s.gen.recs[a]).mode = .idle →
          s.runEntry? h.entry = some e' →
          ∀ held v, held = (match s.ctrl.armSetpoints with
              | some arm => if h.entry = 1 then arm[a] else s.ctrl.setpoints[a]
              | none => s.ctrl.setpoints[a]) →
            v = evaluateTrack s.axes.recs[a] s.axes.maps[a] (s.trackOf e'.slot a) c'.time
              (held - (s.axes.recs[a]).origin) →
            t.ctrl.setpoints[a] = v.setpoint ∧ t.ctrl.clamped[a] = v.clamped)) ∧
      (∀ e inc, s.ctrl.state = .running → s.clock.state = .advancing → s.clock.cfg.sync ≠ .follower →
        s.clock.ramp = .none → s.currentEntry? = some e →
        inc = (s.clock.cfg.frameRate * (e.speed * 1000) * s.clock.period * 65536 + s.clock.rem) / 1000000000000000 →
        inc < toEntryEnd s.clock e →
        t.ctrl.state = .running ∧ t.clock.state = .advancing ∧ t.clock.speed = e.speed * 1000 ∧
        t.clock.time = moveTime s.clock.dir s.clock.time inc ∧
        t.clock.rem =
          (s.clock.cfg.frameRate * (e.speed * 1000) * s.clock.period * 65536 + s.clock.rem) % 1000000000000000) ∧
      (s.clock.state ≠ .advancing →
        ((s.ctrl.state ≠ .jogging ∨ s.ctrl.ret = none) → t.clock = c) ∧
        (s.ctrl.state ≠ .jogging → s.ctrl.stopForm = none → t.ctrl.state = s.ctrl.state) ∧
        (∀ a, s.configured a = true → s.driveOf a = .on → s.mon.detached[a] = [] → (s.gen.recs[a]).mode = .idle →
          t.ctrl.setpoints[a] = s.ctrl.setpoints[a] ∧ t.ctrl.clamped[a] = false)) ∧
      (∀ a, s.configured a = false → t.ctrl.setpoints[a] = s.ctrl.setpoints[a]) ∧
      (∀ a, s.configured a = true → s.driveOf a ≠ .on →
        t.ctrl.setpoints[a] = s.currentSetpoint a ∧ t.ctrl.clamped[a] = false) ∧
      (∀ (stepped : Axis → GenRec),
        (∀ a, stepped a =
          stepRecord s.axes.recs[a] s.wheels s.gen.captureBase s.clock.period (s.driveOf a) (s.currentSetpoint a) a
            s.gen.recs[a]) →
        (∀ a, s.configured a = true → s.driveOf a = .on → s.mon.detached[a] = [] → (s.gen.recs[a]).mode ≠ .idle →
          t.ctrl.setpoints[a] = (stepped a).x ∧ t.ctrl.clamped[a] = false) ∧
        (s.clock.state ≠ .advancing → (∀ a : Axis, s.mon.detached[a] = []) →
          (∀ a, s.configured a = true → genAtRest (stepped a) = true ∧ jogInForce (stepped a) = false) →
          (s.ctrl.state = .stopping → s.ctrl.stopForm = some .generator → t.ctrl.state = .idle) ∧
          (s.ctrl.state = .faultStopping → s.ctrl.stopForm = some .generator → t.ctrl.state = .faulted) ∧
          (s.ctrl.state = .jogging → s.ctrl.ret = none → t.ctrl.state = .idle) ∧
          (∀ r, s.ctrl.state = .jogging → s.ctrl.ret = some r →
            t.ctrl.state = .held ∧ t.ctrl.entry = r.entry ∧ t.ctrl.ret = some r ∧ t.clock.state = .atRest ∧
              t.clock.time = r.time))) ∧
      ∀ (a : Axis) (rest : List Axis), s.configuredAxes = a :: rest →
        t.link.period =
            some
              { left := s.clock.period / 25 - 1, axes := a :: rest, first := rest, retries := [], good := []
                current := .setpoint a false, agedDone := false } ∧
          (t.link.recs[a]).lastSent = t.currentSetpoint a

/-- After power-on reset every law of the device that the statements above carry from state to state holds (R3, R4, R20, R44, R66, R107,
R112, R119, R126, R148, R190). -/
def Obligations.TheLawsHoldAtReset : Prop :=
  StoreLaw State.reset.store ∧ OrderLaw State.reset ∧ ClockLaw State.reset ∧ CtrlLaw State.reset ∧
    LinkLaw State.reset ∧ SetpointLaw State.reset ∧ EstopLaw State.reset ∧ MonLaw State.reset.mon ∧
    LogLaw State.reset.log ∧ ConsoleLaw State.reset.console
end

