-- ==== Sys2Proof/Laws/Tables.lean ====
section
/-! SUPPORT. The tables: what `put`, `tabulate` and `fill` read as, and when two tables are equal. -/

namespace Sys2Proof.Machine

variable {n : Nat} {α : Type}

@[simp] theorem tabulate_getElem (f : Fin n → α) (i : Nat) (h : i < n) : (tabulate f)[i] = f ⟨i, h⟩ := by
  simp [tabulate]

@[simp] theorem fill_getElem (x : α) (i : Nat) (h : i < n) : (fill n x)[i] = x := by simp [fill]

@[simp] theorem put_getElem (v : Vector α n) (i : Fin n) (x : α) (j : Nat) (h : j < n) :
    (put v i x)[j] = if i.val = j then x else v[j] := by
  rw [put, Vector.getElem_set]

theorem tabulate_get (f : Fin n → α) (i : Fin n) : (tabulate f)[i] = f i := by simp

theorem put_get (v : Vector α n) (i j : Fin n) (x : α) : (put v i x)[j] = if i = j then x else v[j] := by
  simp [Fin.ext_iff]

theorem put_get_same (v : Vector α n) (i : Fin n) (x : α) : (put v i x)[i] = x := by simp

theorem put_get_other (v : Vector α n) {i j : Fin n} (x : α) (h : i ≠ j) : (put v i x)[j] = v[j] := by
  rw [put_get, if_neg h]

theorem table_ext {v w : Vector α n} (h : ∀ i : Fin n, v[i] = w[i]) : v = w :=
  Vector.ext fun i hi => h ⟨i, hi⟩

@[simp] theorem put_same (v : Vector α n) (i : Fin n) : put v i v[i] = v :=
  table_ext fun j => by
    rw [put_get]
    split
    · next h => rw [h]
    · rfl

@[simp] theorem put_put (v : Vector α n) (i : Fin n) (x y : α) : put (put v i x) i y = put v i y :=
  table_ext fun j => by
    simp only [put_get]
    split <;> rfl

theorem mem_allAxes (a : Axis) : a ∈ allAxes := by revert a; decide

theorem mem_allLines (l : Line) : l ∈ allLines := by revert l; decide

theorem mem_allMoveSlots (m : MoveSlot) : m ∈ allMoveSlots := by revert m; decide

theorem mem_allPassSlots (i : PassSlot) : i ∈ allPassSlots := by revert i; decide

theorem allAxes_nodup : allAxes.Nodup := by decide

theorem allMoveSlots_nodup : allMoveSlots.Nodup := by decide

end Sys2Proof.Machine
end

