-- ==== Sys2Proof/Laws/Bytes.lean ====
section
/-! SUPPORT. Reading what was written: each field reader gives back the value whose bytes stand at the head, with what
follows them. -/

namespace Sys2Proof.Machine

@[simp] theorem beBytes_length (n v : Nat) : (beBytes n v).length = n := by
  induction n with
  | zero => rfl
  | succ n ih => simp [beBytes, ih]

/-- One more byte at the low end of a number. -/
theorem beNat_append (bs cs : List Byte) : beNat (bs ++ cs) = beNat bs * 256 ^ cs.length + beNat cs := by
  have fold : ∀ (cs : List Byte) (n : Nat),
      cs.foldl (fun n b => n * 256 + b.toNat) n = n * 256 ^ cs.length + cs.foldl (fun n b => n * 256 + b.toNat) 0 := by
    intro cs
    induction cs with
    | nil => simp
    | cons c cs ih =>
      intro n
      rw [List.foldl_cons, List.foldl_cons, ih (n * 256 + c.toNat), ih (0 * 256 + c.toNat), List.length_cons]
      ring
  rw [beNat, List.foldl_append, fold cs]
  rfl

/-- A number below 256ⁿ is what its n bytes spell. -/
theorem beNat_beBytes (n v : Nat) (h : v < 256 ^ n) : beNat (beBytes n v) = v := by
  have key : ∀ (n v : Nat), beNat (beBytes n v) = v % 256 ^ n := by
    intro n
    induction n with
    | zero => intro v; simp [beBytes, beNat, Nat.mod_one]
    | succ n ih =>
      intro v
      have h1 : beBytes (n + 1) v = [BitVec.ofNat 8 (v / 256 ^ n)] ++ beBytes n v := rfl
      rw [h1, beNat_append, ih, beBytes_length]
      simp only [beNat, List.foldl_cons, List.foldl_nil, Nat.zero_mul, Nat.zero_add, BitVec.toNat_ofNat]
      have h2 : v % 256 ^ (n + 1) = v % 256 ^ n + 256 ^ n * (v / 256 ^ n % 256) := by rw [Nat.pow_succ, Nat.mod_mul]
      rw [h2, show (2 : Nat) ^ 8 = 256 from rfl]
      ring
  rw [key, Nat.mod_eq_of_lt h]

/-- A field reader gives back the number written and what follows it. -/
theorem readNat_beBytes (n v : Nat) (rest : List Byte) (h : v < 256 ^ n) :
    readNat n (beBytes n v ++ rest) = some (v, rest) := by
  simp [readNat, beNat_beBytes n v h]

theorem readI32_i32 (z : Int) (rest : List Byte) (h : fits32 z = true) : readI32 (i32 z ++ rest) = some (z, rest) := by
  simp only [fits32, minI32, maxI32, Bool.and_eq_true, decide_eq_true_eq] at h
  rw [readI32, i32, readNat_beBytes 4 _ rest (by omega)]
  simp only [Option.some.injEq, Prod.mk.injEq, and_true]
  split <;> omega

end Sys2Proof.Machine
end

