-- ==== Sys2Proof/Laws/Console.lean ====
section
/-! SUPPORT. What the operations of the output queue can do (R192 to R194). -/

namespace Sys2Proof.Machine

/-- The newest FRAME report leaves the queue; what stood before it and behind it stays in order. -/
theorem removeNewestFrame_some {q q' : List Message} (h : removeNewestFrame q = some q') :
    ∃ before report after, q = before ++ report :: after ∧ isFrameReport report = true ∧
      after.any isFrameReport = false ∧ q' = before ++ after := by
  induction q generalizing q' with
  | nil => cases h
  | cons m rest ih =>
    unfold removeNewestFrame at h
    split at h
    · next r hr =>
      cases h
      obtain ⟨before, report, after, h1, h2, h3, h4⟩ := ih hr
      exact ⟨m :: before, report, after, by rw [h1]; rfl, h2, h3, by rw [h4]; rfl⟩
    · next hn =>
      split at h
      · next hm =>
        cases h
        refine ⟨[], m, rest, rfl, hm, ?_, rfl⟩
        clear ih hm
        induction rest with
        | nil => rfl
        | cons x xs ih2 =>
          unfold removeNewestFrame at hn
          split at hn
          · cases hn
          · next hx =>
            split at hn
            · cases hn
            · next hm =>
              rw [List.any_cons, ih2 hx]
              simpa using hm
      · cases h

/-- A queue gives up no FRAME report exactly when it holds none. -/
theorem removeNewestFrame_none {q : List Message} : removeNewestFrame q = none ↔ q.any isFrameReport = false := by
  induction q with
  | nil => exact ⟨fun _ => rfl, fun _ => rfl⟩
  | cons m rest ih =>
    unfold removeNewestFrame
    cases hr : removeNewestFrame rest with
    | some r =>
      have hne : rest.any isFrameReport ≠ false := fun h => by rw [ih.mpr h] at hr; cases hr
      simp [Bool.eq_true_of_not_eq_false hne]
    | none =>
      have hf := ih.mp hr
      rw [List.any_cons, hf]
      cases hm : isFrameReport m <;> simp

/-- Refilling moves held messages to the queue and loses or reorders none. -/
@[simp] theorem refill_append (c : Console) : (refill c).outQ ++ (refill c).held = c.outQ ++ c.held := by
  simp [refill]

theorem refill_length (c : Console) (h : c.outQ.length ≤ queueSize) :
    (refill c).outQ.length = min queueSize (c.outQ.length + c.held.length) := by
  simp only [refill, List.length_append, List.length_take]
  omega

/-- Everything a message that becomes due can do. -/
theorem queueMessage_cases (c : Console) (m : Message) :
    (c.held = [] ∧ c.outQ.length < queueSize ∧ queueMessage c m = { c with outQ := c.outQ ++ [m] }) ∨
    (¬(c.held = [] ∧ c.outQ.length < queueSize) ∧
      ((c.outQ.any isFrameReport = false ∧ queueMessage c m = { c with held := c.held ++ [m] }) ∨
      ∃ q, removeNewestFrame c.outQ = some q ∧
        queueMessage c m = refill { c with outQ := q, held := c.held ++ [m], skipped := satSucc 255 c.skipped })) := by
  unfold queueMessage
  split
  · next h =>
    rw [Bool.and_eq_true, List.isEmpty_iff, decide_eq_true_eq] at h
    exact .inl ⟨h.1, h.2, rfl⟩
  · next h =>
    rw [Bool.and_eq_true, List.isEmpty_iff, decide_eq_true_eq] at h
    refine .inr ⟨h, ?_⟩
    split
    · next q hq => exact .inr ⟨q, hq, rfl⟩
    · next hq => exact .inl ⟨removeNewestFrame_none.mp hq, rfl⟩

end Sys2Proof.Machine
end

