-- ==== Sys2Proof/Laws/Cues.lean ====
section
/-! SUPPORT. What the firing of cues does to each line (R186). -/

namespace Sys2Proof.Machine

theorem kindsMatch_iff (k : CueKinds) (kind : PassKind) : kindsMatch k kind = true ↔
    k = .both ∨ (k = .play ∧ kind = .play) ∨ (k = .capture ∧ kind = .capture) := by
  cases k <;> cases kind <;> decide

/-- R186: the first entry acts on the line, where it is for it, and the others after it. -/
theorem lineAfterCues_cons (c : Cue) (cs : List Cue) (n : Nat) (kind : PassKind) (l : Line) (r : RigLine) :
    lineAfterCues (c :: cs) n kind l r = lineAfterCues cs n kind l
      (if c.line = l ∧ c.passFrame = n ∧ kindsMatch c.kinds kind = true then cueLine c.action r else r) := by
  simp only [kindsMatch_iff]
  rfl

/-- R186: a pass frame's cues, fired over the table of lines, leave each line as its own entries do. -/
theorem foldl_fireCue (cues : List Cue) (n : Nat) (kind : PassKind) (lines : Vector RigLine 12) (l : Line) :
    ((cuesAt cues n kind).foldl fireCue lines)[l] = lineAfterCues cues n kind l lines[l] := by
  induction cues generalizing lines with
  | nil => rfl
  | cons c cs ih =>
    rw [lineAfterCues_cons]
    by_cases hm : c.passFrame = n ∧ kindsMatch c.kinds kind = true
    · have : cuesAt (c :: cs) n kind = c :: cuesAt cs n kind := by simp [cuesAt, hm.1, hm.2]
      rw [this, List.foldl_cons, ih, fireCue, put_get]
      congr 1
      by_cases hl : c.line = l <;> simp [hl, hm.1, hm.2]
    · have : cuesAt (c :: cs) n kind = cuesAt cs n kind := by
        simp only [cuesAt, List.filter_cons]
        rw [if_neg]
        simpa using fun h => by simpa using fun h' => hm ⟨h, h'⟩
      rw [this, ih, if_neg fun h => hm h.2]

/-- R186: a line after the cues of a pass frame of a pass have fired. -/
theorem fireCues_line (s : State) (n : Nat) (kind : PassKind) (h : s.ctrl.pass = some kind) (l : Line) :
    (s.fireCues n).lines.lines[l] = lineAfterCues s.lines.cues n kind l s.lines.lines[l] := by
  simp only [State.fireCues, h]
  exact foldl_fireCue _ _ _ _ _

end Sys2Proof.Machine
end

