-- ==== Sys2Proof/Laws/Link.lean ====
section
/-! SUPPORT. What the grant of a slot does with the acyclic queue (R107, R111, R121). -/

namespace Sys2Proof.Machine

variable {p : LinkPeriod} {x : Acyclic}

/-- A transaction of an axis that the period has not may not claim. -/
theorem mayClaim_new (h : p.axes.contains x.axis = false) : mayClaim p x = false := by rw [mayClaim, h]; rfl

/-- R111: transactions that may not claim are passed over, and the first that may is launched. -/
theorem launch_append (new rest : List Acyclic) (hn : ∀ y ∈ new, mayClaim p y = false) (hx : mayClaim p x = true) :
    launch p (new ++ x :: rest) = new ++ { x with flying := true } :: rest := by
  induction new with
  | nil => simp [launch, hx]
  | cons y ys ih => simp [launch, hn y (by simp), ih fun z hz => hn z (by simp [hz])]

/-- R121: the transaction whose frame is sent is the one launched. -/
theorem find_mayClaim (new rest : List Acyclic) (hn : ∀ y ∈ new, mayClaim p y = false) (hx : mayClaim p x = true) :
    (new ++ x :: rest).find? (mayClaim p) = some x := by
  rw [List.find?_append, List.find?_eq_none.mpr fun y hy => by simp [hn y hy]]
  simp [hx]

/-- R120: launching keeps the number of transactions queued. -/
@[simp] theorem launch_length (q : List Acyclic) : (launch p q).length = q.length := by
  induction q with
  | nil => rfl
  | cons y ys ih =>
    rw [launch]
    split <;> simp [ih]

end Sys2Proof.Machine
end

