-- ==== Sys2Proof/Laws/Monitor.lean ====
section
/-! SUPPORT. What the monitor unit's shared operations can do: an evaluation of an instance (R136, R138), a release (R141). -/

namespace Sys2Proof.Machine

@[simp] theorem countRun_active (i : CondInst) (b : Bool) : (countRun i b).active = i.active := by cases b <;> rfl

@[simp] theorem countRun_latched (i : CondInst) (b : Bool) : (countRun i b).latched = i.latched := by cases b <;> rfl

@[simp] theorem countRun_last (i : CondInst) (b : Bool) : (countRun i b).last = b := by cases b <;> rfl

/-- Of the two runs one is 0 and neither passes 16, when the runs were at most 16. -/
theorem countRun_runs (i : CondInst) (b : Bool) :
    (countRun i b).trueRun ≤ 16 ∧ (countRun i b).falseRun ≤ 16 ∧
      ((countRun i b).trueRun = 0 ∨ (countRun i b).falseRun = 0) := by
  cases b <;> simp [countRun, satSucc]

/-- Everything an evaluation can do to an instance: activate it, deactivate it, or count. -/
theorem evaluateInst_cases (m : Monitor) (stamp : Stamp) (i : CondInst) (e : Evidence) :
    (e.truth = true ∧ i.active = false ∧ (m.deglitch ≤ (countRun i e.truth).trueRun ∨ e.force = true) ∧
      evaluateInst m stamp i e =
        { countRun i e.truth with
          active := true, value := e.value, cause := e.cause, stamp := some stamp
          latched := match m.mode with | .latched => some m.action | _ => i.latched }) ∨
    (e.truth = false ∧ i.active = true ∧ m.deglitch ≤ (countRun i e.truth).falseRun ∧
      evaluateInst m stamp i e = { countRun i e.truth with active := false }) ∨
    evaluateInst m stamp i e = countRun i e.truth := by
  unfold evaluateInst
  simp only
  split
  · next h =>
    simp only [activates, countRun_active, Bool.and_eq_true, Bool.not_eq_true', Bool.or_eq_true, decide_eq_true_eq] at h
    exact .inl ⟨h.1.1, h.1.2, h.2, by cases hm : m.mode <;> simp only [countRun_latched]⟩
  · split
    · next h =>
      simp only [deactivates, countRun_active, Bool.and_eq_true, Bool.not_eq_true', decide_eq_true_eq] at h
      exact .inr (.inl ⟨h.1.1, h.1.2, h.2, rfl⟩)
    · exact .inr (.inr rfl)

/-- The evaluation's truth is what the instance remembers, whichever way it goes. -/
@[simp] theorem evaluateInst_last (m : Monitor) (stamp : Stamp) (i : CondInst) (e : Evidence) :
    (evaluateInst m stamp i e).last = e.truth := by
  obtain ⟨-, -, -, h⟩ | ⟨-, -, -, h⟩ | h := evaluateInst_cases m stamp i e <;> rw [h] <;> simp

/-- An axis is released, its generator's record and its detachments changed and nothing else, or nothing changes. -/
theorem releaseAxis_cases (s : State) (a : Axis) :
    (s.releasable a = true ∧
      s.releaseAxis a =
        { s.setGen a (s.releasedGen a) with mon := { s.mon with detached := put s.mon.detached a [] } }) ∨
    (s.releasable a = false ∧ s.releaseAxis a = s) := by
  unfold State.releaseAxis
  split
  · next h => exact .inl ⟨h, rfl⟩
  · next h => exact .inr ⟨by simpa using h, rfl⟩

end Sys2Proof.Machine
end

