-- ==== Sys2Proof/Laws/Operands.lean ====
section
/-! SUPPORT. Each request's operand reader gives back the operands whose fields its body was laid out from. -/

namespace Sys2Proof.Machine

/-! ### Numbers that name things -/

@[simp] theorem moveSlotOf_number (m : MoveSlot) : moveSlotOf (m.val + 1) = some m := by
  have := m.isLt
  simp [moveSlotOf, show m.val + 1 ≤ 32 by omega]

@[simp] theorem passSlotOf_number (i : PassSlot) : passSlotOf (i.val + 1) = some i := by
  have := i.isLt
  simp [passSlotOf, show i.val + 1 ≤ 4 by omega]

@[simp] theorem axisOf_number (a : Axis) : axisOf a.val = some a := by simp [axisOf]

@[simp] theorem lineOf_number (l : Line) : lineOf l.val = some l := by simp [lineOf]

@[simp] theorem wheelOf_number (w : Wheel) : wheelOf w.val = some w := by simp [wheelOf]

@[simp] theorem boolOf_flag (b : Bool) : boolOf (if b then 1 else 0) = some b := by cases b <;> rfl

/-! ### Bytes -/

theorem u8_eq (v : Nat) : u8 v = [BitVec.ofNat 8 v] := by simp [u8, beBytes]

theorem u16_eq (v : Nat) : u16 v = [BitVec.ofNat 8 (v / 256), BitVec.ofNat 8 v] := by simp [u16, beBytes]

theorem u32_eq (v : Nat) :
    u32 v = [BitVec.ofNat 8 (v / 16777216), BitVec.ofNat 8 (v / 65536), BitVec.ofNat 8 (v / 256), BitVec.ofNat 8 v] := by
  simp [u32, beBytes]

theorem byte_toNat (v : Nat) (h : v < 256) : (BitVec.ofNat 8 v).toNat = v := by simp; omega

@[simp] theorem slot_byte (m : MoveSlot) : (BitVec.ofNat 8 (m.val + 1)).toNat = m.val + 1 :=
  byte_toNat _ (by have := m.isLt; omega)

@[simp] theorem pass_slot_byte (i : PassSlot) : (BitVec.ofNat 8 (i.val + 1)).toNat = i.val + 1 :=
  byte_toNat _ (by have := i.isLt; omega)

@[simp] theorem axis_byte (a : Axis) : (BitVec.ofNat 8 a.val).toNat = a.val := byte_toNat _ (by have := a.isLt; omega)

@[simp] theorem line_byte (l : Line) : (BitVec.ofNat 8 l.val).toNat = l.val := byte_toNat _ (by have := l.isLt; omega)

@[simp] theorem wheel_byte (w : Wheel) : (BitVec.ofNat 8 w.val).toNat = w.val := byte_toNat _ (by have := w.isLt; omega)

theorem beNat_u16 (v : Nat) (h : v < 65536) : beNat [BitVec.ofNat 8 (v / 256), BitVec.ofNat 8 v] = v := by
  rw [← u16_eq]
  exact beNat_beBytes 2 v (by omega)

theorem beNat_u32 (v : Nat) (h : v < 4294967296) :
    beNat [BitVec.ofNat 8 (v / 16777216), BitVec.ofNat 8 (v / 65536), BitVec.ofNat 8 (v / 256), BitVec.ofNat 8 v] = v := by
  rw [← u32_eq]
  exact beNat_beBytes 4 v (by omega)

/-! ### Lists of items -/

/-- One item off a body that is not empty. -/
theorem readAll_step {β : Type} (read : List Byte → Option (β × List Byte)) (fuel : Nat) {bs rest : List Byte} {y : β}
    {ys : List β} (hne : bs ≠ []) (h1 : read bs = some (y, rest)) (h2 : readAll read fuel rest = some ys) :
    readAll read (fuel + 1) bs = some (y :: ys) := by
  cases bs with
  | nil => exact absurd rfl hne
  | cons b bs => simp [readAll, h1, h2]

/-- Items that each read back, laid one after another, read back as a list. -/
theorem readAll_flatMap {α β : Type} (read : List Byte → Option (β × List Byte)) (write : α → List Byte) (seen : α → β)
    (back : ∀ x rest, read (write x ++ rest) = some (seen x, rest)) (some_byte : ∀ x, write x ≠ []) :
    ∀ (xs : List α) (fuel : Nat), xs.length ≤ fuel → readAll read fuel (xs.flatMap write) = some (xs.map seen) := by
  intro xs
  induction xs with
  | nil => intro fuel _; cases fuel <;> rfl
  | cons x xs ih =>
    intro fuel hf
    obtain ⟨fuel, rfl⟩ : ∃ n, fuel = n + 1 := ⟨fuel - 1, by simp at hf; omega⟩
    rw [List.flatMap_cons]
    exact readAll_step read fuel (by simp [some_byte x]) (back x _) (ih fuel (by simp at hf; omega))

theorem length_le_flatMap {α : Type} (write : α → List Byte) (some_byte : ∀ x, write x ≠ []) (xs : List α) :
    xs.length ≤ (xs.flatMap write).length := by
  induction xs with
  | nil => simp
  | cons x xs ih =>
    have := List.length_pos_iff.mpr (some_byte x)
    simp only [List.flatMap_cons, List.length_append, List.length_cons]
    omega

/-! ### Key records (Table 11-2) -/

/-- The record that a key's bytes carry. -/
def rawOfKey (k : Key) : RawKey :=
  { time := k.time, value := k.value, tangents := k.tangents
    shape :=
      BitVec.ofNat 8 (segmentNumber k.segment + match k.tangents with | .auto => 0 | .set _ _ => 4) }

/-- The fields of a key lie in their ranges (Table 1-1). -/
def KeyFits (k : Key) : Prop :=
  k.time < 4294967296 ∧ fits32 k.value = true ∧
    match k.tangents with
    | .auto => True
    | .set i o => fits32 i = true ∧ fits32 o = true

theorem readKey_keyBytes (k : Key) (rest : List Byte) (h : KeyFits k) :
    readKey (keyBytes k ++ rest) = some (rawOfKey k, rest) := by
  obtain ⟨ht, hv, hg⟩ := h
  obtain ⟨time, value, segment, tangents⟩ := k
  cases tangents with
  | auto =>
    simp only [keyBytes, u8_eq, List.append_assoc, readKey, rawOfKey]
    rw [u32, readNat_beBytes 4 time _ (by simpa using ht)]
    simp only []
    rw [readI32_i32 value _ hv]
    cases segment <;> rfl
  | set i o =>
    simp only [keyBytes, u8_eq, List.append_assoc, readKey, rawOfKey]
    rw [u32, readNat_beBytes 4 time _ (by simpa using ht)]
    simp only []
    rw [readI32_i32 value _ hv]
    simp only [List.singleton_append]
    have hb : (BitVec.ofNat 8 (segmentNumber segment + 4)).getLsbD 2 = true := by cases segment <;> rfl
    rw [if_pos hb, readI32_i32 i _ hg.1]
    simp only []
    rw [readI32_i32 o _ hg.2]

theorem keyOfRaw_rawOfKey (k : Key) : keyOfRaw (rawOfKey k) = some k := by
  obtain ⟨time, value, segment, tangents⟩ := k
  cases segment <;> cases tangents <;> simp [keyOfRaw, rawOfKey, segmentOf, segmentNumber]

theorem keysOfRaw_map (ks : List Key) : keysOfRaw (ks.map rawOfKey) = some ks := by
  induction ks with
  | nil => rfl
  | cons k ks ih => simp [keysOfRaw, keyOfRaw_rawOfKey, ih]

theorem keyBytes_ne_nil (k : Key) : keyBytes k ≠ [] := by simp [keyBytes, u32_eq]

/-- Key records laid one after another read back as the list of their records. -/
theorem readAll_keys (ks : List Key) (h : ∀ k ∈ ks, KeyFits k) (fuel : Nat) (hf : ks.length ≤ fuel) :
    readAll readKey fuel (ks.flatMap keyBytes) = some (ks.map rawOfKey) := by
  induction ks generalizing fuel with
  | nil => cases fuel <;> rfl
  | cons k ks ih =>
    obtain ⟨fuel, rfl⟩ : ∃ n, fuel = n + 1 := ⟨fuel - 1, by simp at hf; omega⟩
    rw [List.flatMap_cons]
    exact readAll_step readKey fuel (by simp [keyBytes_ne_nil]) (readKey_keyBytes k _ (h k (by simp)))
      (ih (fun x hx => h x (by simp [hx])) fuel (by simp at hf; omega))

/-! ### Store requests -/

theorem moveCreateOperands_bytes (n : Nat) (name : List Byte) (hn : n < 256) (hl : name.length < 256) :
    moveCreateOperands (u8 n ++ u8 name.length ++ name) = some (n, name) := by
  simp [u8_eq, moveCreateOperands, Nat.mod_eq_of_lt hn, Nat.mod_eq_of_lt hl]

theorem trackWriteOperands_bytes (slot axis mode : Nat) (ks : List Key) (hs : slot < 256) (ha : axis < 256)
    (hm : mode < 256) (h1 : 1 ≤ ks.length) (h2 : ks.length ≤ 64) (hk : ∀ k ∈ ks, KeyFits k) :
    trackWriteOperands (u8 slot ++ u8 axis ++ u8 mode ++ u16 ks.length ++ ks.flatMap keyBytes) =
      some { slot, axis, mode, keys := ks.map rawOfKey } := by
  simp only [u8_eq, u16_eq, List.cons_append, List.nil_append, trackWriteOperands,
    readAll_keys ks hk _ (length_le_flatMap keyBytes keyBytes_ne_nil ks), beNat_u16 ks.length (by omega),
    byte_toNat _ hs, byte_toNat _ ha, byte_toNat _ hm]
  simp [h1, h2]

theorem trackReadOperands_bytes (slot axis start count : Nat) (hs : slot < 256) (ha : axis < 256) (hi : start < 65536)
    (hc : count < 256) :
    trackReadOperands (u8 slot ++ u8 axis ++ u16 start ++ u8 count) = some { slot, axis, start, count } := by
  simp only [u8_eq, u16_eq, List.cons_append, List.nil_append, trackReadOperands,
    beNat_u16 start hi, byte_toNat _ hs, byte_toNat _ ha, byte_toNat _ hc]

theorem trackCopyOperands_bytes (a b c d : Nat) (ha : a < 256) (hb : b < 256) (hc : c < 256) (hd : d < 256) :
    trackCopyOperands (u8 a ++ u8 b ++ u8 c ++ u8 d) =
      some { fromSlot := a, fromAxis := b, toSlot := c, toAxis := d } := by
  simp only [u8_eq, List.cons_append, List.nil_append, trackCopyOperands, byte_toNat _ ha,
    byte_toNat _ hb, byte_toNat _ hc, byte_toNat _ hd]

theorem twoBytes_bytes (a b : Nat) (ha : a < 256) (hb : b < 256) : twoBytes (u8 a ++ u8 b) = some (a, b) := by
  simp only [u8_eq, List.cons_append, List.nil_append, twoBytes, byte_toNat _ ha, byte_toNat _ hb]

theorem oneByte_bytes (a : Nat) (ha : a < 256) : oneByte (u8 a) = some a := by
  simp only [u8_eq, oneByte, byte_toNat _ ha]

theorem oneMask_bytes (m : Nat) (hm : m < 65536) : oneMask (u16 m) = some m := by
  simp only [u16_eq, oneMask, beNat_u16 m hm]

theorem trackShiftOperands_bytes (slot axis : Nat) (time value : Int) (hs : slot < 256) (ha : axis < 256)
    (ht : fits32 time = true) (hv : fits32 value = true) :
    trackShiftOperands (u8 slot ++ u8 axis ++ i32 time ++ i32 value) = some { slot, axis, time, value } := by
  simp only [u8_eq, List.cons_append, List.nil_append, trackShiftOperands, readI32_i32 time _ ht]
  have := readI32_i32 value [] hv
  simp only [List.append_nil] at this
  simp only [this, atEnd, byte_toNat _ hs, byte_toNat _ ha, if_true]

theorem readKey_end (k : Key) (h : KeyFits k) : readKey (keyBytes k) = some (rawOfKey k, []) := by
  simpa using readKey_keyBytes k [] h

theorem keyEditOperands_bytes (slot axis index : Nat) (k : Key) (hs : slot < 256) (ha : axis < 256) (hi : index < 65536)
    (h : KeyFits k) :
    keyEditOperands (u8 slot ++ u8 axis ++ u16 index ++ keyBytes k) = some { slot, axis, index, key := rawOfKey k } := by
  simp only [u8_eq, u16_eq, List.cons_append, List.nil_append, keyEditOperands, readKey_end k h, atEnd,
    if_true, beNat_u16 index hi, byte_toNat _ hs, byte_toNat _ ha]

theorem keyInsertOperands_bytes (slot axis : Nat) (k : Key) (hs : slot < 256) (ha : axis < 256) (h : KeyFits k) :
    keyInsertOperands (u8 slot ++ u8 axis ++ keyBytes k) = some { slot, axis, key := rawOfKey k } := by
  simp only [u8_eq, List.cons_append, List.nil_append, keyInsertOperands, readKey_end k h, atEnd,
    if_true, byte_toNat _ hs, byte_toNat _ ha]

theorem keyDeleteOperands_bytes (slot axis index : Nat) (hs : slot < 256) (ha : axis < 256) (hi : index < 65536) :
    keyDeleteOperands (u8 slot ++ u8 axis ++ u16 index) = some { slot, axis, index } := by
  simp only [u8_eq, u16_eq, List.cons_append, List.nil_append, keyDeleteOperands, beNat_u16 index hi,
    byte_toNat _ hs, byte_toNat _ ha]

end Sys2Proof.Machine
end

