-- ==== Sys2Proof/Laws/Requests.lean ====
section
/-! SUPPORT. What the shared operations of a request can do: its tests and their conclusion, a track replaced, a key staged. -/

namespace Sys2Proof.Machine

/-! ### Tests -/

/-- A test that must give a value lets the request go on exactly with that value. -/
theorem need_bind_ok {α β : Type} {st : Status} {o : Option α} {f : α → Tested β} {t : β} :
    (need st o >>= f) = .ok t ↔ ∃ x, o = some x ∧ f x = .ok t := by
  cases o with
  | none => exact ⟨fun h => (nomatch h), fun ⟨_, h, _⟩ => (nomatch h)⟩
  | some x =>
    constructor
    · intro h
      exact ⟨x, rfl, h⟩
    · rintro ⟨y, h, hf⟩
      cases h
      exact hf

/-- A test that must hold lets the request go on exactly when it holds. -/
theorem ensure_bind_ok {β : Type} {st : Status} {b : Bool} {f : Unit → Tested β} {t : β} :
    (ensure st b >>= f) = .ok t ↔ b = true ∧ f () = .ok t := by
  cases b with
  | false => exact ⟨fun h => (nomatch h), fun ⟨h, _⟩ => (nomatch h)⟩
  | true => exact ⟨fun h => ⟨rfl, h⟩, fun h => h.2⟩

/-- A request answers the state its accepted form leaves, or changes nothing but the output queue. -/
theorem conclude_cases {s t : State} {kind tag : Byte} {r : Tested State} (h : conclude s kind tag r = .next t) :
    r = .ok t ∨ ∃ e, r = .error e ∧ t = s.reply kind tag e.status e.extra := by
  cases r with
  | ok u =>
    cases h
    exact .inl rfl
  | error e =>
    cases h
    exact .inr ⟨e, rfl, rfl⟩

/-! ### Tracks -/

theorem trackOfKeys_getD (ks : List Key) : (trackOfKeys ks).getD [] = ks := by
  unfold trackOfKeys
  split
  · next h => rw [h]; rfl
  · rfl

/-- A replaced track is the one slot and axis that changes; the free keys gain the old keys and lose the new. -/
theorem replaceTrack_spec (st : Store) (m : MoveSlot) (mv : Move) (a : Axis) (ks : List Key) :
    (replaceTrack st m mv a ks).moves[m] = some { mv with tracks := put mv.tracks a (trackOfKeys ks) } ∧
      (∀ m', m' ≠ m → (replaceTrack st m mv a ks).moves[m'] = st.moves[m']) ∧
      (replaceTrack st m mv a ks).free = st.free + trackCount mv a - ks.length ∧
      (replaceTrack st m mv a ks).staging = st.staging := by
  refine ⟨put_get_same .., fun m' h => put_get_other _ _ (Ne.symm h), rfl, rfl⟩

/-- Everything one staged key can do: nothing, a refusal that changes no key, or one key moved from the free keys to its list. -/
theorem stageKey_cases (st : Store) (n : Nat) (key : Key) :
    stageKey st n key = (st, false) ∨
    (st.free = 0 ∧ stageKey st n key = ({ st with poolRefused := true }, true)) ∨
    (∃ l, st.staging[n]? = some l ∧ maxTrackKeys ≤ l.keys.length ∧
      stageKey st n key = ({ st with staging := st.staging.set n { l with closed := true } }, true)) ∨
    ∃ l, st.staging[n]? = some l ∧ st.free ≠ 0 ∧ l.keys.length < maxTrackKeys ∧
      stageKey st n key =
        ({ st with staging := st.staging.set n { l with keys := l.keys ++ [key] }, free := st.free - 1 }, false) := by
  unfold stageKey
  split
  · exact .inl rfl
  · next l hl =>
    split
    · exact .inl rfl
    · split
      · next h => exact .inr (.inl ⟨h, rfl⟩)
      · next hf =>
        split
        · next h => exact .inr (.inr (.inl ⟨l, hl, h, rfl⟩))
        · next h => exact .inr (.inr (.inr ⟨l, hl, hf, Nat.lt_of_not_le h, rfl⟩))

end Sys2Proof.Machine
end

