-- ==== Sys2Proof/Laws/Servo.lean ====
section
/-! SUPPORT. A state in which nothing of the period before is left: the operations that finish that period change nothing. -/

namespace Sys2Proof.Machine

/-- A fold each of whose steps leaves the state leaves it. -/
theorem foldl_fixed {α β : Type} (f : β → α → β) (s : β) (h : ∀ x, f s x = s) (xs : List α) : xs.foldl f s = s := by
  induction xs with
  | nil => rfl
  | cons x xs ih => rw [List.foldl_cons, h x, ih]

variable {s : State}

theorem Quiet.takeTriggerEnd (h : Quiet s) : s.takeTriggerEnd = s := if_neg h.trigger

theorem Quiet.takeClear (h : Quiet s) (l : Line) : s.takeClear l = s := if_neg (h.clears l)

theorem Quiet.takeEdge (h : Quiet s) (l : Line) : s.takeEdge l = s := by
  have := h.edges l
  rw [Option.isNone_iff_eq_none] at this
  simp only [State.takeEdge, this]

theorem Quiet.takeRampEnd (h : Quiet s) : s.takeRampEnd = s := if_neg (by rw [h.ramp]; decide)

theorem Quiet.enableTimesOut (h : Quiet s) (a : Axis) : s.enableTimesOut a = s := if_neg (by rw [h.enables a]; decide)

theorem Quiet.takeArrival (h : Quiet s) : s.takeArrival = s := by
  have := h.arrival
  unfold State.takeArrival
  rw [if_neg this]

/-- Nothing is due. -/
theorem Quiet.takeDue (h : Quiet s) : s.takeDue = s := by
  simp only [State.takeDue, h.takeTriggerEnd, foldl_fixed _ s h.takeClear, foldl_fixed _ s h.takeEdge, h.takeRampEnd,
    foldl_fixed _ s h.enableTimesOut, h.takeArrival]

theorem Quiet.takeCheckOverdue (h : Quiet s) : s.takeCheckOverdue = s := by
  unfold State.takeCheckOverdue
  split
  · next p hp =>
    have := h.check p hp
    rw [if_neg]
    simpa using fun _ => this
  · rfl

/-- No wall-time event is overdue. -/
theorem Quiet.takeOverdue (h : Quiet s) : s.takeOverdue = s := by
  have hr : ∀ a, s.takeRefreshOverdue a = s := fun a => if_neg (by rw [h.refresh a]; decide)
  simp only [State.takeOverdue, h.timer, Bool.false_eq_true, if_false, h.takeCheckOverdue, foldl_fixed _ s hr]

/-- With no slot in progress either, an expiry has nothing to finish. -/
theorem Quiet.finishBefore (h : Quiet s) (hp : s.link.period = none) : s.finishBefore = s := by
  have hf : s.finishPeriod = s := by simp only [State.finishPeriod, hp]
  simp only [State.finishBefore, h.takeDue, hf, h.takeOverdue]

end Sys2Proof.Machine
end

