-- ==== Sys2Proof/Laws/State.lean ====
section
/-! SUPPORT. What each update of the state leaves of each block: one lemma per update and block, so that no proof unfolds an
update. -/

namespace Sys2Proof.Machine

namespace State

variable (s : State)

@[simp] theorem post_store (m : Message) : (s.post m).store = s.store := by rfl
@[simp] theorem post_axes (m : Message) : (s.post m).axes = s.axes := by rfl
@[simp] theorem post_clock (m : Message) : (s.post m).clock = s.clock := by rfl
@[simp] theorem post_ctrl (m : Message) : (s.post m).ctrl = s.ctrl := by rfl
@[simp] theorem post_check (m : Message) : (s.post m).check = s.check := by rfl
@[simp] theorem post_link (m : Message) : (s.post m).link = s.link := by rfl
@[simp] theorem post_mon (m : Message) : (s.post m).mon = s.mon := by rfl
@[simp] theorem post_log (m : Message) : (s.post m).log = s.log := by rfl
@[simp] theorem post_gen (m : Message) : (s.post m).gen = s.gen := by rfl
@[simp] theorem post_wheels (m : Message) : (s.post m).wheels = s.wheels := by rfl
@[simp] theorem post_lines (m : Message) : (s.post m).lines = s.lines := by rfl
@[simp] theorem post_console (m : Message) : (s.post m).console = queueMessage s.console m := by rfl
@[simp] theorem post_pending (m : Message) : (s.post m).pending = s.pending := by rfl
@[simp] theorem post_openReads (m : Message) : (s.post m).openReads = s.openReads := by rfl

@[simp] theorem reply_store (kind tag : Byte) (st : Status) (fields : List Byte) :
    (s.reply kind tag st fields).store = s.store := by rfl
@[simp] theorem reply_axes (kind tag : Byte) (st : Status) (fields : List Byte) :
    (s.reply kind tag st fields).axes = s.axes := by rfl
@[simp] theorem reply_clock (kind tag : Byte) (st : Status) (fields : List Byte) :
    (s.reply kind tag st fields).clock = s.clock := by rfl
@[simp] theorem reply_ctrl (kind tag : Byte) (st : Status) (fields : List Byte) :
    (s.reply kind tag st fields).ctrl = s.ctrl := by rfl
@[simp] theorem reply_check (kind tag : Byte) (st : Status) (fields : List Byte) :
    (s.reply kind tag st fields).check = s.check := by rfl
@[simp] theorem reply_link (kind tag : Byte) (st : Status) (fields : List Byte) :
    (s.reply kind tag st fields).link = s.link := by rfl
@[simp] theorem reply_mon (kind tag : Byte) (st : Status) (fields : List Byte) :
    (s.reply kind tag st fields).mon = s.mon := by rfl
@[simp] theorem reply_log (kind tag : Byte) (st : Status) (fields : List Byte) :
    (s.reply kind tag st fields).log = s.log := by rfl
@[simp] theorem reply_gen (kind tag : Byte) (st : Status) (fields : List Byte) :
    (s.reply kind tag st fields).gen = s.gen := by rfl
@[simp] theorem reply_wheels (kind tag : Byte) (st : Status) (fields : List Byte) :
    (s.reply kind tag st fields).wheels = s.wheels := by rfl
@[simp] theorem reply_lines (kind tag : Byte) (st : Status) (fields : List Byte) :
    (s.reply kind tag st fields).lines = s.lines := by rfl
@[simp] theorem reply_console (kind tag : Byte) (st : Status) (fields : List Byte) :
    (s.reply kind tag st fields).console =
      queueMessage s.console (.reply (kind ||| 0x80#8) tag (statusCode st :: fields)) := by rfl
@[simp] theorem reply_pending (kind tag : Byte) (st : Status) (fields : List Byte) :
    (s.reply kind tag st fields).pending = s.pending := by rfl
@[simp] theorem reply_openReads (kind tag : Byte) (st : Status) (fields : List Byte) :
    (s.reply kind tag st fields).openReads = s.openReads := by rfl

@[simp] theorem reportState_store : s.reportState.store = s.store := by rfl
@[simp] theorem reportState_axes : s.reportState.axes = s.axes := by rfl
@[simp] theorem reportState_clock : s.reportState.clock = s.clock := by rfl
@[simp] theorem reportState_ctrl : s.reportState.ctrl = s.ctrl := by rfl
@[simp] theorem reportState_check : s.reportState.check = s.check := by rfl
@[simp] theorem reportState_link : s.reportState.link = s.link := by rfl
@[simp] theorem reportState_mon : s.reportState.mon = s.mon := by rfl
@[simp] theorem reportState_log : s.reportState.log = s.log := by rfl
@[simp] theorem reportState_gen : s.reportState.gen = s.gen := by rfl
@[simp] theorem reportState_wheels : s.reportState.wheels = s.wheels := by rfl
@[simp] theorem reportState_lines : s.reportState.lines = s.lines := by rfl
@[simp] theorem reportState_console :
    s.reportState.console = queueStateReport s.console s.ctrl.state s.ctrl.pass s.ctrl.entry := by rfl
@[simp] theorem reportState_pending : s.reportState.pending = s.pending := by rfl
@[simp] theorem reportState_openReads : s.reportState.openReads = s.openReads := by rfl

@[simp] theorem reportFaults_store : s.reportFaults.store = s.store := by rfl
@[simp] theorem reportFaults_axes : s.reportFaults.axes = s.axes := by rfl
@[simp] theorem reportFaults_clock : s.reportFaults.clock = s.clock := by rfl
@[simp] theorem reportFaults_ctrl : s.reportFaults.ctrl = s.ctrl := by rfl
@[simp] theorem reportFaults_check : s.reportFaults.check = s.check := by rfl
@[simp] theorem reportFaults_link : s.reportFaults.link = s.link := by rfl
@[simp] theorem reportFaults_mon : s.reportFaults.mon = s.mon := by rfl
@[simp] theorem reportFaults_log : s.reportFaults.log = s.log := by rfl
@[simp] theorem reportFaults_gen : s.reportFaults.gen = s.gen := by rfl
@[simp] theorem reportFaults_wheels : s.reportFaults.wheels = s.wheels := by rfl
@[simp] theorem reportFaults_lines : s.reportFaults.lines = s.lines := by rfl
@[simp] theorem reportFaults_console : s.reportFaults.console = queueFaultReport s.console := by rfl
@[simp] theorem reportFaults_pending : s.reportFaults.pending = s.pending := by rfl
@[simp] theorem reportFaults_openReads : s.reportFaults.openReads = s.openReads := by rfl

@[simp] theorem setGen_store (a : Axis) (g : GenRec) : (s.setGen a g).store = s.store := by rfl
@[simp] theorem setGen_axes (a : Axis) (g : GenRec) : (s.setGen a g).axes = s.axes := by rfl
@[simp] theorem setGen_clock (a : Axis) (g : GenRec) : (s.setGen a g).clock = s.clock := by rfl
@[simp] theorem setGen_ctrl (a : Axis) (g : GenRec) : (s.setGen a g).ctrl = s.ctrl := by rfl
@[simp] theorem setGen_check (a : Axis) (g : GenRec) : (s.setGen a g).check = s.check := by rfl
@[simp] theorem setGen_link (a : Axis) (g : GenRec) : (s.setGen a g).link = s.link := by rfl
@[simp] theorem setGen_mon (a : Axis) (g : GenRec) : (s.setGen a g).mon = s.mon := by rfl
@[simp] theorem setGen_log (a : Axis) (g : GenRec) : (s.setGen a g).log = s.log := by rfl
@[simp] theorem setGen_gen (a : Axis) (g : GenRec) : (s.setGen a g).gen = { s.gen with recs := put s.gen.recs a g } := by
  rfl
@[simp] theorem setGen_wheels (a : Axis) (g : GenRec) : (s.setGen a g).wheels = s.wheels := by rfl
@[simp] theorem setGen_lines (a : Axis) (g : GenRec) : (s.setGen a g).lines = s.lines := by rfl
@[simp] theorem setGen_console (a : Axis) (g : GenRec) : (s.setGen a g).console = s.console := by rfl
@[simp] theorem setGen_pending (a : Axis) (g : GenRec) : (s.setGen a g).pending = s.pending := by rfl
@[simp] theorem setGen_openReads (a : Axis) (g : GenRec) : (s.setGen a g).openReads = s.openReads := by rfl

@[simp] theorem setLinkRec_store (a : Axis) (l : LinkRec) : (s.setLinkRec a l).store = s.store := by rfl
@[simp] theorem setLinkRec_axes (a : Axis) (l : LinkRec) : (s.setLinkRec a l).axes = s.axes := by rfl
@[simp] theorem setLinkRec_clock (a : Axis) (l : LinkRec) : (s.setLinkRec a l).clock = s.clock := by rfl
@[simp] theorem setLinkRec_ctrl (a : Axis) (l : LinkRec) : (s.setLinkRec a l).ctrl = s.ctrl := by rfl
@[simp] theorem setLinkRec_check (a : Axis) (l : LinkRec) : (s.setLinkRec a l).check = s.check := by rfl
@[simp] theorem setLinkRec_link (a : Axis) (l : LinkRec) :
    (s.setLinkRec a l).link = { s.link with recs := put s.link.recs a l } := by rfl
@[simp] theorem setLinkRec_mon (a : Axis) (l : LinkRec) : (s.setLinkRec a l).mon = s.mon := by rfl
@[simp] theorem setLinkRec_log (a : Axis) (l : LinkRec) : (s.setLinkRec a l).log = s.log := by rfl
@[simp] theorem setLinkRec_gen (a : Axis) (l : LinkRec) : (s.setLinkRec a l).gen = s.gen := by rfl
@[simp] theorem setLinkRec_wheels (a : Axis) (l : LinkRec) : (s.setLinkRec a l).wheels = s.wheels := by rfl
@[simp] theorem setLinkRec_lines (a : Axis) (l : LinkRec) : (s.setLinkRec a l).lines = s.lines := by rfl
@[simp] theorem setLinkRec_console (a : Axis) (l : LinkRec) : (s.setLinkRec a l).console = s.console := by rfl
@[simp] theorem setLinkRec_pending (a : Axis) (l : LinkRec) : (s.setLinkRec a l).pending = s.pending := by rfl
@[simp] theorem setLinkRec_openReads (a : Axis) (l : LinkRec) : (s.setLinkRec a l).openReads = s.openReads := by rfl

@[simp] theorem setLine_store (l : Line) (r : RigLine) : (s.setLine l r).store = s.store := by rfl
@[simp] theorem setLine_axes (l : Line) (r : RigLine) : (s.setLine l r).axes = s.axes := by rfl
@[simp] theorem setLine_clock (l : Line) (r : RigLine) : (s.setLine l r).clock = s.clock := by rfl
@[simp] theorem setLine_ctrl (l : Line) (r : RigLine) : (s.setLine l r).ctrl = s.ctrl := by rfl
@[simp] theorem setLine_check (l : Line) (r : RigLine) : (s.setLine l r).check = s.check := by rfl
@[simp] theorem setLine_link (l : Line) (r : RigLine) : (s.setLine l r).link = s.link := by rfl
@[simp] theorem setLine_mon (l : Line) (r : RigLine) : (s.setLine l r).mon = s.mon := by rfl
@[simp] theorem setLine_log (l : Line) (r : RigLine) : (s.setLine l r).log = s.log := by rfl
@[simp] theorem setLine_gen (l : Line) (r : RigLine) : (s.setLine l r).gen = s.gen := by rfl
@[simp] theorem setLine_wheels (l : Line) (r : RigLine) : (s.setLine l r).wheels = s.wheels := by rfl
@[simp] theorem setLine_lines (l : Line) (r : RigLine) :
    (s.setLine l r).lines = { s.lines with lines := put s.lines.lines l r } := by rfl
@[simp] theorem setLine_console (l : Line) (r : RigLine) : (s.setLine l r).console = s.console := by rfl
@[simp] theorem setLine_pending (l : Line) (r : RigLine) : (s.setLine l r).pending = s.pending := by rfl
@[simp] theorem setLine_openReads (l : Line) (r : RigLine) : (s.setLine l r).openReads = s.openReads := by rfl

@[simp] theorem withStore_store (st : Store) : (s.withStore st).store = st := by rfl
@[simp] theorem withStore_axes (st : Store) : (s.withStore st).axes = s.axes := by rfl
@[simp] theorem withStore_clock (st : Store) : (s.withStore st).clock = s.clock := by rfl
@[simp] theorem withStore_ctrl (st : Store) : (s.withStore st).ctrl = s.ctrl := by rfl
@[simp] theorem withStore_check (st : Store) : (s.withStore st).check = s.check := by rfl
@[simp] theorem withStore_link (st : Store) : (s.withStore st).link = s.link := by rfl
@[simp] theorem withStore_mon (st : Store) : (s.withStore st).mon = s.mon := by rfl
@[simp] theorem withStore_log (st : Store) : (s.withStore st).log = s.log := by rfl
@[simp] theorem withStore_gen (st : Store) : (s.withStore st).gen = s.gen := by rfl
@[simp] theorem withStore_wheels (st : Store) : (s.withStore st).wheels = s.wheels := by rfl
@[simp] theorem withStore_lines (st : Store) : (s.withStore st).lines = s.lines := by rfl
@[simp] theorem withStore_console (st : Store) : (s.withStore st).console = s.console := by rfl
@[simp] theorem withStore_pending (st : Store) : (s.withStore st).pending = s.pending := by rfl
@[simp] theorem withStore_openReads (st : Store) : (s.withStore st).openReads = s.openReads := by rfl

@[simp] theorem withCtrl_store (st : CtrlState) (form : Option StopForm) : (s.withCtrl st form).store = s.store := by
  rfl
@[simp] theorem withCtrl_axes (st : CtrlState) (form : Option StopForm) : (s.withCtrl st form).axes = s.axes := by rfl
@[simp] theorem withCtrl_clock (st : CtrlState) (form : Option StopForm) : (s.withCtrl st form).clock = s.clock := by
  rfl
@[simp] theorem withCtrl_ctrl (st : CtrlState) (form : Option StopForm) :
    (s.withCtrl st form).ctrl = { s.ctrl with state := st, stopForm := form } := by rfl
@[simp] theorem withCtrl_check (st : CtrlState) (form : Option StopForm) : (s.withCtrl st form).check = s.check := by
  rfl
@[simp] theorem withCtrl_link (st : CtrlState) (form : Option StopForm) : (s.withCtrl st form).link = s.link := by rfl
@[simp] theorem withCtrl_mon (st : CtrlState) (form : Option StopForm) : (s.withCtrl st form).mon = s.mon := by rfl
@[simp] theorem withCtrl_log (st : CtrlState) (form : Option StopForm) : (s.withCtrl st form).log = s.log := by rfl
@[simp] theorem withCtrl_gen (st : CtrlState) (form : Option StopForm) : (s.withCtrl st form).gen = s.gen := by rfl
@[simp] theorem withCtrl_wheels (st : CtrlState) (form : Option StopForm) : (s.withCtrl st form).wheels = s.wheels := by
  rfl
@[simp] theorem withCtrl_lines (st : CtrlState) (form : Option StopForm) : (s.withCtrl st form).lines = s.lines := by
  rfl
@[simp] theorem withCtrl_console (st : CtrlState) (form : Option StopForm) : (s.withCtrl st form).console = s.console := by
  rfl
@[simp] theorem withCtrl_pending (st : CtrlState) (form : Option StopForm) : (s.withCtrl st form).pending = s.pending := by
  rfl
@[simp] theorem withCtrl_openReads (st : CtrlState) (form : Option StopForm) :
    (s.withCtrl st form).openReads = s.openReads := by rfl

@[simp] theorem enter_store (st : CtrlState) : (s.enter st).store = s.store := by rfl
@[simp] theorem enter_axes (st : CtrlState) : (s.enter st).axes = s.axes := by rfl
@[simp] theorem enter_clock (st : CtrlState) : (s.enter st).clock = s.clock := by rfl
@[simp] theorem enter_ctrl (st : CtrlState) : (s.enter st).ctrl = { s.ctrl with state := st, stopForm := none } := by
  rfl
@[simp] theorem enter_check (st : CtrlState) : (s.enter st).check = s.check := by rfl
@[simp] theorem enter_link (st : CtrlState) : (s.enter st).link = s.link := by rfl
@[simp] theorem enter_mon (st : CtrlState) : (s.enter st).mon = s.mon := by rfl
@[simp] theorem enter_log (st : CtrlState) : (s.enter st).log = s.log := by rfl
@[simp] theorem enter_gen (st : CtrlState) : (s.enter st).gen = s.gen := by rfl
@[simp] theorem enter_wheels (st : CtrlState) : (s.enter st).wheels = s.wheels := by rfl
@[simp] theorem enter_lines (st : CtrlState) : (s.enter st).lines = s.lines := by rfl
@[simp] theorem enter_console (st : CtrlState) :
    (s.enter st).console = queueStateReport s.console st s.ctrl.pass s.ctrl.entry := by rfl
@[simp] theorem enter_pending (st : CtrlState) : (s.enter st).pending = s.pending := by rfl
@[simp] theorem enter_openReads (st : CtrlState) : (s.enter st).openReads = s.openReads := by rfl

@[simp] theorem enterStop_store (st : CtrlState) (form : StopForm) : (s.enterStop st form).store = s.store := by rfl
@[simp] theorem enterStop_axes (st : CtrlState) (form : StopForm) : (s.enterStop st form).axes = s.axes := by rfl
@[simp] theorem enterStop_clock (st : CtrlState) (form : StopForm) : (s.enterStop st form).clock = s.clock := by rfl
@[simp] theorem enterStop_ctrl (st : CtrlState) (form : StopForm) :
    (s.enterStop st form).ctrl = { s.ctrl with state := st, stopForm := some form } := by rfl
@[simp] theorem enterStop_check (st : CtrlState) (form : StopForm) : (s.enterStop st form).check = s.check := by rfl
@[simp] theorem enterStop_link (st : CtrlState) (form : StopForm) : (s.enterStop st form).link = s.link := by rfl
@[simp] theorem enterStop_mon (st : CtrlState) (form : StopForm) : (s.enterStop st form).mon = s.mon := by rfl
@[simp] theorem enterStop_log (st : CtrlState) (form : StopForm) : (s.enterStop st form).log = s.log := by rfl
@[simp] theorem enterStop_gen (st : CtrlState) (form : StopForm) : (s.enterStop st form).gen = s.gen := by rfl
@[simp] theorem enterStop_wheels (st : CtrlState) (form : StopForm) : (s.enterStop st form).wheels = s.wheels := by rfl
@[simp] theorem enterStop_lines (st : CtrlState) (form : StopForm) : (s.enterStop st form).lines = s.lines := by rfl
@[simp] theorem enterStop_console (st : CtrlState) (form : StopForm) :
    (s.enterStop st form).console = queueStateReport s.console st s.ctrl.pass s.ctrl.entry := by rfl
@[simp] theorem enterStop_pending (st : CtrlState) (form : StopForm) : (s.enterStop st form).pending = s.pending := by
  rfl
@[simp] theorem enterStop_openReads (st : CtrlState) (form : StopForm) :
    (s.enterStop st form).openReads = s.openReads := by rfl

@[simp] theorem mapGen_store (f : Axis → GenRec → GenRec) : (s.mapGen f).store = s.store := by simp only [mapGen]
@[simp] theorem mapGen_axes (f : Axis → GenRec → GenRec) : (s.mapGen f).axes = s.axes := by simp only [mapGen]
@[simp] theorem mapGen_clock (f : Axis → GenRec → GenRec) : (s.mapGen f).clock = s.clock := by simp only [mapGen]
@[simp] theorem mapGen_ctrl (f : Axis → GenRec → GenRec) : (s.mapGen f).ctrl = s.ctrl := by simp only [mapGen]
@[simp] theorem mapGen_check (f : Axis → GenRec → GenRec) : (s.mapGen f).check = s.check := by simp only [mapGen]
@[simp] theorem mapGen_link (f : Axis → GenRec → GenRec) : (s.mapGen f).link = s.link := by simp only [mapGen]
@[simp] theorem mapGen_mon (f : Axis → GenRec → GenRec) : (s.mapGen f).mon = s.mon := by simp only [mapGen]
@[simp] theorem mapGen_log (f : Axis → GenRec → GenRec) : (s.mapGen f).log = s.log := by simp only [mapGen]
@[simp] theorem mapGen_gen (f : Axis → GenRec → GenRec) :
    (s.mapGen f).gen = { s.gen with recs := tabulate fun a => f a s.gen.recs[a] } := by simp only [mapGen]
@[simp] theorem mapGen_wheels (f : Axis → GenRec → GenRec) : (s.mapGen f).wheels = s.wheels := by simp only [mapGen]
@[simp] theorem mapGen_lines (f : Axis → GenRec → GenRec) : (s.mapGen f).lines = s.lines := by simp only [mapGen]
@[simp] theorem mapGen_console (f : Axis → GenRec → GenRec) : (s.mapGen f).console = s.console := by simp only [mapGen]
@[simp] theorem mapGen_pending (f : Axis → GenRec → GenRec) : (s.mapGen f).pending = s.pending := by simp only [mapGen]
@[simp] theorem mapGen_openReads (f : Axis → GenRec → GenRec) : (s.mapGen f).openReads = s.openReads := by
  simp only [mapGen]

@[simp] theorem genReleaseAll_store : s.genReleaseAll.store = s.store := by simp only [genReleaseAll, mapGen_store]
@[simp] theorem genReleaseAll_axes : s.genReleaseAll.axes = s.axes := by simp only [genReleaseAll, mapGen_axes]
@[simp] theorem genReleaseAll_clock : s.genReleaseAll.clock = s.clock := by simp only [genReleaseAll, mapGen_clock]
@[simp] theorem genReleaseAll_ctrl : s.genReleaseAll.ctrl = s.ctrl := by simp only [genReleaseAll, mapGen_ctrl]
@[simp] theorem genReleaseAll_check : s.genReleaseAll.check = s.check := by simp only [genReleaseAll, mapGen_check]
@[simp] theorem genReleaseAll_link : s.genReleaseAll.link = s.link := by simp only [genReleaseAll, mapGen_link]
@[simp] theorem genReleaseAll_mon : s.genReleaseAll.mon = s.mon := by simp only [genReleaseAll, mapGen_mon]
@[simp] theorem genReleaseAll_log : s.genReleaseAll.log = s.log := by simp only [genReleaseAll, mapGen_log]
@[simp] theorem genReleaseAll_wheels : s.genReleaseAll.wheels = s.wheels := by simp only [genReleaseAll, mapGen_wheels]
@[simp] theorem genReleaseAll_lines : s.genReleaseAll.lines = s.lines := by simp only [genReleaseAll, mapGen_lines]
@[simp] theorem genReleaseAll_console : s.genReleaseAll.console = s.console := by
  simp only [genReleaseAll, mapGen_console]
@[simp] theorem genReleaseAll_pending : s.genReleaseAll.pending = s.pending := by
  simp only [genReleaseAll, mapGen_pending]
@[simp] theorem genReleaseAll_openReads : s.genReleaseAll.openReads = s.openReads := by
  simp only [genReleaseAll, mapGen_openReads]

@[simp] theorem genRestAll_store : s.genRestAll.store = s.store := by simp only [genRestAll, mapGen_store]
@[simp] theorem genRestAll_axes : s.genRestAll.axes = s.axes := by simp only [genRestAll, mapGen_axes]
@[simp] theorem genRestAll_clock : s.genRestAll.clock = s.clock := by simp only [genRestAll, mapGen_clock]
@[simp] theorem genRestAll_ctrl : s.genRestAll.ctrl = s.ctrl := by simp only [genRestAll, mapGen_ctrl]
@[simp] theorem genRestAll_check : s.genRestAll.check = s.check := by simp only [genRestAll, mapGen_check]
@[simp] theorem genRestAll_link : s.genRestAll.link = s.link := by simp only [genRestAll, mapGen_link]
@[simp] theorem genRestAll_mon : s.genRestAll.mon = s.mon := by simp only [genRestAll, mapGen_mon]
@[simp] theorem genRestAll_log : s.genRestAll.log = s.log := by simp only [genRestAll, mapGen_log]
@[simp] theorem genRestAll_wheels : s.genRestAll.wheels = s.wheels := by simp only [genRestAll, mapGen_wheels]
@[simp] theorem genRestAll_lines : s.genRestAll.lines = s.lines := by simp only [genRestAll, mapGen_lines]
@[simp] theorem genRestAll_console : s.genRestAll.console = s.console := by simp only [genRestAll, mapGen_console]
@[simp] theorem genRestAll_pending : s.genRestAll.pending = s.pending := by simp only [genRestAll, mapGen_pending]
@[simp] theorem genRestAll_openReads : s.genRestAll.openReads = s.openReads := by
  simp only [genRestAll, mapGen_openReads]

@[simp] theorem genTargetAll_store (targets : Vector Int 16) : (s.genTargetAll targets).store = s.store := by
  simp only [genTargetAll, mapGen_store]
@[simp] theorem genTargetAll_axes (targets : Vector Int 16) : (s.genTargetAll targets).axes = s.axes := by
  simp only [genTargetAll, mapGen_axes]
@[simp] theorem genTargetAll_clock (targets : Vector Int 16) : (s.genTargetAll targets).clock = s.clock := by
  simp only [genTargetAll, mapGen_clock]
@[simp] theorem genTargetAll_ctrl (targets : Vector Int 16) : (s.genTargetAll targets).ctrl = s.ctrl := by
  simp only [genTargetAll, mapGen_ctrl]
@[simp] theorem genTargetAll_check (targets : Vector Int 16) : (s.genTargetAll targets).check = s.check := by
  simp only [genTargetAll, mapGen_check]
@[simp] theorem genTargetAll_link (targets : Vector Int 16) : (s.genTargetAll targets).link = s.link := by
  simp only [genTargetAll, mapGen_link]
@[simp] theorem genTargetAll_mon (targets : Vector Int 16) : (s.genTargetAll targets).mon = s.mon := by
  simp only [genTargetAll, mapGen_mon]
@[simp] theorem genTargetAll_log (targets : Vector Int 16) : (s.genTargetAll targets).log = s.log := by
  simp only [genTargetAll, mapGen_log]
@[simp] theorem genTargetAll_wheels (targets : Vector Int 16) : (s.genTargetAll targets).wheels = s.wheels := by
  simp only [genTargetAll, mapGen_wheels]
@[simp] theorem genTargetAll_lines (targets : Vector Int 16) : (s.genTargetAll targets).lines = s.lines := by
  simp only [genTargetAll, mapGen_lines]
@[simp] theorem genTargetAll_console (targets : Vector Int 16) : (s.genTargetAll targets).console = s.console := by
  simp only [genTargetAll, mapGen_console]
@[simp] theorem genTargetAll_pending (targets : Vector Int 16) : (s.genTargetAll targets).pending = s.pending := by
  simp only [genTargetAll, mapGen_pending]
@[simp] theorem genTargetAll_openReads (targets : Vector Int 16) : (s.genTargetAll targets).openReads = s.openReads := by
  simp only [genTargetAll, mapGen_openReads]

@[simp] theorem genEndFollowing_store : s.genEndFollowing.store = s.store := by
  simp only [genEndFollowing, mapGen_store]
@[simp] theorem genEndFollowing_axes : s.genEndFollowing.axes = s.axes := by simp only [genEndFollowing, mapGen_axes]
@[simp] theorem genEndFollowing_clock : s.genEndFollowing.clock = s.clock := by
  simp only [genEndFollowing, mapGen_clock]
@[simp] theorem genEndFollowing_ctrl : s.genEndFollowing.ctrl = s.ctrl := by simp only [genEndFollowing, mapGen_ctrl]
@[simp] theorem genEndFollowing_check : s.genEndFollowing.check = s.check := by
  simp only [genEndFollowing, mapGen_check]
@[simp] theorem genEndFollowing_link : s.genEndFollowing.link = s.link := by simp only [genEndFollowing, mapGen_link]
@[simp] theorem genEndFollowing_mon : s.genEndFollowing.mon = s.mon := by simp only [genEndFollowing, mapGen_mon]
@[simp] theorem genEndFollowing_log : s.genEndFollowing.log = s.log := by simp only [genEndFollowing, mapGen_log]
@[simp] theorem genEndFollowing_wheels : s.genEndFollowing.wheels = s.wheels := by
  simp only [genEndFollowing, mapGen_wheels]
@[simp] theorem genEndFollowing_lines : s.genEndFollowing.lines = s.lines := by
  simp only [genEndFollowing, mapGen_lines]
@[simp] theorem genEndFollowing_console : s.genEndFollowing.console = s.console := by
  simp only [genEndFollowing, mapGen_console]
@[simp] theorem genEndFollowing_pending : s.genEndFollowing.pending = s.pending := by
  simp only [genEndFollowing, mapGen_pending]
@[simp] theorem genEndFollowing_openReads : s.genEndFollowing.openReads = s.openReads := by
  simp only [genEndFollowing, mapGen_openReads]

@[simp] theorem genEndCapture_store : s.genEndCapture.store = s.store := by simp only [genEndCapture]
@[simp] theorem genEndCapture_axes : s.genEndCapture.axes = s.axes := by simp only [genEndCapture]
@[simp] theorem genEndCapture_clock : s.genEndCapture.clock = s.clock := by simp only [genEndCapture]
@[simp] theorem genEndCapture_ctrl : s.genEndCapture.ctrl = s.ctrl := by simp only [genEndCapture]
@[simp] theorem genEndCapture_check : s.genEndCapture.check = s.check := by simp only [genEndCapture]
@[simp] theorem genEndCapture_link : s.genEndCapture.link = s.link := by simp only [genEndCapture]
@[simp] theorem genEndCapture_mon : s.genEndCapture.mon = s.mon := by simp only [genEndCapture]
@[simp] theorem genEndCapture_log : s.genEndCapture.log = s.log := by simp only [genEndCapture]
@[simp] theorem genEndCapture_wheels : s.genEndCapture.wheels = s.wheels := by simp only [genEndCapture]
@[simp] theorem genEndCapture_lines : s.genEndCapture.lines = s.lines := by simp only [genEndCapture]
@[simp] theorem genEndCapture_console : s.genEndCapture.console = s.console := by simp only [genEndCapture]
@[simp] theorem genEndCapture_pending : s.genEndCapture.pending = s.pending := by simp only [genEndCapture]
@[simp] theorem genEndCapture_openReads : s.genEndCapture.openReads = s.openReads := by simp only [genEndCapture]

@[simp] theorem genDropAll_store : s.genDropAll.store = s.store := by simp only [genDropAll, mapGen_store]
@[simp] theorem genDropAll_axes : s.genDropAll.axes = s.axes := by simp only [genDropAll, mapGen_axes]
@[simp] theorem genDropAll_clock : s.genDropAll.clock = s.clock := by simp only [genDropAll, mapGen_clock]
@[simp] theorem genDropAll_ctrl : s.genDropAll.ctrl = s.ctrl := by simp only [genDropAll, mapGen_ctrl]
@[simp] theorem genDropAll_check : s.genDropAll.check = s.check := by simp only [genDropAll, mapGen_check]
@[simp] theorem genDropAll_link : s.genDropAll.link = s.link := by simp only [genDropAll, mapGen_link]
@[simp] theorem genDropAll_mon : s.genDropAll.mon = s.mon := by simp only [genDropAll, mapGen_mon]
@[simp] theorem genDropAll_log : s.genDropAll.log = s.log := by simp only [genDropAll, mapGen_log]
@[simp] theorem genDropAll_wheels : s.genDropAll.wheels = s.wheels := by simp only [genDropAll, mapGen_wheels]
@[simp] theorem genDropAll_lines : s.genDropAll.lines = s.lines := by simp only [genDropAll, mapGen_lines]
@[simp] theorem genDropAll_console : s.genDropAll.console = s.console := by simp only [genDropAll, mapGen_console]
@[simp] theorem genDropAll_pending : s.genDropAll.pending = s.pending := by simp only [genDropAll, mapGen_pending]
@[simp] theorem genDropAll_openReads : s.genDropAll.openReads = s.openReads := by
  simp only [genDropAll, mapGen_openReads]

@[simp] theorem stepGen_store : s.stepGen.store = s.store := by simp only [stepGen, mapGen_store]
@[simp] theorem stepGen_axes : s.stepGen.axes = s.axes := by simp only [stepGen, mapGen_axes]
@[simp] theorem stepGen_clock : s.stepGen.clock = s.clock := by simp only [stepGen, mapGen_clock]
@[simp] theorem stepGen_ctrl : s.stepGen.ctrl = s.ctrl := by simp only [stepGen, mapGen_ctrl]
@[simp] theorem stepGen_check : s.stepGen.check = s.check := by simp only [stepGen, mapGen_check]
@[simp] theorem stepGen_link : s.stepGen.link = s.link := by simp only [stepGen, mapGen_link]
@[simp] theorem stepGen_mon : s.stepGen.mon = s.mon := by simp only [stepGen, mapGen_mon]
@[simp] theorem stepGen_log : s.stepGen.log = s.log := by simp only [stepGen, mapGen_log]
@[simp] theorem stepGen_wheels : s.stepGen.wheels = s.wheels := by simp only [stepGen, mapGen_wheels]
@[simp] theorem stepGen_lines : s.stepGen.lines = s.lines := by simp only [stepGen, mapGen_lines]
@[simp] theorem stepGen_console : s.stepGen.console = s.console := by simp only [stepGen, mapGen_console]
@[simp] theorem stepGen_pending : s.stepGen.pending = s.pending := by simp only [stepGen, mapGen_pending]
@[simp] theorem stepGen_openReads : s.stepGen.openReads = s.openReads := by simp only [stepGen, mapGen_openReads]

@[simp] theorem genHalt_store (a : Axis) : (s.genHalt a).store = s.store := by rfl
@[simp] theorem genHalt_axes (a : Axis) : (s.genHalt a).axes = s.axes := by rfl
@[simp] theorem genHalt_clock (a : Axis) : (s.genHalt a).clock = s.clock := by rfl
@[simp] theorem genHalt_ctrl (a : Axis) : (s.genHalt a).ctrl = s.ctrl := by rfl
@[simp] theorem genHalt_check (a : Axis) : (s.genHalt a).check = s.check := by rfl
@[simp] theorem genHalt_link (a : Axis) : (s.genHalt a).link = s.link := by rfl
@[simp] theorem genHalt_mon (a : Axis) : (s.genHalt a).mon = s.mon := by rfl
@[simp] theorem genHalt_log (a : Axis) : (s.genHalt a).log = s.log := by rfl
@[simp] theorem genHalt_wheels (a : Axis) : (s.genHalt a).wheels = s.wheels := by rfl
@[simp] theorem genHalt_lines (a : Axis) : (s.genHalt a).lines = s.lines := by rfl
@[simp] theorem genHalt_console (a : Axis) : (s.genHalt a).console = s.console := by rfl
@[simp] theorem genHalt_pending (a : Axis) : (s.genHalt a).pending = s.pending := by rfl
@[simp] theorem genHalt_openReads (a : Axis) : (s.genHalt a).openReads = s.openReads := by rfl

@[simp] theorem discardArm_store : s.discardArm.store = s.store := by rfl
@[simp] theorem discardArm_axes : s.discardArm.axes = s.axes := by rfl
@[simp] theorem discardArm_clock : s.discardArm.clock = s.clock := by rfl
@[simp] theorem discardArm_ctrl :
    s.discardArm.ctrl = { s.ctrl with armSetpoints := none, prerollTargets := none, inPos := 0 } := by rfl
@[simp] theorem discardArm_check : s.discardArm.check = s.check := by rfl
@[simp] theorem discardArm_link : s.discardArm.link = s.link := by rfl
@[simp] theorem discardArm_mon : s.discardArm.mon = s.mon := by rfl
@[simp] theorem discardArm_log : s.discardArm.log = s.log := by rfl
@[simp] theorem discardArm_gen : s.discardArm.gen = s.gen := by rfl
@[simp] theorem discardArm_wheels : s.discardArm.wheels = s.wheels := by rfl
@[simp] theorem discardArm_lines : s.discardArm.lines = s.lines := by rfl
@[simp] theorem discardArm_console : s.discardArm.console = s.console := by rfl
@[simp] theorem discardArm_pending : s.discardArm.pending = s.pending := by rfl
@[simp] theorem discardArm_openReads : s.discardArm.openReads = s.openReads := by rfl

@[simp] theorem clearPass_store : s.clearPass.store = s.store := by rfl
@[simp] theorem clearPass_axes : s.clearPass.axes = s.axes := by rfl
@[simp] theorem clearPass_clock : s.clearPass.clock = s.clock := by rfl
@[simp] theorem clearPass_ctrl :
    s.clearPass.ctrl =
      { s.ctrl with entry := 0, pass := none, landing := false, armSetpoints := none, prerollTargets := none, ret := none } := by
  rfl
@[simp] theorem clearPass_check : s.clearPass.check = s.check := by rfl
@[simp] theorem clearPass_link : s.clearPass.link = s.link := by rfl
@[simp] theorem clearPass_mon : s.clearPass.mon = s.mon := by rfl
@[simp] theorem clearPass_log : s.clearPass.log = s.log := by rfl
@[simp] theorem clearPass_gen : s.clearPass.gen = s.gen := by rfl
@[simp] theorem clearPass_wheels : s.clearPass.wheels = s.wheels := by rfl
@[simp] theorem clearPass_lines : s.clearPass.lines = s.lines := by rfl
@[simp] theorem clearPass_console : s.clearPass.console = s.console := by rfl
@[simp] theorem clearPass_pending : s.clearPass.pending = s.pending := by rfl
@[simp] theorem clearPass_openReads : s.clearPass.openReads = s.openReads := by rfl

@[simp] theorem storeAxis_store (a : Axis) (r : AxisRec) : (s.storeAxis a r).store = s.store := by rfl
@[simp] theorem storeAxis_axes (a : Axis) (r : AxisRec) :
    (s.storeAxis a r).axes = { s.axes with recs := put s.axes.recs a r } := by rfl
@[simp] theorem storeAxis_clock (a : Axis) (r : AxisRec) : (s.storeAxis a r).clock = s.clock := by rfl
@[simp] theorem storeAxis_ctrl (a : Axis) (r : AxisRec) : (s.storeAxis a r).ctrl = s.ctrl := by rfl
@[simp] theorem storeAxis_check (a : Axis) (r : AxisRec) : (s.storeAxis a r).check = s.check := by rfl
@[simp] theorem storeAxis_link (a : Axis) (r : AxisRec) : (s.storeAxis a r).link = s.link := by rfl
@[simp] theorem storeAxis_mon (a : Axis) (r : AxisRec) : (s.storeAxis a r).mon = s.mon := by rfl
@[simp] theorem storeAxis_log (a : Axis) (r : AxisRec) : (s.storeAxis a r).log = s.log := by rfl
@[simp] theorem storeAxis_gen (a : Axis) (r : AxisRec) : (s.storeAxis a r).gen = s.gen := by rfl
@[simp] theorem storeAxis_wheels (a : Axis) (r : AxisRec) : (s.storeAxis a r).wheels = s.wheels := by rfl
@[simp] theorem storeAxis_lines (a : Axis) (r : AxisRec) : (s.storeAxis a r).lines = s.lines := by rfl
@[simp] theorem storeAxis_console (a : Axis) (r : AxisRec) : (s.storeAxis a r).console = s.console := by rfl
@[simp] theorem storeAxis_pending (a : Axis) (r : AxisRec) : (s.storeAxis a r).pending = s.pending := by rfl
@[simp] theorem storeAxis_openReads (a : Axis) (r : AxisRec) : (s.storeAxis a r).openReads = s.openReads := by rfl

@[simp] theorem reportFaultsIf_false : s.reportFaultsIf false = s := by rfl

@[simp] theorem reportFaultsIf_true : s.reportFaultsIf true = s.reportFaults := by rfl

@[simp] theorem seePins_store (pins : BitVec 12) : (s.seePins pins).store = s.store := by rfl
@[simp] theorem seePins_axes (pins : BitVec 12) : (s.seePins pins).axes = s.axes := by rfl
@[simp] theorem seePins_clock (pins : BitVec 12) : (s.seePins pins).clock = s.clock := by rfl
@[simp] theorem seePins_ctrl (pins : BitVec 12) : (s.seePins pins).ctrl = s.ctrl := by rfl
@[simp] theorem seePins_check (pins : BitVec 12) : (s.seePins pins).check = s.check := by rfl
@[simp] theorem seePins_link (pins : BitVec 12) : (s.seePins pins).link = s.link := by rfl
@[simp] theorem seePins_mon (pins : BitVec 12) : (s.seePins pins).mon = s.mon := by rfl
@[simp] theorem seePins_log (pins : BitVec 12) : (s.seePins pins).log = s.log := by rfl
@[simp] theorem seePins_gen (pins : BitVec 12) : (s.seePins pins).gen = s.gen := by rfl
@[simp] theorem seePins_wheels (pins : BitVec 12) : (s.seePins pins).wheels = s.wheels := by rfl
@[simp] theorem seePins_lines (pins : BitVec 12) : (s.seePins pins).lines = { s.lines with pins } := by rfl
@[simp] theorem seePins_console (pins : BitVec 12) : (s.seePins pins).console = s.console := by rfl
@[simp] theorem seePins_pending (pins : BitVec 12) : (s.seePins pins).pending = s.pending := by rfl
@[simp] theorem seePins_openReads (pins : BitVec 12) : (s.seePins pins).openReads = s.openReads := by rfl

@[simp] theorem lookAtPins_store : (s.lookAtPins).store = s.store := by rfl
@[simp] theorem lookAtPins_axes : (s.lookAtPins).axes = s.axes := by rfl
@[simp] theorem lookAtPins_clock : (s.lookAtPins).clock = s.clock := by rfl
@[simp] theorem lookAtPins_ctrl : (s.lookAtPins).ctrl = s.ctrl := by rfl
@[simp] theorem lookAtPins_check : (s.lookAtPins).check = s.check := by rfl
@[simp] theorem lookAtPins_link : (s.lookAtPins).link = s.link := by rfl
@[simp] theorem lookAtPins_mon : (s.lookAtPins).mon = s.mon := by rfl
@[simp] theorem lookAtPins_log : (s.lookAtPins).log = s.log := by rfl
@[simp] theorem lookAtPins_gen : (s.lookAtPins).gen = s.gen := by rfl
@[simp] theorem lookAtPins_wheels : (s.lookAtPins).wheels = s.wheels := by rfl
@[simp] theorem lookAtPins_lines : (s.lookAtPins).lines = { s.lines with pins := Config.freePins s.openReads } := by rfl
@[simp] theorem lookAtPins_console : (s.lookAtPins).console = s.console := by rfl
@[simp] theorem lookAtPins_pending : (s.lookAtPins).pending = s.pending := by rfl
@[simp] theorem lookAtPins_openReads : (s.lookAtPins).openReads = s.openReads + 1 := by rfl

@[simp] theorem clearSkipped_store : (s.clearSkipped).store = s.store := by rfl
@[simp] theorem clearSkipped_axes : (s.clearSkipped).axes = s.axes := by rfl
@[simp] theorem clearSkipped_clock : (s.clearSkipped).clock = s.clock := by rfl
@[simp] theorem clearSkipped_ctrl : (s.clearSkipped).ctrl = s.ctrl := by rfl
@[simp] theorem clearSkipped_check : (s.clearSkipped).check = s.check := by rfl
@[simp] theorem clearSkipped_link : (s.clearSkipped).link = s.link := by rfl
@[simp] theorem clearSkipped_mon : (s.clearSkipped).mon = s.mon := by rfl
@[simp] theorem clearSkipped_log : (s.clearSkipped).log = s.log := by rfl
@[simp] theorem clearSkipped_gen : (s.clearSkipped).gen = s.gen := by rfl
@[simp] theorem clearSkipped_wheels : (s.clearSkipped).wheels = s.wheels := by rfl
@[simp] theorem clearSkipped_lines : (s.clearSkipped).lines = s.lines := by rfl
@[simp] theorem clearSkipped_console : (s.clearSkipped).console = { s.console with skipped := 0 } := by rfl
@[simp] theorem clearSkipped_pending : (s.clearSkipped).pending = s.pending := by rfl
@[simp] theorem clearSkipped_openReads : (s.clearSkipped).openReads = s.openReads := by rfl

/-- Everything a check's walk can do: nothing, when none is under way, or its progress gathered as far as it has got and one open value
read. -/
theorem advanceWalk_cases :
    (s.check.progress = none ∧ s.advanceWalk = s) ∨
      ∃ p n, s.check.progress = some p ∧ n ≤ p.total + 1 ∧
        s.advanceWalk =
          { s with check := { s.check with progress := some (s.walkTo p n) }, openReads := s.openReads + 1 } := by
  unfold advanceWalk
  split
  · next h => exact .inl ⟨h, rfl⟩
  · next p h => exact .inr ⟨p, _, h, Nat.min_le_left .., rfl⟩

end State

end Sys2Proof.Machine
end

