-- ==== Sys2Proof/WellFormed.lean ====
section
/-! DEFINITION. Which commands the rig can present: the checks of `Instr.wellFormed`. Every meaning is total, so a command
that is not well formed still has its effect; well-formedness is what a statement about what the rig presents asks for. -/

namespace Sys2Proof

/-- R189: the body of a frame holds at most 4,096 bytes. -/
def bodyFits (body : List Byte) : Bool := body.length ≤ 4096

/-- R191: the kind is none of the request kinds of Table 11-5. -/
def isUnknownKind (kind : Byte) : Bool := !requestKinds.contains kind

/-- R182: only L1, L2 and L3 have an input filter. -/
def hasFilter (line : Line) : Bool := line = 1 || line = 2 || line = 3

/-- R185: only L4 to L11 may be named by cues, so only they ever hold a pending clear. -/
def takesCues (line : Line) : Bool := 4 ≤ line.val

/-- The checks a command must pass to be one the rig can present. -/
def Instr.wellFormed : Instr → Bool
  | .unknownKind kind _ body => isUnknownKind kind && bodyFits body
  | .frameReceive bytes => !bytes.isEmpty
  | .driveReply bytes => !bytes.isEmpty
  | .pendingClearExpiry line => takesCues line
  | .lineFilterEdge line => hasFilter line
  | i => (i.body?.map bodyFits).getD true

end Sys2Proof
end

