-- ==== Sys2Proof/Tests/Slice0.lean ====
section
/-! SUPPORT. The writer's own tests: well-formedness, the manual's worked examples, and for each statement of
Sys2Proof/Certificates a state and operands that meet its hypotheses together. -/

namespace Sys2Proof.Tests

open Sys2Proof.Machine

-- The tests are checked one after another, so that the threads waiting for the kernel do not fill the memory.
set_option Elab.async false

/-! ### Well-formedness: each check refuses an ill-formed command -/

theorem test_wf_body_too_long : (Instr.moveList 0 (List.replicate 4097 0)).wellFormed = false := by decide +kernel

theorem test_wf_body_longest : (Instr.moveList 0 (List.replicate 4096 0)).wellFormed = true := by decide +kernel

theorem test_wf_unknown_kind_known : (Instr.unknownKind 0x26 0 []).wellFormed = false := by decide

theorem test_wf_unknown_kind : (Instr.unknownKind 0xE0 0 []).wellFormed = true := by decide

theorem test_wf_no_bytes_received : (Instr.frameReceive []).wellFormed = false := by decide

theorem test_wf_empty_reply : (Instr.driveReply []).wellFormed = false := by decide

theorem test_wf_clear_of_a_line_without_cues : (Instr.pendingClearExpiry 3).wellFormed = false := by decide

theorem test_wf_edge_of_a_line_without_filter : (Instr.lineFilterEdge 0).wellFormed = false := by decide

/-! ### Check sequences (R102, R189: the values over the characters 1 to 9) -/

def nine : List Byte := [0x31, 0x32, 0x33, 0x34, 0x35, 0x36, 0x37, 0x38, 0x39]

theorem test_crc16_of_the_manual : (crc16 nine).toNat = 10673 := by decide +kernel

theorem test_crc32_of_the_manual : (crc32 nine).toNat = 3421780262 := by decide +kernel

/-! ### Path evaluation (Tables 1-3, 2-6, 2-8) -/

def autoKey (frame : Nat) (value : Int) : Key :=
  { time := frame * 65536, value, segment := .smooth, tangents := .auto }

/-- Table 1-2. -/
def track2 : Track := [autoKey 100 10000, autoKey 140 12000, autoKey 200 11000, autoKey 230 9500]

/-- Table 1-3. -/
theorem test_auto_tangents :
    autoTangent track2 0 = 3276800 ∧ autoTangent track2 1 = 0 ∧ autoTangent track2 2 = -1820444 ∧
      autoTangent track2 3 = -3276800 := by decide +kernel

def axis2 : AxisRec := { AxisRec.reset with configured := true, softMin := 0, softMax := 4000000, origin := 2000000 }

/-- Table 2-6. -/
theorem test_smooth_segment :
    evaluateTrack axis2 none (some track2) 7208960 0 =
      { found := .segment 0, frac := some 16384, tangents := some (3276800, 0), rounded := 10594, mapped := 10594
        sum := 2010594, setpoint := 2010594, clamped := false } := by decide +kernel

def axis8 : AxisRec := { AxisRec.reset with configured := true, softMin := 0, softMax := 40000, origin := -5000 }

/-- Table 2-7. -/
def map8 : LensMap := [(0, 0), (1000, 40000), (2000, 70000), (4000, 100000)]

def track8 : Track :=
  [{ time := 20 * 65536, value := 800, segment := .linear, tangents := .auto },
   { time := 30 * 65536, value := 1800, segment := .linear, tangents := .auto }]

/-- Table 2-8. -/
theorem test_linear_through_a_map_and_the_clamp :
    evaluateTrack axis8 (some map8) (some track8) 1594709 0 =
      { found := .segment 0, frac := some 28398, tangents := none, rounded := 1233, mapped := 46990, sum := 41990
        setpoint := 40000, clamped := true } := by decide +kernel

/-- Table 2-9: a track-less axis keeps its setpoint at ARM. -/
theorem test_held_value : (evaluateTrack { axis2 with origin := 300 } none none 0 (2300 - 300)).setpoint = 2300 := by decide

/-! ### The move clock (Tables 3-3, 3-5, 3-6) -/

/-- Table 3-3: the increments at half speed, and the remainder after four periods. -/
theorem test_half_speed :
    ((takeIncrement { Clock.reset with speed := 500000 }).2 = 786) ∧
      (takeIncrement { Clock.reset with speed := 500000, rem := 864000000000000 }).2 = 787 ∧
      (takeIncrement { Clock.reset with speed := 500000, rem := 296000000000000 }).1.rem = 728000000000000 := by
  decide +kernel

/-- Table 3-5: a stop ramp re-based by a fault at e = 600,000. -/
theorem test_fault_ramp :
    (startFaultRamp { Clock.reset with speed := 600000, ramp := .down .stop 2000 }).ramp = .down .fault 6000 := by decide

/-- Table 3-6: the trim of a period after pulse 2, and after pulse 3. -/
theorem test_follower_trim :
    let c : Clock :=
      { Clock.reset with
        cfg := { ClockSettings.reset with sync := .follower }, speed := 1000000, travel := 64487
        lock := some { pulses := 0, base := 0 } }
    (pulseLock c { pulses := 0, base := 0 }).budget = 1049 ∧ trimOf { c with budget := 1049 } = 196 ∧
      trimOf { c with budget := -132 } = -132 := by decide +kernel

/-- R61: at 24 frames a second the camera-lost timer measures 62.5 ms from its expiry, here 500 µs after the event that takes it. -/
theorem test_lost_timer_restarts_at_its_expiry :
    (loseCamera { Clock.reset with lostTimer := some 500 }).lostTimer = some 63000 := by decide

/-! ### The run check (Tables 5-4, 5-5) -/

def frameKeys (vs : List Int) : Track :=
  (List.range vs.length).map fun i =>
    { time := i * 65536, value := vs.getD i 0, segment := .linear, tangents := .auto }

def axisOfCheck : AxisRec :=
  { AxisRec.reset with
    configured := true, softMin := 0, softMax := 1000000, velLimit := 100000, accLimit := 1500000, window := 100 }

/-- Table 5-3. -/
def moveOfCheck : Move :=
  { name := [0x41]
    tracks :=
      put (put (fill 16 none) 0 (some (frameKeys [0, 1000, 3000, 6000, 9000, 11000]))) 1
        (some (frameKeys [0, 2000, 6000, 11000, 14000, 15000])) }

def progressOfCheck : CheckProgress :=
  { purpose := .arm .play, start := fill 16 0, total := 7, taken := 0, first := none
    peaks := fill 16 { velocity := 0, accel := 0 }, timeLeft := 1000 }

/-- The run list and the axes of the worked example of 05_the_run_check.md. -/
def checkRig : State :=
  { State.reset with
    store := { Store.reset with moves := put (fill 32 none) 0 (some moveOfCheck), free := 16372 }
    axes := { AxisTable.reset with recs := put (put (fill 16 AxisRec.reset) 0 axisOfCheck) 1 axisOfCheck }
    ctrl :=
      { Ctrl.reset with
        state := .checking, purpose := some (.arm .play), armSetpoints := some (fill 16 0)
        runList :=
          [{ slot := 0, startFrame := 0, endFrame := 5, speed := 1000, holdAtEnd := false },
           { slot := 0, startFrame := 5, endFrame := 3, speed := 500, holdAtEnd := false }] }
    check :=
      { progress := some progressOfCheck, record := none } }

/-- Table 5-5 and the record of the failing check. -/
theorem test_failing_check :
    let r := checkRig.completedCheck progressOfCheck
    r.outcome = .fail ∧ r.headroom = some 833 ∧
      r.violation =
        some { kind := .velocity, axis := 1, frame := 3, entry := 1, found := 120000, limit := 100000 } ∧
      r.peaks =
        some [{ axis := 0, velocity := 72000, accel := 864000 }, { axis := 1, velocity := 120000, accel := 1152000 }] := by
  decide +kernel

/-- Table 5-5 up to check frame 2: the peaks so far, exact, and no violation yet. -/
theorem test_walk_so_far :
    (checkRig.walkTo progressOfCheck 3).first = none ∧ (checkRig.walkTo progressOfCheck 4).first.isSome = true ∧
      (State.cancelledCheck (checkRig.walkTo progressOfCheck 3)).walked = 2 := by decide +kernel

/-- The repaired run list. -/
def repairedRig : State :=
  { checkRig with
    ctrl :=
      { checkRig.ctrl with
        runList :=
          [{ slot := 0, startFrame := 0, endFrame := 5, speed := 833, holdAtEnd := false },
           { slot := 0, startFrame := 5, endFrame := 3, speed := 416, holdAtEnd := false }] } }

/-- The record of the repaired check. -/
theorem test_passing_check :
    let r := repairedRig.completedCheck progressOfCheck
    r.outcome = .pass ∧ r.headroom = some 1000 ∧ r.signature.isSome = true ∧
      r.peaks =
        some [{ axis := 0, velocity := 59976, accel := 598560 }, { axis := 1, velocity := 99960, accel := 799360 }] := by
  decide +kernel

/-! ### The motion generator (Table 9-2) -/

def prerollAxis : AxisRec := { AxisRec.reset with jogVel := 50000, jogAcc := 4000000 }

/-- Table 9-2: periods 10 and 14. -/
theorem test_preroll_steps :
    (stepToward prerollAxis 300 50 4)^[10] { x := 0, v := 0 } = { x := 212, v := 32 } ∧
      (stepToward prerollAxis 300 50 4)^[13] { x := 0, v := 0 } = { x := 284, v := 20 } ∧
      (stepToward prerollAxis 300 50 4)^[14] { x := 0, v := 0 } = { x := 300, v := 0 } := by decide +kernel

/-- STOP after period 10: the axis stands at 324. -/
theorem test_generator_stop : (stepToRest prerollAxis 4)^[8] { x := 212, v := 32 } = { x := 324, v := 0 } := by
  decide +kernel

/-- Table 9-3: the wheel term of 40 counts at ratio 2.5. -/
theorem test_wheel_term : wheelTerm 163840 540 500 = 100 := by decide

/-! ### Cues (Table 10-3) -/

def cueA : Cue := { passFrame := 10, line := 6, action := .pulse 30, kinds := .both }
def cueB : Cue := { passFrame := 0, line := 5, action := .set, kinds := .play }
def cueC : Cue := { passFrame := 10, line := 6, action := .pulse 5, kinds := .capture }
def cueD : Cue := { passFrame := 11, line := 6, action := .clear, kinds := .both }
def cueE : Cue := { passFrame := 0, line := 7, action := .set, kinds := .both }
def cueF : Cue := { passFrame := 40, line := 5, action := .clear, kinds := .play }

/-- The table is stored as b, e, a, c, d, f. -/
theorem test_cues_are_sorted : sortCues [cueA, cueB, cueC, cueD, cueE, cueF] = [cueB, cueE, cueA, cueC, cueD, cueF] := by
  decide

/-- Frame 10 in a PLAY pass fires a, and in a CAPTURE pass a and then c. -/
theorem test_cues_at_frame_10 :
    cuesAt [cueB, cueE, cueA, cueC, cueD, cueF] 10 .play = [cueA] ∧
      cuesAt [cueB, cueE, cueA, cueC, cueD, cueF] 10 .capture = [cueA, cueC] := by decide

/-- In the CAPTURE pass c follows a, so the clear of line 6 is due after 5 periods. -/
theorem test_last_cue_counts :
    (lineAfterCues [cueB, cueE, cueA, cueC, cueD, cueF] 10 .capture 6
        { mode := .output, latch := false, selected := false, pendingClear := none }).pendingClear = some 5 := by decide

/-! ### A small rig for the witnesses: axis 3 is configured with its drive ON, slot 1 holds a move with a track on it -/

def keyA : Key := { time := 0, value := 0, segment := .linear, tangents := .auto }
def keyB : Key := { time := 655360, value := 500, segment := .linear, tangents := .auto }
def moveA : Move := { name := [0x41], tracks := put (fill 16 none) 3 (some [keyA, keyB]) }
def rec3 : AxisRec := { AxisRec.reset with configured := true, softMin := -1000, softMax := 1000 }
def entry1 : RunEntry := { slot := 0, startFrame := 0, endFrame := 10, speed := 1000, holdAtEnd := true }
def entry2 : RunEntry := { slot := 0, startFrame := 10, endFrame := 0, speed := 500, holdAtEnd := false }

def rig : State :=
  { State.reset with
    store := { Store.reset with moves := put (fill 32 none) 0 (some moveA), free := 16382 }
    axes := { AxisTable.reset with recs := put (fill 16 AxisRec.reset) 3 rec3 }
    link := { Link.reset with recs := put (fill 16 LinkRec.reset) 3 { LinkRec.reset with drive := .on, stale := false } }
    ctrl := { Ctrl.reset with runList := [entry1, entry2] } }

/-- The rig in a controller state. -/
def rigIn (st : CtrlState) : State := { rig with ctrl := { rig.ctrl with state := st } }

/-- The rig in a controller state with a PLAY pass in entry 1 and a clock. -/
def passIn (st : CtrlState) (form : Option StopForm) (c : Clock) : State :=
  { rig with
    ctrl := { rig.ctrl with state := st, stopForm := form, pass := some .play, entry := 1 }
    clock := c
    log :=
      { PassLog.reset with
        slots := put (fill 4 none) 0 (some { header := openHeader 1 .play 0 (fill 16 false) (.absent .noReference), records := [] })
        age := [1, 2, 3, 0], recording := some 0, counter := 1 } }

def fullSpeed : Clock := { Clock.reset with state := .advancing, speed := 1000000 }

def running : State := passIn .running none fullSpeed

def follower (c : Clock) : Clock := { c with cfg := { c.cfg with sync := .follower } }

def slowing (k : RampKind) (e : Nat) : Clock := { Clock.reset with state := .advancing, speed := e, ramp := .down k 2000 }

/-- The rig with two other link items. -/
def linked (st : DriveState) (count : Nat) (p : Option LinkPeriod) (q : List Acyclic) : State :=
  { rig with
    link :=
      { rig.link with
        recs :=
          put rig.link.recs 3
            { LinkRec.reset with
              drive := st, enableCount := count, enabling := if st = .enabling then some 0 else none, stale := false }
        period := p, queue := q } }

def slots (n : Nat) (u : SlotUse) (first : List Axis) : LinkPeriod :=
  { left := n, axes := [3], first, retries := [], good := [], current := u, agedDone := false }

def pass8 (age : Nat) (flying : Bool) : Acyclic :=
  { axis := 3, index := 40, op := .read, value := 0, tag := 7, age, fails := 2, flying }

/-- The rig with one instance changed. -/
def withInst (s : State) (i : CondId) (c : CondInst) : State := { s with mon := { s.mon with insts := put s.mon.insts i c } }

/-! ### The laws hold in a state in which a pass is running -/

theorem test_store_law : StoreLaw running.store := by constructor <;> decide +kernel

theorem test_order_law : OrderLaw running := by
  constructor
  · unfold TracksOrdered
    decide +kernel
  all_goals decide +kernel

theorem test_clock_law : ClockLaw running := by constructor <;> decide +kernel

theorem test_ctrl_law : CtrlLaw running := by constructor <;> decide +kernel

theorem test_link_law : LinkLaw running := by constructor <;> decide +kernel

theorem test_setpoint_law : SetpointLaw running := by constructor <;> decide +kernel

theorem test_estop_law : EstopLaw running := by constructor <;> decide +kernel

theorem test_monitor_law : MonLaw running.mon := by constructor <;> decide +kernel

theorem test_log_law : LogLaw running.log := by constructor <;> decide +kernel

theorem test_console_law : ConsoleLaw running.console := by constructor <;> decide +kernel

theorem test_quiet : Quiet running := by constructor <;> decide +kernel

/-! ### Witnesses: the laws, with a step of the running rig that answers a next state -/

theorem test_w_EveryCommandKeepsTheStoreLaw : StoreLaw running.store ∧ ∃ t, exec .slotEnd running = .next t := ⟨test_store_law, _, rfl⟩

theorem test_w_EveryCommandKeepsTheLinkLaw : LinkLaw running ∧ ∃ t, exec .slotEnd running = .next t := ⟨test_link_law, _, rfl⟩

theorem test_w_EveryCommandKeepsTheEstopLaw : EstopLaw running ∧ ∃ t, exec .slotEnd running = .next t := ⟨test_estop_law, _, rfl⟩

theorem test_w_EveryCommandKeepsTheMonitorLaw : MonLaw running.mon ∧ ∃ t, exec .slotEnd running = .next t := ⟨test_monitor_law, _, rfl⟩

theorem test_w_EveryCommandKeepsTheLogLaw : LogLaw running.log ∧ ∃ t, exec .slotEnd running = .next t := ⟨test_log_law, _, rfl⟩

theorem test_w_EveryCommandKeepsTheClockLaw :
    ClockLaw running ∧ CtrlLaw running ∧ running.ctrl.pass.isSome = true ∧ ∃ t, exec .slotEnd running = .next t ∧
      t.ctrl.pass.isSome = true ∧ t.log.counter = running.log.counter :=
  ⟨test_clock_law, test_ctrl_law, by decide, _, rfl, by decide +kernel, by decide +kernel⟩

theorem test_w_EveryCommandKeepsTheControllerLaw : CtrlLaw running ∧ ∃ t, exec .slotEnd running = .next t := ⟨test_ctrl_law, _, rfl⟩

theorem test_w_EveryCommandKeepsTheConsoleLaw : ConsoleLaw running.console ∧ ∃ t, exec .slotEnd running = .next t := ⟨test_console_law, _, rfl⟩

theorem test_w_EverySetpointSentEnabledIsInsideTheLimits : SetpointLaw running ∧ ∃ t, exec .slotEnd running = .next t :=
  ⟨test_setpoint_law, _, rfl⟩

/-- A CAPTURE pass with one staging list, which holds the key of pass frame 0. -/
def capturing : State :=
  { running with
    ctrl := { running.ctrl with pass := some .capture, runList := [entry1] }
    wheels := { running.wheels with bindings := [{ axis := 3, wheel := 1, ratio := 65536 }] }
    store :=
      { running.store with
        free := 16381, stagingTarget := some 0
        staging :=
          [{ axis := 3, closed := false, keys := [{ time := 0, value := 7, segment := .smooth, tangents := .auto }] }] } }

theorem test_order_law_of_a_capture : OrderLaw capturing := by
  constructor
  · unfold TracksOrdered
    decide +kernel
  all_goals decide +kernel

theorem test_clock_law_of_a_capture : ClockLaw capturing := by constructor <;> decide +kernel

theorem test_ctrl_law_of_a_capture : CtrlLaw capturing := by constructor <;> decide +kernel

theorem test_w_EveryCommandKeepsTheOrderLaw :
    (OrderLaw capturing ∧ ClockLaw capturing ∧ CtrlLaw capturing ∧ ∃ t, exec .slotEnd capturing = .next t) ∧
      OrderLaw running ∧ ClockLaw running ∧ CtrlLaw running :=
  ⟨⟨test_order_law_of_a_capture, test_clock_law_of_a_capture, test_ctrl_law_of_a_capture, _, rfl⟩, test_order_law,
    test_clock_law, test_ctrl_law⟩

/-! ### Witnesses: the resets and the move store -/

theorem test_w_StepRunsTheFrontCommand : State.reset.pending = [] := rfl

theorem test_w_RigResetResult : running.log.recording ≠ some 1 ∧ running.ctrl.pass.isSome = true := by decide

theorem test_w_MoveCreateAndDelete :
    (nameOk [32] = true ∧ nameOk (List.replicate 16 126) = true ∧ rig.store.moves[(31 : MoveSlot)] = none) ∧
      (nameOk [126] = true ∧ rig.store.moves[(0 : MoveSlot)] = some moveA ∧ rig.frozen 0 = false) ∧
      (nameOk [] = false ∧ nameOk (List.replicate 17 65) = false ∧ nameOk [31] = false) ∧
      (rigIn .checking).frozen 0 = true ∧ ((33 : Nat) = 0 ∨ (32 : Nat) < 33) := by decide +kernel

def lowKey : Key := { time := 0, value := minI32, segment := .step, tangents := .set minI32 maxI32 }
def highKey : Key := { time := maxU32, value := maxI32, segment := .smooth, tangents := .auto }

/-- The rig with a track of n keys on axis 3 and some free keys. -/
def stocked (n free : Nat) : State :=
  { rig with
    store :=
      { rig.store with
        moves := put (fill 32 none) 0 (some { moveA with tracks := put (fill 16 none) 3 (some (List.replicate n keyA)) })
        free } }

theorem test_w_TrackWriteReplacesOrAppends :
    ([lowKey, highKey].all keyInRange = true ∧ ascending [lowKey, highKey] = true) ∧
      ((List.range 64).map fun i => autoKey i 0).length = 64 ∧ ascending ((List.range 64).map fun i => autoKey i 0) = true ∧
      ((stocked 2 0).frozen 0 = false ∧ 2 ≤ (stocked 2 0).store.free + 2) ∧
      (∀ last ∈ (List.replicate 4032 keyA).getLast?, ∀ first ∈ ((List.range 64).map fun i => autoKey (i + 1) 0).head?,
        last.time < first.time) ∧
      4032 + 64 ≤ 4096 ∧ 64 ≤ (stocked 4032 64).store.free := by decide +kernel

theorem test_w_TrackClearCopyAndShift :
    rig.store.moves[(0 : MoveSlot)] = some moveA ∧ rig.frozen 0 = false ∧ moveA.tracks[(3 : Axis)] = some [keyA, keyB] ∧
      [keyA, keyB].length ≤ (stocked 2 0).store.free + 2 ∧ fits32 minI32 = true ∧ fits32 maxI32 = true ∧
      (∀ k ∈ [keyA, keyB], 0 ≤ (k.time : Int) + 0 ∧ (k.time : Int) + 0 ≤ 4294967295 ∧ fits32 (k.value + 2147483147) = true) ∧
      (∃ k ∈ [keyA, keyB], (k.time : Int) + (-1) < 0 ∨ 4294967295 < (k.time : Int) + (-1) ∨ fits32 (k.value + 0) = false) := by
  decide +kernel

theorem test_w_KeyEditInsertAndDelete :
    keyInRange keyB = true ∧ 1 < [keyA, keyB].length ∧
      (∃ k, [keyA, keyB][1 - 1]? = some k ∧ k.time < keyB.time) ∧ (∀ k, [keyA, keyB][1 + 1]? = some k → keyB.time < k.time) ∧
      (∀ k ∈ [keyA, keyB], k.time ≠ (autoKey 5 0).time) ∧ ascending [keyA, keyB] = true ∧
      (stocked 4095 1).store.free = 1 ∧ trackCount { moveA with tracks := fill 16 (some (List.replicate 4095 keyA)) } 3 < 4096 :=
  ⟨by decide, by decide, ⟨keyA, by decide⟩, fun k h => (nomatch h), by decide, by decide, by decide +kernel, by decide +kernel⟩

theorem test_w_MoveListAndTrackRead :
    (1 < [keyA, keyB].length ∧ [keyA, keyB].length ≤ 2 ∧ [keyA, keyB].length ≤ 65535 ∧ 1 ≤ 64) ∧
      (rig.store.moves[(0 : MoveSlot)] = some moveA ∧ moveA.tracks[(3 : Axis)] = some [keyA, keyB]) ∧
      (∀ mv : Move, rig.store.moves[(0 : MoveSlot)] = some mv → mv.tracks[(0 : Axis)] = none) ∧
      (∀ mv : Move, rig.store.moves[(1 : MoveSlot)] = some mv → mv.tracks[(0 : Axis)] = none) ∧ (15 < 16 ∧ 32 < 33) := by
  have h0 : rig.store.moves[(0 : MoveSlot)] = some moveA := by decide +kernel
  have h1 : rig.store.moves[(1 : MoveSlot)] = none := by decide +kernel
  refine ⟨by decide, ⟨h0, by decide⟩, fun mv h => ?_, fun mv h => ?_, by decide⟩
  · obtain rfl := Option.some.inj (h0.symm.trans h)
    decide
  · exact nomatch h1.symm.trans h

/-- A move frozen by a run that is pending, an empty slot, and a pool or a track with no room. -/
theorem test_w_StoreRequestsRefused :
    (isStoreRequest (.keyDelete 0 []) = true ∧ isStoreRequest (.trackCopy 0 []) = true ∧
        (rigIn .checking).frozen 0 = true ∧ (rigIn .checking).store.moves[(0 : MoveSlot)] = some moveA) ∧
      (keyInRange lowKey = true ∧ keyInRange highKey = true ∧ [lowKey].all keyInRange = true ∧ ascending [highKey] = true ∧
        fits32 minI32 = true ∧ fits32 maxI32 = true ∧ moveA.tracks[(3 : Axis)] = some [keyA, keyB]) ∧
      rig.store.moves[(1 : MoveSlot)] = none ∧
      (rig.frozen 0 = false ∧ moveA.tracks[(0 : Axis)] = none ∧ (stocked 2 0).store.free = 0 ∧
        (stocked 2 0).store.free + 0 < [keyA, keyB].length ∧ (∀ k ∈ [keyA, keyB], k.time ≠ highKey.time)) ∧
      (4096 ≤ (List.replicate 4096 keyA).length ∧ 4096 < (List.replicate 4096 keyA).length + [highKey].length ∧
        (∀ last ∈ (List.replicate 4096 keyA).getLast?, ∀ first ∈ [highKey].head?, last.time < first.time)) := by
  decide +kernel

/-! ### Witnesses: path evaluation and the axis table -/

theorem test_w_SetpointsStayInsideTheSoftLimits :
    rec3.softMin ≤ rec3.softMax ∧
      ({ rec3 with softMin := 5, softMax := 5 } : AxisRec).softMin ≤ ({ rec3 with softMin := 5, softMax := 5 } : AxisRec).softMax ∧
      (evaluateTrack rec3 none none 0 1001).clamped = true ∧ (evaluateTrack rec3 none none 0 1000).clamped = false := by
  decide

theorem test_w_ThePathPassesThroughItsKeys :
    (ascending [keyA, keyB] = true ∧ [keyA, keyB][1]? = some keyB ∧ fits32 keyB.value = true) ∧
      (track2.head? = some (autoKey 100 10000) ∧ 6553599 < (autoKey 100 10000).time) ∧
      (track2.getLast? = some (autoKey 230 9500) ∧ (autoKey 230 9500).time ≤ 15073280) ∧
      (fits32 minI32 = true ∧ fits32 maxI32 = true) ∧ rec3.softMin ≤ (-1000 : Int) ∧ (1000 : Int) ≤ rec3.softMax := by decide

/-- The first and the last move time of a segment; the first key, a peak, a key between two lower ones and the last key of Table 1-2; a
key with tangents of its own. -/
theorem test_w_ThePathPassesThroughItsKeys_inside :
    (ascending track2 = true ∧ track2[0]? = some (autoKey 100 10000) ∧ track2[0 + 1]? = some (autoKey 140 12000) ∧
        (autoKey 100 10000).time ≤ 6553600 ∧ 6553600 < (autoKey 140 12000).time ∧ 9175039 < (autoKey 140 12000).time ∧
        (autoKey 100 10000).segment = .smooth) ∧
      (ascending track8 = true ∧ (track8[0]?).map (·.segment) = some .linear ∧
        ({ autoKey 100 10000 with segment := .step } : Key).segment = .step) ∧
      (track2[0 + 2]? = some (autoKey 200 11000) ∧ (autoKey 140 12000).value > (autoKey 200 11000).value) ∧
      (track2[1 + 2]? = some (autoKey 230 9500) ∧ (autoKey 200 11000).value < (autoKey 140 12000).value ∧
        (autoKey 230 9500).value < (autoKey 200 11000).value) ∧
      (track2[2 + 1]? = some (autoKey 230 9500) ∧ track2[2 + 2]? = none) ∧
      ((autoKey 100 10000).tangents = .auto ∧
        ({ autoKey 100 10000 with tangents := .set minI32 maxI32 } : Key).tangents = .set minI32 maxI32) := by decide +kernel

/-- Outside a lens map's inputs, at one and strictly between two. -/
theorem test_w_ThePathPassesThroughItsKeys_map :
    (risingInputs map8 = true ∧ map8.head? = some (0, 0) ∧ map8.getLast? = some (4000, 100000)) ∧
      ((1000, 40000) ∈ map8 ∧ map8[1]? = some (1000, 40000) ∧ map8[1 + 1]? = some (2000, 70000)) ∧
      ((-1 : Int) < 0 ∧ (4000 : Int) < 4001 ∧ (1000 : Int) < 1001 ∧ (1999 : Int) < 2000) := by decide

/-- The narrowest and the widest axis record. -/
def recLow : AxisRec :=
  { configured := false, softMin := -2147483648, softMax := -2147483647, origin := minI32, velLimit := 1, accLimit := 1
    jogVel := 1, jogAcc := 1, window := 0 }

def recHigh : AxisRec :=
  { configured := true, softMin := 2147483646, softMax := 2147483647, origin := maxI32, velLimit := 2147483647
    accLimit := 2147483647, jogVel := 2147483647, jogAcc := 2147483647, window := 65535 }

/-- The rig at 4,000 periods a second, ten slots each, with ten axes configured: axes 3 to 12. -/
def fullBudget : State :=
  { rig with
    axes := { rig.axes with recs := Vector.ofFn fun a => if 3 ≤ a.val ∧ a.val ≤ 12 then rec3 else AxisRec.reset }
    clock := { rig.clock with cfg := { rig.clock.cfg with servoRate := 4000 } } }

theorem test_w_AxisSetAndGet :
    (axisRecInRange recLow = true ∧ axisRecInRange recHigh = true) ∧
      (rig.runPending = false ∧ rec3.softMin ≤ rig.currentSetpoint 3 ∧ rig.currentSetpoint 3 ≤ rec3.softMax) ∧
      (recHigh.configured = true ∧ rig.configured 0 = false ∧ rig.driveOf 0 = .off ∧
        rig.configuredAxes.length + 1 ≤ 1000000 / rig.clock.cfg.servoRate / 25) ∧
      (recLow.configured = false ∧ (linked .off 0 none []).configured 3 = true ∧ (linked .off 0 none []).driveOf 3 = .off ∧
        (linked .off 0 none []).link.due[(3 : Axis)] = false) ∧
      (rigIn .checking).runPending = true ∧
      (rig.driveOf 3 ≠ .off ∧ rig.currentSetpoint 3 < recHigh.softMin ∧
        recLow.softMax < rig.currentSetpoint 3 ∧ axisRecInRange { recLow with configured := true } = true) ∧
      (fullBudget.runPending = false ∧ fullBudget.configured 0 = false ∧ fullBudget.driveOf 0 = .off ∧
        fullBudget.configuredAxes.length = 1000000 / fullBudget.clock.cfg.servoRate / 25) := by decide +kernel

theorem test_w_LensMapsAndTheProbe :
    (mapInRange [(minI32, 0), (maxI32, maxI32)] = true ∧
        mapInRange ((List.range 64).map fun i => ((i : Int), minI32)) = true) ∧
      rig.runPending = false ∧ (rigIn .checking).runPending = true ∧
      (rig.store.moves[(0 : MoveSlot)].isSome = true ∧ rig.configured 3 = true ∧ maxU32 ≤ maxU32) ∧
      rig.store.moves[(1 : MoveSlot)] = none ∧ (rig.configured 0 = false ∧ rig.trackOf 0 0 = none) := by decide +kernel

/-! ### Witnesses: the move clock -/

def settingsLow : ClockSettings :=
  { sync := .master, frameRate := 1000, servoRate := 4000, trigWidth := 8, holdRamp := 1, resumeRamp := 1, faultRamp := 1 }

def settingsHigh : ClockSettings :=
  { sync := .master, frameRate := 250000, servoRate := 1000, trigWidth := 3, holdRamp := 65535, resumeRamp := 65535
    faultRamp := 65535 }

/-- Eleven axes configured, one more than a period of 250 µs has slots. -/
def crowded : State :=
  { rig with axes := { rig.axes with recs := Vector.ofFn fun a => if a.val ≤ 10 then rec3 else AxisRec.reset } }

theorem test_w_ClockSetAndGet :
    (settingsInRange settingsLow = true ∧ settingsInRange settingsHigh = true) ∧ rig.runPending = false ∧
      rig.configuredAxes.length ≤ 1000000 / settingsLow.servoRate / 25 ∧
      settingsHigh.trigWidth < 1000000000 / (settingsHigh.frameRate * (1000000 / settingsHigh.servoRate)) ∧
      (rigIn .checking).runPending = true ∧
      (crowded.runPending = false ∧ crowded.configuredAxes.length = 1000000 / settingsLow.servoRate / 25 + 1) ∧
      (settingsInRange { settingsHigh with trigWidth := 4 } = true ∧
        4 = 1000000000 / (settingsHigh.frameRate * (1000000 / settingsHigh.servoRate))) := by decide +kernel

/-- One subframe before the end of an entry, and well inside it. -/
def almost : Clock := { fullSpeed with time := 655359, travel := 655359, passFrame := 9 }

/-- A locked follower with a budget within the bound of the trim, and beyond it. -/
def trimmed (budget : Int) : Clock := { follower fullSpeed with lock := some { pulses := 1, base := 0 }, budget }

theorem test_w_AdvanceCarriesOrLands :
    (fullSpeed.cfg.sync ≠ .follower ∧ (trimmed 196).cfg.sync = .follower ∧ (trimmed (-197)).lock.isSome = true ∧
        196 ≤ (24000 * 1000000 * 1000 * 65536 + 0) / 1000000000000000) ∧
      (almost.passFrame = almost.travel / 65536 ∧ almost.travel ≤ maxU32 ∧
      (toEntryEnd almost entry1 = 1 ∧
        1 ≤ (takeIncrement (rampStep almost (targetSpeed almost.cfg entry1))).2)) ∧
      ((takeIncrement (rampStep fullSpeed (targetSpeed fullSpeed.cfg entry1))).2 < toEntryEnd fullSpeed entry1) ∧
      entry1.holdAtEnd = true ∧ entry2.holdAtEnd = false := by decide +kernel

theorem test_w_DownRampsAndTriggersEnd :
    (1 ≤ 65535 ∧ (slowing .hold 5000).ramp = .down .hold 2000 ∧ 1 ≤ (slowing .hold 5000).cfg.faultRamp) ∧
      ((passIn .holding none (slowing .hold 0)).clock.state = .advancing ∧
        (passIn .holding none (slowing .hold 0)).clock.ramp = .down .hold 2000 ∧ (slowing .hold 0).speed = 0) ∧
      ((passIn .stopping (some .path) (slowing .stop 0)).clock.ramp = .down .stop 2000 ∧
        (passIn .stopping (some .path) (slowing .stop 0)).ctrl.pass.isSome = true ∧ (slowing .stop 0).speed = 0 ∧
        (slowing .stop 0).state = .advancing ∧
        (passIn .stopping (some .path) (slowing .stop 0)).log.recording = some 0) ∧
      ((passIn .faultStopping (some .path) (slowing .fault 0)).clock.ramp = .down .fault 2000 ∧
        (passIn .faultStopping (some .path) (slowing .fault 0)).ctrl.pass.isSome = true ∧ (slowing .fault 0).speed = 0 ∧
        (slowing .fault 0).state = .advancing) ∧
      (slowing .hold 1).speed ≠ 0 ∧ ({ fullSpeed with trigger := some 0 } : Clock).trigger = some 0 ∧
      fullSpeed.trigger ≠ some 0 := by decide +kernel

/-- A FOLLOWER pass with CAMERA selected on L0 and the edge detector armed. -/
def filming (c : Clock) : State :=
  let s := passIn .running none (follower c)
  { s with
    lines :=
      { s.lines with
        lines := put s.lines.lines 0 { mode := .input, latch := false, selected := true, pendingClear := none }, edgeArmed := true } }

def cameraStart : State := filming { Clock.reset with state := .waiting, lostTimer := some 62500 }
def cameraResumed : State := filming { Clock.reset with state := .waiting, travel := 65536, passFrame := 1 }
def cameraLocked : State := filming { fullSpeed with travel := 57344, lock := some { pulses := 0, base := 0 } }
def cameraSilent : State := filming { fullSpeed with lostTimer := some 1000 }
def cameraStopped : State := filming Clock.reset
def cameraSlowing : State := filming (slowing .stop 5)

/-- The silent camera with CAMERA_LOST only reported. -/
def cameraReported : State :=
  { cameraSilent with
    mon :=
      { cameraSilent.mon with
        settings :=
          put cameraSilent.mon.settings cameraLostCond { Monitor.default cameraLostCond with mode := .reportOnly } } }

/-- R56, R59, R61: a landing releases the lock and stops the timer; the loss before it still waits for its pulse. -/
theorem test_loss_outlasts_a_landing :
    (landClock { follower fullSpeed with lostTimer := some 9, lost := true } entry1 5).lost = true ∧
      (landClock { follower fullSpeed with lostTimer := some 9, lost := true } entry1 5).lostTimer = none := by decide

/-- The camera of a resumed pass, after a loss. -/
def cameraMissed : State := { cameraResumed with clock := { cameraResumed.clock with lost := true } }

theorem test_w_CameraPulsesAndTheirLoss :
    (cameraStart.isPulse = true ∧ cameraStart.clock.state = .waiting ∧ cameraStart.ctrl.pass.isSome = true ∧
        cameraStart.log.heldSlot = none) ∧
      (cameraResumed.isPulse = true ∧ cameraResumed.clock.state = .waiting ∧ cameraResumed.clock.travel ≠ 0) ∧
      (cameraMissed.isPulse = true ∧ cameraMissed.clock.state = .waiting ∧ cameraMissed.clock.travel ≠ 0 ∧
        cameraMissed.clock.lost = true ∧ (cameraMissed.mon.settings[cameraLostCond]).mode ≠ .off ∧
        cameraMissed.ctrl.pass = some .play ∧ cameraStart.clock.travel = 0) ∧
      (cameraLocked.isPulse = true ∧ cameraLocked.clock.state = .advancing ∧
        cameraLocked.clock.lock = some { pulses := 0, base := 0 } ∧
        (((0 + 1 : Nat) : Int) * 65536 - (57344 - 0)).natAbs ≤ (cameraLocked.mon.settings[cameraSlipCond]).threshold) ∧
      (cameraSilent.isPulse = true ∧ cameraSilent.clock.state = .advancing ∧ cameraSilent.clock.lock = none ∧
        cameraSilent.clock.ramp = .none ∧ cameraStopped.isPulse = true ∧ cameraStopped.clock.state = .stopped ∧
        cameraSlowing.isPulse = true ∧ cameraSlowing.clock.lock = none ∧ cameraSlowing.clock.ramp = .down .stop 2000) ∧
      (running.isPulse = false ∧ running.clock.lostTimer = none) ∧
      (cameraSilent.clock.lostTimer = some 1000 ∧ 1000 ≤ cameraSilent.clock.period ∧
        (cameraSilent.mon.settings[cameraLostCond]).mode = .latched ∧
        (cameraSilent.mon.settings[cameraLostCond]).deglitch ≤ 1 ∧
        (cameraSilent.mon.insts[cameraLostCond]).active = false) ∧
      (cameraReported.clock.lostTimer = some 1000 ∧
        (cameraReported.mon.settings[cameraLostCond]).mode = .reportOnly ∧
        (cameraReported.mon.settings[cameraLostCond]).deglitch ≤ 1) := by decide +kernel

/-! ### Witnesses: the run controller -/

def entryLow : RunEntry := { slot := 0, startFrame := 0, endFrame := 1, speed := 1, holdAtEnd := false }
def entryHigh : RunEntry := { slot := 0, startFrame := 65535, endFrame := 0, speed := 1000, holdAtEnd := true }

theorem test_w_TakeLoadAndGet :
    ([entryLow, entryHigh].all entryInRange = true ∧ (List.replicate 20 entryLow).all entryInRange = true) ∧
      (rig.ctrl.state = .idle ∧ ∀ e ∈ [entryLow, entryHigh], rig.store.moves[e.slot].isSome = true) ∧
      (rigIn .faulted).ctrl.state = .faulted ∧
      ((rigIn .held).ctrl.state ≠ .idle ∧ (rigIn .held).ctrl.state ≠ .faulted) ∧
      ([entryLow, { entryHigh with slot := 1 }] = [entryLow] ++ { entryHigh with slot := 1 } :: [] ∧
        rig.store.moves[(1 : MoveSlot)] = none) := by decide +kernel

/-- The rig ready for a CAPTURE: one run entry, and wheel 1 bound to axis 3. -/
def captureRig : State :=
  { rig with
    ctrl := { rig.ctrl with runList := [entry1] }
    wheels := { rig.wheels with bindings := [{ axis := 3, wheel := 1, ratio := 65536 }] } }

theorem test_w_CheckAndArmStartTheCheck :
    (rig.ctrl.state = .idle ∧ rig.ctrl.runList ≠ [] ∧
        ∀ e ∈ rig.ctrl.runList, rig.store.moves[e.slot].isSome = true) ∧
      (rig.configuredAxes ≠ [] ∧ (∀ a : Axis, rig.configured a = true → rig.driveOf a = .on) ∧
        (∀ i : CondId, (rig.mon.insts[i]).latched = none ∧ (rig.mon.insts[i]).active = false) ∧
        ∀ a : Axis, rig.mon.detached[a] = []) ∧
      (captureRig.ctrl.runList = [entry1] ∧ entry1.startFrame < entry1.endFrame ∧ captureRig.wheels.bindings ≠ [] ∧
        ∀ b ∈ captureRig.wheels.bindings, captureRig.configured b.axis = true ∧ captureRig.axes.maps[b.axis] = none) ∧
      (rigIn .armed).ctrl.state ≠ .idle := by decide +kernel

/-- The rig armed for a PLAY pass, in a sync mode. -/
def armedRig (sync : SyncMode) : State :=
  { rig with
    clock := { rig.clock with cfg := { rig.clock.cfg with sync } }
    ctrl := { rig.ctrl with state := .armed, purpose := some (.arm .play) } }

/-- A pass held after a landing, its next entry at hand. -/
def landedIn (c : Clock) : State :=
  { passIn .held none c with ctrl := { (passIn .held none c).ctrl with landing := true } }

/-- A return record of the rig. -/
def placeOfPass : ReturnRec :=
  { entry := 1, landing := false, time := 65536, dir := .forward, travel := 65536, passFrame := 1, rem := 0, speed := 0
    setpoints := fill 16 0 }

/-- The rig with a pass left at that place. -/
def awayIn (st : CtrlState) (inPos : Nat) : State :=
  { rig with ctrl := { rig.ctrl with state := st, pass := some .play, entry := 1, ret := some placeOfPass, inPos } }

theorem test_w_GoBeginsAndResumesThePass :
    ((armedRig .free).ctrl.state = .armed ∧ (armedRig .free).ctrl.runList = entry1 :: [entry2] ∧
        (armedRig .free).ctrl.purpose = some (.arm .play) ∧ (armedRig .free).log.reference = none ∧
        (armedRig .free).clock.cfg.sync ≠ .follower) ∧
      ((armedRig .master).clock.cfg.sync = .master ∧ (armedRig .follower).clock.cfg.sync = .follower) ∧
      ((passIn .holding none (slowing .hold 5)).currentEntry? = some entry1 ∧
        (passIn .holding none (slowing .hold 5)).ctrl.state = .holding) ∧
      ((passIn .held none { Clock.reset with state := .atRest }).currentEntry? = some entry1 ∧
        (passIn .held none { Clock.reset with state := .atRest }).ctrl.ret = none ∧
        (passIn .held none { Clock.reset with state := .atRest }).ctrl.landing = false) ∧
      ((landedIn { Clock.reset with state := .atRest }).runEntry? (1 + 1) = some entry2 ∧
        (landedIn { Clock.reset with state := .atRest }).ctrl.landing = true ∧
        (landedIn (follower { Clock.reset with state := .atRest })).clock.cfg.sync = .follower) ∧
      (rig.ctrl.state ≠ .armed ∧ rig.ctrl.state ≠ .holding ∧ rig.ctrl.state ≠ .held) ∧
      ((awayIn .held 0).ctrl.state = .held ∧ (awayIn .held 0).ctrl.ret.isSome = true) := by decide +kernel

/-- R194: a GO that takes the pass up again makes the skipped count 0. -/
theorem test_go_clears_the_skipped_count :
    let s := passIn .holding none (slowing .hold 5)
    (({ s with console := { s.console with skipped := 9 } } : State).takeGo id).map (·.console.skipped) = some 0 := by
  decide +kernel

theorem test_w_HoldSlowsThePass :
    (running.ctrl.state = .running ∧ running.clock.cfg.sync ≠ .follower ∧ running.clock.speed ≠ 0) ∧
      (cameraLocked.ctrl.state = .running ∧ cameraLocked.clock.cfg.sync = .follower ∧
        cameraLocked.clock.state = .advancing ∧ cameraLocked.clock.speed ≠ 0 ∧ cameraLocked.clock.ramp = .none ∧
        cameraLocked.console.held = [] ∧ cameraLocked.console.outQ.length ≤ 62 ∧
        cameraLocked.console.outQ.all (!isStateReport ·) = true) ∧
      (passIn .holding none (slowing .hold 5)).ctrl.state = .holding ∧
      (rig.ctrl.state ≠ .running ∧ rig.ctrl.state ≠ .holding) := by decide +kernel

theorem test_w_StopInEveryState :
    rig.ctrl.state = .idle ∧
      (checkRig.ctrl.state = .checking ∧ checkRig.check.progress = some progressOfCheck) ∧
      ((rigIn .preroll).ctrl.state = .preroll ∧ (rigIn .preroll).configured 3 = true ∧
        (rigIn .preroll).mon.detached[(3 : Axis)] = [] ∧ (rigIn .preroll).driveOf 3 ≠ .off ∧
        ((rigIn .preroll).gen.recs[(3 : Axis)]).mode ≠ .capture) ∧
      (rigIn .armed).ctrl.state = .armed ∧
      (running.ctrl.state = .running ∧ running.clock.state = .advancing ∧ running.clock.speed ≠ 0 ∧
        running.clock.ramp = .none) ∧
      ((passIn .holding none (slowing .hold 5)).ctrl.state = .holding ∧ (slowing .hold 5).speed ≠ 0 ∧
        (slowing .hold 5).ramp = .down .hold 2000) ∧
      (cameraStart.ctrl.state = .running ∧ cameraStart.clock.state = .waiting ∧
        cameraStart.ctrl.pass = some .play) ∧
      (passIn .held none Clock.reset).ctrl.pass = some .play ∧
      ((rigIn .jogging).ctrl.state = .jogging ∧ (awayIn .returning 0).ctrl.state = .returning ∧
        (awayIn .returning 0).ctrl.pass.isSome = true) := by decide +kernel

theorem test_w_ReturnAndArrivals :
    ((awayIn .held 0).ctrl.ret = some placeOfPass ∧ (awayIn .held 0).ctrl.state = .held) ∧
      ((awayIn .jogging 0).ctrl.ret = some placeOfPass ∧ (awayIn .jogging 0).ctrl.state = .jogging ∧
        (awayIn .jogging 0).configured 3 = true ∧ (awayIn .jogging 0).mon.detached[(3 : Axis)] = []) ∧
      rig.ctrl.ret = none ∧ ((awayIn .returning 0).ctrl.state ≠ .jogging ∧ (awayIn .returning 0).ctrl.state ≠ .held) ∧
      ((awayIn .preroll 10).ctrl.state = .preroll ∧ (awayIn .preroll 10).ctrl.inPos = 10) ∧
      ((awayIn .returning 10).ctrl.state = .returning ∧ (awayIn .returning 10).ctrl.inPos = 10 ∧
        (awayIn .returning 10).ctrl.ret = some placeOfPass) ∧
      (awayIn .returning 9).ctrl.inPos ≠ 10 := by decide +kernel

/-- A rig of the worked example with both drives ON, its check at its end. -/
def onRig (s : State) : State :=
  { s with
    link :=
      { s.link with
        recs :=
          put (put s.link.recs 0 { LinkRec.reset with drive := .on, stale := false }) 1
            { LinkRec.reset with drive := .on, stale := false } } }

/-- The repaired rig with its drives ON and axis 1 detached. -/
def detachedRepair : State :=
  { onRig repairedRig with
    mon := { (onRig repairedRig).mon with detached := put (onRig repairedRig).mon.detached 1 [condOn .follow 1] } }

theorem test_w_CheckCompletionActsOnItsPurpose :
    ((onRig checkRig).ctrl.state = .checking ∧ (onRig checkRig).check.progress = some progressOfCheck ∧
        progressOfCheck.timeLeft ≤ (onRig checkRig).clock.period ∧ progressOfCheck.purpose = .arm .play ∧
        ((onRig checkRig).completedCheck progressOfCheck).outcome ≠ .pass) ∧
      ((onRig repairedRig).ctrl.state = .checking ∧ (onRig repairedRig).check.progress = some progressOfCheck ∧
        ((onRig repairedRig).completedCheck progressOfCheck).outcome = .pass ∧
        (onRig repairedRig).ctrl.armSetpoints = some (fill 16 0) ∧
        (onRig repairedRig).runEntry? 1 =
          some { slot := 0, startFrame := 0, endFrame := 5, speed := 833, holdAtEnd := false } ∧
        (∀ a : Axis, (onRig repairedRig).configured a = true → (onRig repairedRig).driveOf a = .on) ∧
        (∀ a : Axis, (onRig repairedRig).mon.detached[a] = []) ∧ (onRig repairedRig).configured 1 = true) ∧
      (checkRig.clock.period < ({ progressOfCheck with timeLeft := 1001 } : CheckProgress).timeLeft) ∧
      (repairedRig.ctrl.state = .checking ∧ repairedRig.check.progress = some progressOfCheck ∧
        (repairedRig.completedCheck progressOfCheck).outcome = .pass ∧ repairedRig.configured 1 = true ∧
        repairedRig.driveOf 1 ≠ .on) ∧
      (detachedRepair.ctrl.state = .checking ∧ detachedRepair.check.progress = some progressOfCheck ∧
        (detachedRepair.completedCheck progressOfCheck).outcome = .pass ∧ detachedRepair.mon.detached[(1 : Axis)] ≠ []) := by
  decide +kernel

theorem test_w_APassedTakeNeverClamps :
    progressOfCheck.total = totalFrames repairedRig.ctrl.runList ∧
      (repairedRig.completedCheck progressOfCheck).outcome = .pass ∧
      ({ slot := 0, startFrame := 0, endFrame := 5, speed := 833, holdAtEnd := false } : RunEntry) ∈
        repairedRig.ctrl.runList ∧
      repairedRig.configured 1 = true ∧
      repairedRig.trackOf 0 1 = some (frameKeys [0, 2000, 6000, 11000, 14000, 15000]) ∧
      (isCapturePurpose progressOfCheck.purpose && isBound repairedRig.wheels.bindings 1) = false ∧
      5 ≤ entryLength { slot := 0, startFrame := 0, endFrame := 5, speed := 833, holdAtEnd := false } := by decide +kernel

/-! ### Witnesses: the axis link -/

def inst0 : CondInst := { CondInst.reset with latched := some .driveOff, last := true, falseRun := 0 }

/-- The rig with the e-stop input active. -/
def stoppedRig : State :=
  { linked .off 0 none [] with lines := { rig.lines with filterL1 := { active := true, count := 0 } } }

theorem test_w_DrivesOnAndOff :
    ((linked .off 0 none []).runPending = false ∧
        (∀ i : CondId, ((linked .off 0 none []).mon.insts[i]).latched ≠ some .driveOff) ∧
        (linked .off 0 none []).estopActive = false ∧ Nat.testBit 8 3 = true ∧
        (linked .off 0 none []).configured 3 = true ∧ (linked .off 0 none []).driveOf 3 = .off ∧
        ((linked .off 0 none []).link.recs[(3 : Axis)]).stale = false) ∧
      (Nat.testBit 65535 15 = true ∧ Nat.testBit 65535 3 = true ∧ Nat.testBit 1 3 = false) ∧
      (rigIn .armed).runPending = true ∧
      ((withInst rig 20 inst0).runPending = false ∧ ((withInst rig 20 inst0).mon.insts[(20 : CondId)]).latched = some .driveOff) ∧
      (stoppedRig.runPending = false ∧ stoppedRig.estopActive = true) ∧
      ((rigIn .armed).ctrl.state ≠ .running ∧ (rigIn .armed).ctrl.state ≠ .holding ∧ (rigIn .armed).ctrl.state ≠ .preroll ∧
        (rigIn .armed).ctrl.state ≠ .returning ∧ (rigIn .armed).ctrl.state ≠ .stopping) ∧
      rig.ctrl.state = .idle ∧ running.ctrl.state = .running ∧
      ((rigIn .armed).driveOf 3 = .on ∧ Nat.testBit 8 3 = true ∧
        (passIn .held none { Clock.reset with state := .atRest }).driveOf 3 = .on ∧
        (passIn .held none { Clock.reset with state := .atRest }).ctrl.pass = some .play ∧ (awayIn .jogging 0).driveOf 3 = .on ∧
        (awayIn .jogging 0).ctrl.pass = some .play ∧ (awayIn .jogging 0).ctrl.ret.isSome = true) := by decide +kernel

theorem test_w_DrivePassAndLinkGet :
    (rig.configured 3 = true ∧ rig.link.queue.length < 4) ∧
      (linked .on 0 none (List.replicate 3 (pass8 0 false))).link.queue.length < 4 ∧
      ((linked .on 0 none (List.replicate 4 (pass8 0 false))).configured 3 = true ∧
        4 ≤ (linked .on 0 none (List.replicate 4 (pass8 0 false))).link.queue.length) ∧
      rig.configured 0 = false := by decide +kernel

theorem test_w_DriveRepliesAreTaken :
    ((linked .enabling 5 (some (slots 39 (.setpoint 3 false) [])) []).configured 3 = true ∧
        (linked .enabling 5 (some (slots 39 (.setpoint 3 false) [])) []).driveOf 3 = .enabling ∧
        ((linked .enabling 5 (some (slots 39 (.setpoint 3 false) [])) []).link.recs[(3 : Axis)]).enabling = some 0 ∧
        fits32 minI32 = true ∧ fits32 maxI32 = true ∧ (1#8).getLsbD 0 = true) ∧
      ((linked .on 0 (some (slots 39 (.setpoint 3 true) [])) []).driveOf 3 ≠ .enabling) ∧
      ((linked .on 0 (some (slots 30 .acyclic [])) [pass8 3 true]).link.queue.find? (·.flying) = some (pass8 3 true)) ∧
      (slots 30 .unused []).current = .unused := by decide +kernel

/-- Bytes that are no reply of axis 3 in either slot. -/
theorem test_w_DriveRepliesAreTaken_bad :
    (∀ (z : Int) (st : Byte), fits32 z = true → [0#8] ≠ linkFrame (u8 3 ++ [0x80#8] ++ i32 z ++ [st])) ∧
      ∀ (result : Byte) (value : BitVec 32), result = 0x00#8 ∨ result = 0x01#8 →
        [0#8] ≠ linkFrame (u8 3 ++ [0x81#8, result] ++ u32 value.toNat) :=
  ⟨fun _ _ _ h => by simp [linkFrame, u8, beBytes] at h, fun _ _ _ h => by simp [linkFrame, u8, beBytes] at h⟩

theorem test_quiet_rig : Quiet (linked .on 0 none []) := by constructor <;> decide +kernel

/-- Whatever the period and the queue, the rig has no event due. -/
theorem test_quiet_of_a_link (p : Option LinkPeriod) (q : List Acyclic) : Quiet (linked .on 0 p q) :=
  ⟨test_quiet_rig.trigger, test_quiet_rig.clears, test_quiet_rig.edges, test_quiet_rig.ramp, test_quiet_rig.enables,
    test_quiet_rig.arrival, test_quiet_rig.timer, test_quiet_rig.check, test_quiet_rig.refresh⟩

/-- A transaction of an axis, just queued. -/
def passOf (a : Axis) : Acyclic := { pass8 0 false with axis := a }

/-- R107, R111: the transaction of an axis that the period has not is passed over. -/
theorem test_new_axis_waits :
    (((linked .on 0 (some (slots 1 .unused [])) [passOf 5, pass8 9 false]).grantSlot (slots 0 .unused [])).link.queue =
        [passOf 5, pass8 9 true]) ∧
      (nextGrant (slots 0 .unused []) [passOf 5] = .nothing) := by decide +kernel

theorem test_w_SlotEndGrantsTheNextClaim :
    ((slots 40 .unused [3]).current = .unused ∧ 0 < (slots 40 .unused [3]).left ∧ (slots 1 .unused [3]).first = 3 :: [] ∧
        rig.configured 3 = true) ∧
      ((slots 1 (.setpoint 3 false) []).current = .setpoint 3 false ∧ (slots 1 (.setpoint 3 false) []).retries = []) ∧
      ((slots 1 .unused []).agedDone = false ∧ 8 ≤ (pass8 8 false).age ∧ (pass8 8 false).flying = false) ∧
      ((pass8 7 false).age < 8 ∨ ({ slots 1 .unused [] with agedDone := true } : LinkPeriod).agedDone = true) ∧
      ((slots 1 .unused []).axes.contains (pass8 8 false).axis = true ∧
        (slots 1 .unused []).axes.contains (passOf 5).axis = false) ∧
      ((slots 1 .acyclic []).current = .acyclic ∧ (pass8 7 true).flying = true ∧ 2 ≤ (pass8 7 true).fails ∧
        ({ pass8 7 true with fails := 1 } : Acyclic).fails < 2) ∧
      (slots 0 .unused []).left = 0 ∧ (slots 0 .unused []).axes.contains 3 = true ∧
      (slots 0 .unused []).good.contains 3 = false := by decide +kernel

/-- The last slot of a period of axis 3, which stands at 300 in PREROLL, every per-axis monitor REPORT_ONLY and the batch before it good. -/
def atClose (measured : Int) (blank misses : Nat) (good detached : Bool) : State :=
  let s := linked .on 0 (some { slots 0 .unused [] with good := if good then [3] else [] }) []
  { s with
    ctrl := { s.ctrl with state := .preroll, inPos := 9 }
    gen :=
      { s.gen with recs := put s.gen.recs 3 { GenRec.reset with mode := .target, target := some 300, x := 300 } }
    link :=
      { s.link with
        recs := put s.link.recs 3 { s.link.recs[(3 : Axis)] with measured, lastSent := 300, misses }
        batch := put s.link.batch 3
          (some { setpoint := 300, measured := 300, stale := false, clamped := false, detached := false
                  flags := DriveFlags.clear, drive := .on }) }
    mon :=
      { s.mon with
        blank := put s.mon.blank 3 blank
        detached := if detached then put s.mon.detached 3 [condOn .follow 3] else s.mon.detached
        settings := Vector.ofFn fun i => { Monitor.default i with mode := .reportOnly } } }

theorem test_quiet_at_a_close : Quiet (atClose 300 0 0 true false) := by constructor <;> decide +kernel

/-- The state after SLOT_END. -/
def slotEnded (s : State) : State := match exec .slotEnd s with | .next t => t | _ => s

/-- FOLLOW at its threshold and past it, blanked and not; LINK at its threshold; the window reached and passed; a batch item that is stale;
an axis of the period and others; an axis detached. -/
theorem test_w_SlotEndGrantsTheNextClaim_close :
    ((atClose 300 0 0 true false).link.period.map (·.left) = some 0 ∧ (atClose 300 0 0 true false).configured 3 = true ∧
        (atClose 300 0 0 true false).configured 0 = false ∧ (slots 0 .unused []).axes.contains 3 = true ∧
        (∀ j : CondId, j.val < 96 → inForce (atClose 300 0 0 true false).mon.settings[j] = none) ∧
        (atClose 300 0 0 true false).driveOf 3 = .on ∧
        ∀ a : Axis, (atClose 300 0 0 true false).configured a = true → (slots 0 .unused []).axes.contains a = true) ∧
      (∀ m ∈ [(300 : Int), 300 + (rec3.window : Int), 301 + (rec3.window : Int)],
        (slotEnded (atClose m 0 0 true false)).ctrl.inPos = if m ≤ 300 + (rec3.window : Int) then 10 else 0) ∧
      ((slotEnded (atClose 300 1 2 false true)).ctrl.inPos = 0 ∧
        ((slotEnded (atClose 300 1 2 false true)).mon.blank[(3 : Axis)]) = 0 ∧
        ((slotEnded (atClose 300 1 2 false true)).mon.insts[condOn .follow 3]).trueRun = 0 ∧
        ((slotEnded (atClose 300 1 2 false true)).mon.insts[condOn .link 3]).trueRun = 1) ∧
      ∀ n ∈ [0, 1],
        ((slotEnded (atClose (300 + ((Monitor.default (condOn .follow 3)).threshold + n : Nat)) 0 0 true false)).mon.insts[
          condOn .follow 3]).last = decide (n = 1) := by
  decide +kernel

/-- The enable timeout of axis 3 is due in a state, and DRIVE_FAULT of that axis latches with an action. -/
def withDue (act : Action) (s : State) : State :=
  { s with
    link := { s.link with due := put s.link.due 3 true }
    mon :=
      { s.mon with
        settings := put s.mon.settings (condOn .driveFault 3) { Monitor.default (condOn .driveFault 3) with action := act } } }

theorem test_w_EnableTimeoutTurnsTheDriveOff :
    ((withDue .driveOff (linked .enabling 100 none [])).driveOf 3 = .enabling ∧
        (withDue .driveOff (linked .enabling 100 none [])).link.due[(3 : Axis)] = true ∧
        ((withDue .driveOff (linked .enabling 100 none [])).link.recs[(3 : Axis)]).enableCount = 100 ∧
        ((withDue .driveOff (linked .enabling 100 none [])).mon.settings[condOn .driveFault 3]).mode = .latched ∧
        ((withDue .driveOff (linked .enabling 100 none [])).mon.insts[condOn .driveFault 3]).active = false) ∧
      ((withDue .axisHalt running).mon.settings[condOn .driveFault 3]).action = .axisHalt ∧
      ((withDue .pathStop running).ctrl.state = .running ∧ (withDue .pathStop running).clock.state = .advancing ∧
        (withDue .pathStop running).clock.speed ≠ 0) ∧
      (linked .enabling 99 none []).link.due[(3 : Axis)] = false := by
  decide +kernel

/-- R117, R132: two timeouts due at one close: the first hands on DRIVE_OFF, and the second stays due for its evaluation. -/
theorem test_two_timeouts_at_one_close :
    let s := withDue .driveOff (linked .enabling 100 none [])
    let two := { s with link := { s.link with due := put s.link.due 5 true } }
    (two.enableTimesOut 3).link.due[(5 : Axis)] = true ∧
      (((two.enableTimesOut 3).enableTimesOut 5).mon.insts[condOn .driveFault 5]).active = true := by decide +kernel

/-! ### Witnesses: the monitor unit and the pass log -/

def follow1 : Monitor := { mode := .latched, action := .axisHalt, threshold := 2147483647, deglitch := 16, blanking := 1000 }
def slip1 : Monitor := { mode := .off, action := .pathStop, threshold := 32768, deglitch := 1, blanking := 0 }

theorem test_w_MonitorSetAndGet :
    (monitorInRange 0 follow1 = true ∧ monitorInRange 8 slip1 = true ∧
        monitorInRange 8 { slip1 with threshold := 256 } = true ∧ monitorInRange 8 { slip1 with threshold := 255 } = false ∧
        monitorInRange 4 { slip1 with threshold := 15 } = true ∧ monitorInRange 6 { slip1 with threshold := 0 } = true) ∧
      ((3 : CondId) ∈ condsOf 0 8 ∧ (15 : CondId) ∈ condsOf 0 65535 ∧ (16 : CondId) ∉ condsOf 0 65535) ∧
      (98 : CondId) ∈ condsOf 8 1 := by decide +kernel

/-- R142: a latched instance that was not active passes out of evaluation: its last evaluation changes, and is reported. -/
theorem test_passing_out_is_reported :
    passOutChanges (withInst rig 20 inst0).mon [20] = true ∧
      ((withInst rig 20 inst0).passOutConds [20]).console.outQ = [.fault] := by decide +kernel

/-- FAULTED with one instance latched; its last evaluation is false in the first, true in the second. -/
def clearable : State := withInst (rigIn .faulted) 20 { inst0 with last := false }
def unclearable : State := withInst (rigIn .faulted) 20 inst0

theorem test_w_ClearFaultsUnlatches :
    (clearable.ctrl.state = .faulted ∧ (clearable.mon.insts[(20 : CondId)]).last = false ∧
        ∀ i : CondId, i ≠ 20 → (clearable.mon.insts[i]).latched = none) ∧
      ((unclearable.mon.insts[(20 : CondId)]).latched = some .driveOff ∧ (unclearable.mon.insts[(20 : CondId)]).last = true) ∧
      rig.ctrl.state ≠ .faulted := by decide +kernel

/-- A rig with axis 3 detached by its FOLLOW instance, and its record of the generator. -/
def detachedIn (s : State) (g : GenRec) : State :=
  { s with
    mon := { s.mon with detached := put s.mon.detached 3 [condOn .follow 3] }, gen := { s.gen with recs := put s.gen.recs 3 g } }

def halted : GenRec := { GenRec.reset with mode := .halt, x := 7 }

/-- The states in which an action finds the controller. -/
def stopsOf : List State :=
  [rigIn .idle, rigIn .armed, checkRig, rigIn .preroll, cameraStart, passIn .held none Clock.reset, running,
   passIn .holding none (slowing .hold 5), passIn .stopping (some .path) (slowing .stop 5),
   passIn .faultStopping (some .path) (slowing .fault 5), rigIn .jogging, awayIn .jogging 0, awayIn .returning 0,
   { rigIn .stopping with ctrl := { (rigIn .stopping).ctrl with stopForm := some .generator } },
   { rigIn .faultStopping with ctrl := { (rigIn .faultStopping).ctrl with stopForm := some .generator } }, rigIn .faulted]

theorem test_w_ActionsStopTheRun :
    (∀ s ∈ stopsOf, ∀ act ∈ [Action.pathStop, Action.driveOff], (withDue act s).link.due[(3 : Axis)] = true ∧
        ((withDue act s).mon.settings[condOn .driveFault 3]).mode = .latched ∧
        ((withDue act s).mon.settings[condOn .driveFault 3]).action = act ∧
        ((withDue act s).mon.insts[condOn .driveFault 3]).active = false) ∧
      (checkRig.check.progress = some progressOfCheck ∧ (rigIn .preroll).configured 3 = true ∧
        (rigIn .preroll).mon.detached[(3 : Axis)] = [] ∧ (rigIn .preroll).driveOf 3 = .on ∧
        cameraStart.clock.state = .waiting ∧ cameraStart.ctrl.pass = some .play ∧ running.clock.speed ≠ 0 ∧
        (slowing .stop 5).speed ≠ 0 ∧ (awayIn .jogging 0).ctrl.pass.isSome = true) ∧
      (capturing.ctrl.pass = some .capture ∧ pass8 0 false ∈ (linked .on 0 none [pass8 0 false]).link.queue) := by
  decide +kernel

theorem test_w_DetachmentAndRelease :
    ((withDue .axisHalt rig).link.due[(3 : Axis)] = true ∧ (∀ b : Axis, b ≠ 3 → (withDue .axisHalt rig).mon.detached[b] = []) ∧
        ((withDue .axisHalt rig).mon.settings[condOn .driveFault 3]).mode = .latched ∧
        ((withDue .axisHalt rig).mon.settings[condOn .driveFault 3]).action = .axisHalt ∧
        ((withDue .axisHalt rig).mon.insts[condOn .driveFault 3]).active = false ∧
        (withDue .axisHalt (detachedIn rig halted)).mon.detached[(3 : Axis)] ≠ [] ∧
        (withDue .axisHalt (rigIn .armed)).ctrl.state = .armed) ∧
      ((detachedIn rig halted).ctrl.state = .idle ∧ (detachedIn rig halted).configured 3 = true ∧
        (detachedIn rig halted).driveOf 3 = .on) ∧
      ((detachedIn rig halted).ctrl.pass = none ∧ genAtRest (detachedIn rig halted).gen.recs[(3 : Axis)] = true ∧
        (∀ i ∈ (detachedIn rig halted).mon.detached[(3 : Axis)],
          ((detachedIn rig halted).mon.insts[i]).active = false ∧ ((detachedIn rig halted).mon.insts[i]).latched = none) ∧
        (detachedIn (rigIn .jogging) halted).ctrl.state = .jogging ∧ (detachedIn running halted).ctrl.pass ≠ none ∧
        genAtRest { halted with v := 1 } = false) := by decide +kernel

/-- R166: a released axis in JOGGING with its drive ON is taken up in RESTING; in IDLE it passes to IDLE. -/
theorem test_release :
    ((((detachedIn (rigIn .jogging) halted).settleFaults false).gen.recs[(3 : Axis)]).mode = .resting) ∧
      ((((detachedIn rig halted).settleFaults false).gen.recs[(3 : Axis)]).mode = .idle) ∧
      (((detachedIn rig halted).settleFaults false).mon.detached[(3 : Axis)] = []) := by decide +kernel

def trueNow : Evidence := { id := 0, truth := true, value := some 7, cause := none, force := false }

theorem test_w_InstancesFollowTheirRuns :
    (1 ≤ follow1.deglitch ∧ follow1.deglitch ≤ 16 ∧ trueNow.force = false ∧ CondInst.reset.active = false ∧
        CondInst.reset.trueRun = 0 ∧ trueNow.truth = true) ∧
      ({ CondInst.reset with active := true } : CondInst).falseRun = 0 ∧ ({ trueNow with truth := false } : Evidence).truth = false := by
  decide

def sample1 : FrameRec := { passFrame := 0, entry := 1, time := 0, samples := fill 16 none }

/-- A completed PLAY pass of axis 3 with 24 records. -/
def donePass : PassRec :=
  { header := { openHeader 1 .play 0 (put (fill 16 false) 3 true) (.absent .noReference) with outcome := .complete }
    records := List.replicate 24 sample1 }

/-- The rig with that pass in slot 1. -/
def logged : State :=
  { rig with log := { PassLog.reset with slots := put (fill 4 none) 0 (some donePass), age := [1, 2, 3, 0], counter := 1 } }

theorem test_w_LogRequests :
    (logged.log.slots[(0 : PassSlot)] = some donePass ∧ logged.log.recording ≠ some 0 ∧ logged.log.heldSlot ≠ some 0 ∧
        donePass.header.kind = .play ∧ donePass.header.outcome = .complete) ∧
      logged.log.slots[(1 : PassSlot)] = none ∧ running.log.recording = some 0 ∧
      (Nat.testBit 8 3 = true ∧ donePass.header.axes[(3 : Axis)] = true ∧ 0 + 24 ≤ donePass.records.length ∧
        donePass.records.length < 1 + 24 ∧ 65511 + 24 ≤ 65535) := by decide +kernel

/-- Pass frame 0 of axis 3 as a reference holds it. -/
def sampleAt (measured : Int) (stale : Bool) : AxisSample := { setpoint := 0, measured, stale, clamped := false, detached := false }

def frameOf (x : AxisSample) : FrameRec := { sample1 with samples := put (fill 16 none) 3 (some x) }

/-- A pass of axis 3 being recorded in slot 2, compared with a reference in slot 1. -/
def comparing : PassLog :=
  { PassLog.reset with
    slots :=
      put (put (fill 4 none) 0 (some { donePass with records := [frameOf (sampleAt 10 false)] })) 1
        (some { header := openHeader 2 .play 0 (put (fill 16 false) 3 true) (.against 0 1), records := [] })
    recording := some 1, heldSlot := some 0 }

/-- R153: a deviation of 5 counts at pass frame 0. -/
theorem test_comparison :
    ((writeRecord comparing (frameOf (sampleAt 15 false))).slots[(1 : PassSlot)]).map (fun q => q.header.summary[(3 : Axis)]) =
        some { maxDev := 5, atFrame := some 0, compared := 1 } ∧
      ((writeRecord comparing (frameOf (sampleAt 15 true))).slots[(1 : PassSlot)]).map (fun q => q.header.summary[(3 : Axis)]) =
        some { maxDev := 0, atFrame := none, compared := 0 } := by decide +kernel

/-- The rig armed for a PLAY pass, with a reference of a signature in slot 1 and a pass in each slot after it that `full` asks for. -/
def comparable (sync : SyncMode) (signature : BitVec 32) (full : Bool) : State :=
  let reference := { donePass with
    header := { donePass.header with signature }, records := [frameOf (sampleAt 10 false)] }
  { armedRig sync with
    log :=
      { PassLog.reset with
        slots := put (fill 4 (if full then some donePass else none)) 0 (some reference)
        age := [0, 1, 2, 3], reference := some 0, counter := 65535 } }

/-- GO with a reference: of the take's signature (which is 0 in the rig) and of another, in the modes that write pass frame 0 at once
and in FOLLOWER mode. -/
theorem test_w_GoBeginsAndResumesThePass_compared :
    ∀ c ∈ [(SyncMode.free, 0#32), (.master, 5#32), (.follower, 0#32)],
      (comparable c.1 c.2 false).ctrl.state = .armed ∧ (comparable c.1 c.2 false).ctrl.runList = entry1 :: [entry2] ∧
        (comparable c.1 c.2 false).ctrl.purpose = some (.arm .play) ∧ (comparable c.1 c.2 false).clock.cfg.sync = c.1 ∧
        (comparable c.1 c.2 false).log.reference = some 0 ∧
        ((comparable c.1 c.2 false).log.slots[(0 : PassSlot)]).map (·.header.signature) = some c.2 ∧
        ((comparable c.1 c.2 false).check.record.bind (·.signature)).getD 0 = 0 ∧
        ((comparable c.1 c.2 false).log.slots[(0 : PassSlot)]).bind (·.records[0]?) = some (frameOf (sampleAt 10 false)) ∧
        (comparable c.1 c.2 false).configured 3 = true ∧ ((comparable c.1 c.2 false).startSample 3).stale = false ∧
        ∀ a : Axis, inForce (comparable c.1 c.2 false).mon.settings[condOn .repeatDev a] = none := by
  decide +kernel

/-- GO with the reference's slot passed over: with the next slot empty, and with all four taken. -/
theorem test_w_GoBeginsAndResumesThePass_slot :
    ((∀ k : PassSlot, (comparable .free 0 true).log.slots[k] ≠ none) ∧
        (comparable .free 0 true).log.age = [0] ++ 1 :: [2, 3] ∧
        (∀ k ∈ ([0] : List PassSlot), (comparable .free 0 true).log.reference = some k) ∧
        (comparable .free 0 true).log.reference ≠ some 1) ∧
      ((comparable .free 0 false).log.slots[(1 : PassSlot)] = none ∧
        ∀ k : PassSlot, k < 1 → (comparable .free 0 false).log.slots[k] ≠ none) := by decide +kernel

theorem test_w_GoBeginsAndResumesThePass_log : LogLaw (comparable .free 0 true).log ∧ LogLaw (comparable .master 0 false).log :=
  ⟨by constructor <;> decide +kernel, by constructor <;> decide +kernel⟩

/-- The running rig at the last slot of a period in which pass frame 1 was crossed, every per-axis monitor OFF. -/
def crossed (interval : Nat) (closing : Option PassOutcome) : State :=
  { running with
    link := { running.link with period := some (slots 0 .unused []) }
    mon := { running.mon with settings := Vector.ofFn fun i => if i.val < 96 then { Monitor.default i with mode := .off } else Monitor.default i }
    log :=
      { running.log with
        crossing := some { passFrame := 1, entry := 1, time := 65536, interval, mask := 8 }, closing } }

theorem test_quiet_of_a_crossing (n : Nat) (o : Option PassOutcome) : Quiet (crossed n o) :=
  ⟨test_quiet.trigger, test_quiet.clears, test_quiet.edges, test_quiet.ramp, test_quiet.enables, test_quiet.arrival,
    test_quiet.timer, test_quiet.check, test_quiet.refresh⟩

theorem test_w_PassFramesAreRecordedAndCompared :
    (comparing.recording = some 1 ∧ comparing.heldSlot = some 0 ∧ (comparing.slots[(1 : PassSlot)]).isSome = true ∧
        ([frameOf (sampleAt 10 false)] : List FrameRec)[0]? = some (frameOf (sampleAt 10 false)) ∧
        (frameOf (sampleAt 15 false)).samples[(3 : Axis)] = some (sampleAt 15 false) ∧ (sampleAt 15 true).stale = true ∧
        maxFrameRecords ≤ (List.replicate 16384 sample1).length) ∧
      ((armedRig .free).ctrl.state = .armed ∧ (armedRig .free).ctrl.runList = entry1 :: [entry2] ∧
        (armedRig .free).ctrl.purpose = some (.arm .play) ∧ (armedRig .free).log.reference = none ∧
        (armedRig .master).clock.cfg.sync ≠ .follower ∧ (armedRig .free).log.slots[(0 : PassSlot)] = none) ∧
      (Quiet (crossed 1 none) ∧ Quiet (crossed 0 (some .complete)) ∧ MonLaw (crossed 1 none).mon) ∧
      ((crossed 1 none).log.recording = some 0 ∧ ((crossed 1 none).log.slots[(0 : PassSlot)]).isSome = true ∧
        (∀ j : CondId, j.val < 96 → inForce (crossed 1 none).mon.settings[j] = none) ∧
        (crossed 1 none).configured 3 = true ∧
        (slots 0 .unused []).axes.contains 3 = true ∧ (crossed 1 none).console.outQ.length ≤ 40) :=
  ⟨by decide +kernel, by decide +kernel,
    ⟨test_quiet_of_a_crossing _ _, test_quiet_of_a_crossing _ _, by constructor <;> decide +kernel⟩, by decide +kernel⟩

/-! ### Witnesses: the motion generator, the hand-wheels and capture -/

/-- The rig with axis 3 under the motion generator. -/
def moving (mode : GenMode) (refresh : Option Nat) : State :=
  { rigIn .jogging with gen := { Gen.reset with recs := put Gen.reset.recs 3 { GenRec.reset with mode, x := 7, v := 2, refresh } } }

theorem test_w_JogAndJogBind :
    ((fits32 minI32 = true ∧ fits32 maxI32 = true ∧ fits32 0 = true) ∧
        (rig.ctrl.state = .idle ∧ rig.configured 3 = true ∧ rig.driveOf 3 = .on ∧ rig.mon.detached[(3 : Axis)] = [])) ∧
      ((rig.gen.recs[(3 : Axis)]).mode = .idle ∧ ((moving .velocity (some 1)).gen.recs[(3 : Axis)]).mode ≠ .idle ∧
        (moving .velocity (some 1)).ctrl.state = .jogging) ∧
      ((passIn .held none Clock.reset).ctrl.state = .held ∧ (passIn .held none Clock.reset).ctrl.pass = some .play ∧
        (passIn .held none Clock.reset).ctrl.ret = none) ∧
      ((moving .wheel none).gen.recs[(3 : Axis)]).mode = .wheel ∧
      (running.ctrl.state ≠ .idle ∧ running.ctrl.state ≠ .jogging ∧ running.ctrl.state ≠ .held) := by decide +kernel

theorem test_w_CaptureSettingsAndWheelEvents :
    (∀ b ∈ ([{ axis := 0, wheel := 0, ratio := minI32 }, { axis := 15, wheel := 3, ratio := maxI32 }] : List Binding),
        fits32 b.ratio = true) ∧
      (rig.runPending = false ∧ (rigIn .checking).runPending = true) ∧
      (((moving .velocity (some 1000)).gen.recs[(3 : Axis)]).mode = .velocity ∧
        ((moving .velocity (some 1000)).gen.recs[(3 : Axis)]).refresh = some 1000 ∧
        1000 ≤ (moving .velocity (some 1000)).clock.period) ∧
      ((moving .resting none).gen.recs[(3 : Axis)]).mode ≠ .velocity ∧
      (((moving .velocity none).gen.recs[(3 : Axis)]).refresh = none ∧
        ((moving .velocity (some 1001)).gen.recs[(3 : Axis)]).refresh = some 1001 ∧
        (moving .velocity (some 1001)).clock.period = 1000) := by decide +kernel

theorem test_w_GeneratorStepsAreBounded : rec3.softMin ≤ rec3.softMax ∧ recLow.softMin ≤ recLow.softMax := by decide

/-- Each stage of a step toward 300 or a soft limit, under V 50 and A 4: from rest, slowing before the target and away from it, above V,
arriving and moving on. -/
theorem test_w_GeneratorStepsAreBounded_toward :
    (rec3.softMin ≤ (300 : Int) ∧ (300 : Int) ≤ rec3.softMax ∧ (1000 : Int) ≤ rec3.softMax) ∧
      ((32 : Int).sign = (300 - 212 : Int).sign ∧ 2 * 4 * (300 - 212 : Int).natAbs ≤ (32 : Int).natAbs * ((32 : Int).natAbs + 4) ∧
        (-1 : Int).sign ≠ (300 - 212 : Int).sign ∧ (60 : Int).natAbs * ((60 : Int).natAbs + 4) < 2 * 4 * (1000 - 0 : Int).natAbs) ∧
      (nextVelocity 0 300 50 4 = 4 ∧ (300 - (0 + 4) : Int).natAbs > 4 ∧
        nextVelocity 4 4 50 4 = 0 ∧ (300 - (296 + 0) : Int).natAbs ≤ 4) := by decide

/-- The rig armed for a CAPTURE pass, with some free keys. -/
def armedCapture (free : Nat) : State :=
  { captureRig with
    ctrl := { captureRig.ctrl with state := .armed, purpose := some (.arm .capture) }
    store := { captureRig.store with free } }

/-- The capture at a period that crosses pass frame 1. -/
def crossingCapture : State := { capturing with clock := { fullSpeed with time := 65535, travel := 65535 } }

/-- The capture held. -/
def heldCapture : State := { capturing with ctrl := { capturing.ctrl with state := .held }, clock := { Clock.reset with state := .atRest } }

theorem test_w_CaptureStagesAndCommits :
    ((capturing.store.staging[0]?).isSome = true ∧ capturing.store.poolRefused = false ∧ 0 < capturing.store.free ∧
        4096 ≤ (List.replicate 4096 keyA).length ∧ (List.replicate 4095 keyA).length < 4096) ∧
      ((armedCapture 1).ctrl.state = .armed ∧ (armedCapture 1).ctrl.runList = entry1 :: [] ∧
        (armedCapture 1).ctrl.purpose = some (.arm .capture) ∧ (armedCapture 1).clock.cfg.sync ≠ .follower ∧
        (armedCapture 1).store.staging = [] ∧ (armedCapture 1).wheels.bindings.length ≤ (armedCapture 1).store.free ∧
        (armedCapture 0).store.free = 0 ∧ (armedCapture 0).wheels.bindings ≠ []) ∧
      (crossingCapture.link.period = none ∧ crossingCapture.clock.state = .advancing ∧
        crossingCapture.ctrl.state = .running ∧ crossingCapture.ctrl.pass = some .capture ∧
        crossingCapture.ctrl.entry = 1 ∧ crossingCapture.ctrl.runList = [entry1] ∧
        (advanceClock crossingCapture.clock 1 entry1 none).2.landed = false ∧
        (advanceClock crossingCapture.clock 1 entry1 none).2.crossing = some 1 ∧
        1 % crossingCapture.wheels.stride = 0 ∧ crossingCapture.store.staging.length = crossingCapture.wheels.bindings.length) ∧
      (heldCapture.ctrl.state = .held ∧ heldCapture.ctrl.pass = some .capture ∧
        heldCapture.store.stagingTarget = some 0 ∧ heldCapture.store.moves[(0 : MoveSlot)] = some moveA) := by
  decide +kernel

theorem test_quiet_of_a_capture : Quiet crossingCapture := by constructor <;> decide +kernel

/-- R22: the staged list becomes the track of axis 3, and the old track's two keys are free. -/
theorem test_commit :
    (commitStaging capturing.store).track 0 3 = some [{ time := 0, value := 7, segment := .smooth, tangents := .auto }] ∧
      (commitStaging capturing.store).free = 16383 ∧ (discardStaging capturing.store).free = 16382 := by decide +kernel

/-! ### Witnesses: the rig lines and the cues -/

/-- A line with its function selected and its filter, where it has one, at a due edge. -/
def edgeOn (s : State) (l : Line) (active : Bool) : State :=
  { s with
    lines :=
      putFilter
        { s.lines with lines := put s.lines.lines l { mode := .input, latch := false, selected := true, pendingClear := none } }
        l { active, count := 4 } }

/-- R179, R184: CAMERA on L0 drives the trigger's level in MASTER mode, and leaves the pin an input in FREE mode. -/
theorem test_camera_pin :
    let s := edgeOn rig 0 false
    let m := { s with clock := { s.clock with cfg := { s.clock.cfg with sync := .master }, trigger := some 2 } }
    s.pinDrive 0 = .input ∧ m.pinDrive 0 = .driven true ∧ m.pinLevel 0 = true := by decide +kernel

theorem test_w_LineSetAndRead :
    ((2 : Line) ≠ 1 ∧ (0 : Line) ≠ 1 ∧ (11 : Line) ≠ 1) ∧ (rig.lines.lines[(1 : Line)]).selected = true ∧
      ((rig.lines.lines[(2 : Line)]).selected = false ∧ (cameraStart.lines.lines[(0 : Line)]).selected = true) := by
  decide +kernel

theorem test_w_CueLoadAndGet :
    ((∀ c ∈ [cueA, { cueE with passFrame := 65535, line := 4, action := .pulse 255 }],
        c.passFrame ≤ 65535 ∧ 4 ≤ c.line.val ∧ ∀ w, c.action = .pulse w → 1 ≤ w ∧ w ≤ 255)) ∧
      (rig.runPending = false ∧ (rigIn .armed).runPending = true) := by
  refine ⟨?_, by decide +kernel⟩
  simp [cueA, cueE]

/-- A state with a line's pending clear under way. -/
def clearing (s : State) (n : Nat) : State :=
  { s with
    lines :=
      { s.lines with lines := put s.lines.lines 6 { mode := .output, latch := true, selected := false, pendingClear := some n } } }

theorem test_w_LineEventsAreTaken :
    (((clearing rig 0).lines.lines[(6 : Line)]).pendingClear = some 0 ∧
        ((clearing rig 1).lines.lines[(6 : Line)]).pendingClear ≠ some 0 ∧ rig.edgeDue 2 = none) ∧
      ((edgeOn rig 1 false).edgeDue 1 = some { active := false, count := 4 } ∧
        (edgeOn rig 2 true).edgeDue 2 = some { active := true, count := 4 }) ∧
      ((edgeOn (passIn .holding none (slowing .hold 5)) 2 false).edgeDue 2 = some { active := false, count := 4 } ∧
        (edgeOn (passIn .holding none (slowing .hold 5)) 2 false).ctrl.state = .holding ∧
        (edgeOn (passIn .holding none (slowing .hold 5)) 2 false).currentEntry? = some entry1) ∧
      ((edgeOn running 3 false).edgeDue 3 = some { active := false, count := 4 } ∧
        (edgeOn running 3 false).ctrl.state = .running ∧ (edgeOn running 3 false).clock.cfg.sync ≠ .follower ∧
        (edgeOn running 3 false).clock.speed ≠ 0) := by decide +kernel

/-! ### Witnesses: the console link -/

def statusFrame : InFrame := { kind := 0x51, tag := 3, body := [] }

/-- An output queue with n replies, and a FRAME report among them. -/
def queueOf (n : Nat) (report : Bool) : List Message :=
  List.replicate n (.reply 0xD1 0 [0]) ++ (if report then [.frame []] else [])

def console (outQ held : List Message) : Console := { Console.reset with outQ, held, inBuf := [statusFrame] }

theorem test_w_TakingAndSendingTheOldest :
    ((console (queueOf 56 false) []).inBuf = statusFrame :: [] ∧ (console (queueOf 56 false) []).outQ.length + 8 ≤ 64 ∧
        64 < (console (queueOf 57 false) []).outQ.length + 8 ∧ requestKinds.contains 0xE1#8 = false ∧
        rig.console.inBuf = []) ∧
      (requestKinds.contains statusFrame.kind = true ∧ requestKinds.contains { statusFrame with kind := 0xE1 }.kind = false ∧
        ({ console [] [] with inBuf := [{ statusFrame with kind := 0xE1 }, statusFrame] } : Console).inBuf =
          { statusFrame with kind := 0xE1 } :: [statusFrame]) ∧
      ((console (queueOf 64 false) [.fault]).outQ = .reply 0xD1 0 [0] :: queueOf 63 false ∧ (queueOf 63 false).length < 64) := by
  decide +kernel

theorem test_w_TakingAndSendingTheOldest_order :
    (ConsoleLaw (console (queueOf 63 true) []) ∧ (console (queueOf 63 true) []).outQ.length = 64 ∧
        (console (queueOf 63 true) []).outQ.any isFrameReport = true) ∧
      (ConsoleLaw (console (queueOf 64 false) [.fault]) ∧ (console (queueOf 64 false) [.fault]).outQ.length = 64 ∧
        (console (queueOf 64 false) [.fault]).outQ.any isFrameReport = false) ∧
      (ConsoleLaw (console (queueOf 62 true) []) ∧ (console (queueOf 62 true) []).outQ.length < 64) ∧
      isFrameReport .fault = false := by
  refine ⟨⟨?_, ?_⟩, ⟨?_, ?_⟩, ⟨?_, ?_⟩, rfl⟩
  all_goals first | decide +kernel | (constructor <;> decide +kernel)

theorem test_w_FramesAreReceivedWhole :
    (List.replicate 4096 (0xA5#8)).length ≤ 4096 ∧ rig.console.rx = [] ∧ [1#8, 2#8].contains startByte = false := by
  decide +kernel

/-- A whole frame whose body holds a start byte is received. -/
theorem test_frame_received : receive Console.reset (frameBytes 0x51 3 [startByte]) =
    { Console.reset with inBuf := [{ kind := 0x51, tag := 3, body := [startByte] }] } := by decide +kernel

theorem test_w_FramesAreReceivedWhole_gap :
    ({ Console.reset with rx := [startByte, 0x51] } : Console).rx = startByte :: [0x51] ∧ rig.console.rx = [] ∧
      ([0x51] : List Byte).contains startByte = false := by decide

/-! ### Witnesses: the servo period -/

theorem test_w_ServoPeriodAdvancesTheClock :
    (Quiet running ∧ running.link.period = none ∧ running.lines.filterL1.active = false ∧
        running.clock.period = 1000000 / running.clock.cfg.servoRate ∧ running.clock.cfg.sync ≠ .follower) ∧
      (running.ctrl.state = .running ∧ running.clock.state = .advancing ∧ running.clock.ramp = .none ∧
        running.currentEntry? = some entry1 ∧ (24000 * (1000 * 1000) * 1000 * 65536 + 0) / 1000000000000000 = 1572 ∧
        1572 < toEntryEnd running.clock entry1 ∧ running.driveOf 3 = .on ∧ (running.gen.recs[(3 : Axis)]).mode = .idle ∧
        running.runEntry? 1 = some entry1 ∧ running.lines.cues = [] ∧ running.ctrl.pass = some .play) ∧
      (Quiet (passIn .running none almost) ∧
        (advanceClock almost 1 entry1 (some entry2)).2 = { entry := 1, carried := false, landed := true, crossing := some 10 } ∧
        (passIn .running none almost).ctrl.entry < (passIn .running none almost).ctrl.runList.length ∧
        (advanceClock almost 2 entry1 none).2.landed = true) ∧
      (Quiet (linked .on 0 none []) ∧ (linked .on 0 none []).clock.state ≠ .advancing ∧
        (linked .on 0 none []).ctrl.state = .idle ∧ (linked .on 0 none []).configuredAxes = 3 :: []) ∧
      ((moving .resting none).clock.state ≠ .advancing ∧ (moving .resting none).ctrl.state = .jogging ∧
        (stepRecord rec3 Wheels.reset [] 1000 .on 0 3 { GenRec.reset with mode := .resting, v := 1 }).v = 0 ∧
        genAtRest (stepRecord rec3 Wheels.reset [] 1000 .on 0 3 { GenRec.reset with mode := .resting }) = true) :=
  ⟨⟨test_quiet, by decide +kernel⟩, by decide +kernel, ⟨by constructor <;> decide +kernel, by decide +kernel⟩,
    ⟨test_quiet_rig, by decide +kernel⟩, by decide +kernel⟩

/-- R182: a first sample away from the filtered level makes the count of L1 one. -/
theorem test_filter_counts :
    ((rig.samplePins 0).lines.filterL1 = { active := false, count := 1 }) ∧
      ((rig.samplePins 2).lines.filterL1 = { active := false, count := 0 }) := by decide +kernel

end Sys2Proof.Tests
end

/-! SUPPORT. What the laws of the move store rest on (R3, R4, R20): the store, the run list, and the items of the run controller
and the clock that say whether a pass exists and how far it has come. -/
section
namespace Sys2Proof.Machine

/-- The items of a state that the laws of the move store rest on, with the commands that wait. -/
structure Footing where
  store : Store
  state : CtrlState
  stopForm : Option StopForm
  pass : Option PassKind
  ret : Option ReturnRec
  runList : List RunEntry
  clock : ClockState
  passFrame : Nat
  pending : List Instr

def State.footing (s : State) : Footing :=
  { store := s.store, state := s.ctrl.state, stopForm := s.ctrl.stopForm, pass := s.ctrl.pass, ret := s.ctrl.ret
    runList := s.ctrl.runList, clock := s.clock.state, passFrame := s.clock.passFrame, pending := s.pending }

theorem State.footing_congr {s t : State} (hs : t.store = s.store) (hk : t.ctrl = s.ctrl) (hc : t.clock = s.clock)
    (hp : t.pending = s.pending) : t.footing = s.footing := by simp only [State.footing, hs, hk, hc, hp]

theorem State.store_of_footing {s : State} {f : Footing} (h : s.footing = f) : s.store = f.store :=
  congrArg Footing.store h

theorem State.state_of_footing {s : State} {f : Footing} (h : s.footing = f) : s.ctrl.state = f.state :=
  congrArg Footing.state h

theorem State.pass_of_footing {s : State} {f : Footing} (h : s.footing = f) : s.ctrl.pass = f.pass :=
  congrArg Footing.pass h

theorem State.ret_of_footing {s : State} {f : Footing} (h : s.footing = f) : s.ctrl.ret = f.ret :=
  congrArg Footing.ret h

theorem State.clock_of_footing {s : State} {f : Footing} (h : s.footing = f) : s.clock.state = f.clock :=
  congrArg Footing.clock h

theorem State.passFrame_of_footing {s : State} {f : Footing} (h : s.footing = f) : s.clock.passFrame = f.passFrame :=
  congrArg Footing.passFrame h

theorem State.runEntry_of_footing {s : State} {f : Footing} (h : s.footing = f) : s.runEntry? 1 = f.runList[0]? :=
  congrArg (fun f : Footing => f.runList[0]?) h

theorem State.pending_of_footing {s : State} {f : Footing} (h : s.footing = f) : s.pending = f.pending :=
  congrArg Footing.pending h

namespace Footing

/-- The path governs a pass that goes on (`clockRuns`). -/
def onPath (f : Footing) : Bool :=
  match f.state, f.stopForm with
  | .running, _ => true
  | .holding, _ => true
  | .stopping, some .path => true
  | .faultStopping, some .path => true
  | _, _ => false

/-- The states in which a pass exists (`passExists`). -/
def inPass (f : Footing) : Bool :=
  f.onPath || f.state = .held || f.state = .returning || (f.state = .jogging && f.ret.isSome)

/-- The share of the controller's and the clock's laws that the staging rests on. -/
structure RunFits (f : Footing) : Prop where
  stopForm : f.stopForm.isSome = (f.state = .stopping || f.state = .faultStopping)
  clock : f.clock = .advancing ∨ f.clock = .waiting → f.onPath = true
  pass : f.pass.isSome = f.inPass
  record : f.ret.isSome = true → f.state = .held ∨ f.state = .jogging ∨ f.state = .returning
  place : ∀ r ∈ f.ret, r.passFrame = f.passFrame

/-- R3, R20, R176: the order law, of a footing. -/
structure StoreFits (f : Footing) : Prop where
  tracks : TracksOrdered f.store
  staged : ∀ l ∈ f.store.staging, ascending l.keys = true
  shape : ∀ l ∈ f.store.staging, ∀ k ∈ l.keys, k.segment = .smooth ∧ k.tangents = .auto
  reached : ∀ e ∈ f.runList[0]?, ∀ l ∈ f.store.staging, ∀ k ∈ l.keys, k.time ≤ (e.startFrame + f.passFrame) * subframes
  onlyCapture : f.pass ≠ some .capture → f.store.staging = []

end Footing

theorem clockRuns_eq (s : State) : clockRuns s = s.footing.onPath := rfl

theorem orderLaw_iff (s : State) : OrderLaw s ↔ s.footing.StoreFits :=
  ⟨fun ⟨h1, h2, h3, h4, h5⟩ => ⟨h1, h2, h3, h4, h5⟩, fun ⟨h1, h2, h3, h4, h5⟩ => ⟨h1, h2, h3, h4, h5⟩⟩

theorem runFits_of_laws {s : State} (hk : ClockLaw s) (hc : CtrlLaw s) : s.footing.RunFits where
  stopForm := hc.stopForm
  clock h := by
    have hr := hc.clock
    rw [clockRuns_eq] at hr
    rw [← hr]
    simpa [State.footing] using h
  pass := hc.pass
  record := hc.record
  place r hr := by
    obtain ⟨-, hat⟩ := hk.record r hr
    simp only [standsAt, Bool.and_eq_true, decide_eq_true_eq] at hat
    exact hat.1.2.symm

/-! ### What every operation keeps -/

/-- From s to t the waiting commands stay, and the store's laws are kept; the order law with its footing only under P. -/
structure KeepsIf (P : Prop) (s t : State) : Prop where
  pending : t.pending = s.pending
  store : StoreLaw s.store → StoreLaw t.store
  order : P → s.footing.RunFits → s.footing.StoreFits → t.footing.RunFits ∧ t.footing.StoreFits

abbrev Keeps (s t : State) : Prop := KeepsIf True s t

variable {P Q : Prop} {s t u : State}

theorem KeepsIf.of_footing (h : t.footing = s.footing) : KeepsIf P s t where
  pending := congrArg Footing.pending h
  store hs := by
    have h0 : t.store = s.store := congrArg Footing.store h
    rwa [h0]
  order _ hr hs := by rw [h]; exact ⟨hr, hs⟩

theorem KeepsIf.refl (s : State) : KeepsIf P s s := .of_footing rfl

theorem KeepsIf.bind (h1 : KeepsIf P s t) (h2 : KeepsIf Q t u)
    (hq : P → s.footing.RunFits → s.footing.StoreFits → Q) : KeepsIf P s u where
  pending := h2.pending.trans h1.pending
  store := h2.store ∘ h1.store
  order hp hr hs := by
    obtain ⟨hr', hs'⟩ := h1.order hp hr hs
    exact h2.order (hq hp hr hs) hr' hs'

theorem KeepsIf.trans (h1 : KeepsIf P s t) (h2 : Keeps t u) : KeepsIf P s u := h1.bind h2 fun _ _ _ => trivial

theorem KeepsIf.weaken (h : KeepsIf Q s t) (hq : P → s.footing.RunFits → s.footing.StoreFits → Q) : KeepsIf P s t :=
  (KeepsIf.refl s : KeepsIf P s s).bind h hq

/-- What holds of the first state by its laws may be assumed. -/
theorem KeepsIf.of (h : KeepsIf P s t) (hp : s.footing.RunFits → s.footing.StoreFits → P) : Keeps s t :=
  (KeepsIf.refl s : Keeps s s).bind h fun _ => hp

theorem KeepsIf.mono (h : Keeps s t) : KeepsIf P s t := (KeepsIf.refl s).trans h

/-- The store and the pass stay, and the pass frame does not fall: the order law needs only the run's own share. -/
theorem KeepsIf.of_run (hp : t.pending = s.pending) (hst : t.store = s.store) (hpass : t.ctrl.pass = s.ctrl.pass)
    (hl : t.ctrl.runList = s.ctrl.runList) (hf : s.clock.passFrame ≤ t.clock.passFrame)
    (hr : P → s.footing.RunFits → t.footing.RunFits) : KeepsIf P s t where
  pending := hp
  store hs := by rwa [hst]
  order h0 h hs := by
    refine ⟨hr h0 h, ?_⟩
    obtain ⟨h1, h2, h3, h4, h5⟩ := hs
    refine ⟨?_, ?_, ?_, ?_, ?_⟩
    · simpa [State.footing, hst] using h1
    · simpa [State.footing, hst] using h2
    · simpa [State.footing, hst] using h3
    · intro e he l hm k hk
      have hle := h4 e (by simpa [State.footing, hl] using he) l (by simpa [State.footing, hst] using hm) k hk
      exact hle.trans (Nat.mul_le_mul_right _ (Nat.add_le_add_left hf _))
    · simpa [State.footing, hst, hpass] using h5

theorem foldl_footing {α : Type} {f : State → α → State} (h : ∀ s x, (f s x).footing = s.footing) (xs : List α) (s : State) :
    (xs.foldl f s).footing = s.footing := by
  induction xs generalizing s with
  | nil => rfl
  | cons x xs ih => exact (ih _).trans (h s x)

theorem foldl_keeps {α : Type} {f : State → α → State} (h : ∀ s x, Keeps s (f s x)) (xs : List α) (s : State) :
    Keeps s (xs.foldl f s) := by
  induction xs generalizing s with
  | nil => exact .refl s
  | cons x xs ih => exact (h s x).trans (ih _)

end Sys2Proof.Machine
end

/-! SUPPORT. The operations that leave the footing of the store's laws as it stands. -/
section
namespace Sys2Proof.Machine

namespace State

variable (s : State)

/-! ### Messages, one block's records -/

@[simp] theorem post_footing (m : Message) : (s.post m).footing = s.footing := rfl
@[simp] theorem reply_footing (kind tag : Byte) (st : Status) (fields : List Byte) :
    (s.reply kind tag st fields).footing = s.footing := rfl
@[simp] theorem reportState_footing : s.reportState.footing = s.footing := rfl
@[simp] theorem reportFaults_footing : s.reportFaults.footing = s.footing := rfl
@[simp] theorem reportFaultsIf_footing (b : Bool) : (s.reportFaultsIf b).footing = s.footing := by cases b <;> rfl
@[simp] theorem setGen_footing (a : Axis) (g : GenRec) : (s.setGen a g).footing = s.footing := rfl
@[simp] theorem setLinkRec_footing (a : Axis) (l : LinkRec) : (s.setLinkRec a l).footing = s.footing := rfl
@[simp] theorem setLine_footing (l : Line) (r : RigLine) : (s.setLine l r).footing = s.footing := rfl
@[simp] theorem mapGen_footing (f : Axis → GenRec → GenRec) : (s.mapGen f).footing = s.footing := rfl
@[simp] theorem genReleaseAll_footing : s.genReleaseAll.footing = s.footing := rfl
@[simp] theorem genRestAll_footing : s.genRestAll.footing = s.footing := rfl
@[simp] theorem genTargetAll_footing (ts : Vector Int 16) : (s.genTargetAll ts).footing = s.footing := rfl
@[simp] theorem genEndFollowing_footing : s.genEndFollowing.footing = s.footing := rfl
@[simp] theorem genEndCapture_footing : s.genEndCapture.footing = s.footing := rfl
@[simp] theorem genDropAll_footing : s.genDropAll.footing = s.footing := rfl
@[simp] theorem stepGen_footing : s.stepGen.footing = s.footing := rfl
@[simp] theorem discardArm_footing : s.discardArm.footing = s.footing := rfl
@[simp] theorem clearSkipped_footing : s.clearSkipped.footing = s.footing := rfl
@[simp] theorem storeAxis_footing (a : Axis) (r : AxisRec) : (s.storeAxis a r).footing = s.footing := rfl
@[simp] theorem seePins_footing (pins : BitVec 12) : (s.seePins pins).footing = s.footing := rfl
@[simp] theorem lookAtPins_footing : s.lookAtPins.footing = s.footing := rfl
@[simp] theorem withCtrl_footing (st : CtrlState) (form : Option StopForm) :
    (s.withCtrl st form).footing = { s.footing with state := st, stopForm := form } := rfl
@[simp] theorem enter_footing (st : CtrlState) :
    (s.enter st).footing = { s.footing with state := st, stopForm := none } := rfl
@[simp] theorem enterStop_footing (st : CtrlState) (form : StopForm) :
    (s.enterStop st form).footing = { s.footing with state := st, stopForm := some form } := rfl
@[simp] theorem withStore_footing (st : Store) : (s.withStore st).footing = { s.footing with store := st } := rfl
@[simp] theorem clearPass_footing : s.clearPass.footing = { s.footing with pass := none, ret := none } := rfl

/-! ### The monitor unit -/

@[simp] theorem genHalt_footing (a : Axis) : (s.genHalt a).footing = s.footing := rfl

@[simp] theorem detach_footing (i : CondId) : (s.detach i).footing = s.footing := by
  simp only [detach]
  split <;> rfl

@[simp] theorem releaseAxis_footing (a : Axis) : (s.releaseAxis a).footing = s.footing := by
  obtain ⟨-, h⟩ | ⟨-, h⟩ := releaseAxis_cases s a <;> rw [h]
  rfl

@[simp] theorem releaseAll_footing : s.releaseAll.footing = s.footing := foldl_footing releaseAxis_footing _ s

@[simp] theorem settleFaults_footing (b : Bool) : (s.settleFaults b).footing = s.footing := by simp [settleFaults]

@[simp] theorem passOutConds_footing (ids : List CondId) : (s.passOutConds ids).footing = s.footing := by
  rw [passOutConds, settleFaults_footing]
  rfl

/-! ### The pass log and the cues -/

@[simp] theorem finalizePass_footing (o : PassOutcome) : (s.finalizePass o).footing = s.footing := by
  unfold finalizePass
  simp only
  split <;> rfl

@[simp] theorem closePass_footing (o : PassOutcome) : (s.closePass o).footing = s.footing := by
  unfold closePass
  split
  · rfl
  · exact s.finalizePass_footing o

@[simp] theorem finishClosing_footing : s.finishClosing.footing = s.footing := by
  unfold finishClosing
  split
  · exact s.finalizePass_footing _
  · rfl

@[simp] theorem beginPass_footing (kind : PassKind) : (s.beginPass kind).footing = s.footing :=
  s.finishClosing_footing

@[simp] theorem recordFrame_footing (c : Crossing) (r : FrameRec) : (s.recordFrame c r).footing = s.footing := by
  unfold recordFrame reportFrame
  split <;> rfl

@[simp] theorem fireCues_footing (n : Nat) : (s.fireCues n).footing = s.footing := by
  unfold fireCues
  split <;> rfl

/-! ### The run check -/

@[simp] theorem startCheck_footing (p : Purpose) (v : Vector Int 16) : (s.startCheck p v).footing = s.footing := rfl

@[simp] theorem advanceWalk_footing : s.advanceWalk.footing = s.footing := by
  obtain ⟨-, h⟩ | ⟨_, _, -, -, h⟩ := s.advanceWalk_cases <;> rw [h]
  rfl

@[simp] theorem recordCheck_footing (r : CheckRecord) : (s.recordCheck r).footing = s.footing := rfl

@[simp] theorem cancelCheck_footing : s.cancelCheck.footing = s.footing := by
  unfold cancelCheck
  simp only
  split <;> simp

/-! ### The axis link -/

@[simp] theorem turnOffAxis_footing (a : Axis) : (s.turnOffAxis a).footing = s.footing := by
  unfold turnOffAxis genDriveLeft
  split
  · rfl
  · rfl
  · simp only
    split <;> rfl

@[simp] theorem abortQueue_footing (drop : Acyclic → Bool) : (s.abortQueue drop).footing = s.footing :=
  foldl_footing (f := abortPass) (fun _ _ => rfl) _ s

@[simp] theorem sendSetpoint_footing (a : Axis) : (s.sendSetpoint a).footing = s.footing := by
  unfold sendSetpoint
  simp only
  split <;> rfl

@[simp] theorem sendAcyclic_footing (p : LinkPeriod) : (s.sendAcyclic p).footing = s.footing := by
  unfold sendAcyclic
  split <;> rfl

@[simp] theorem grantSlot_footing (p : LinkPeriod) : (s.grantSlot p).footing = s.footing := by
  unfold grantSlot
  simp only
  split
  · exact sendSetpoint_footing _ _
  · exact sendSetpoint_footing _ _
  · exact sendAcyclic_footing _ _
  · exact sendAcyclic_footing _ _
  · rfl

@[simp] theorem startPeriod_footing : s.startPeriod.footing = s.footing := s.grantSlot_footing _

@[simp] theorem arriveOn_footing (a : Axis) (sp : Int) : (s.arriveOn a sp).footing = s.footing := rfl

@[simp] theorem takeFeedback_footing (a : Axis) (r : SetpointReply) : (s.takeFeedback a r).footing = s.footing := by
  unfold takeFeedback
  simp only
  split <;> rfl

@[simp] theorem dropFlying_footing : s.dropFlying.footing = s.footing := rfl

@[simp] theorem slotDone_footing (p : LinkPeriod) : (s.slotDone p).footing = s.footing := rfl

@[simp] theorem answerPass_footing (t : Acyclic) (r : AcyclicReply) : (s.answerPass t r).footing = s.footing := by
  unfold answerPass
  split <;> rfl

@[simp] theorem takeReply_footing (bytes : List Byte) : (s.takeReply bytes).footing = s.footing := by
  unfold takeReply
  split
  · rfl
  · split
    · rfl
    · split
      · rfl
      · simp only
        split
        · exact takeFeedback_footing _ _ _
        · rfl
    · split
      · rfl
      · split
        · rfl
        · exact answerPass_footing _ _ _

@[simp] theorem failAttempt_footing (t : Acyclic) : (s.failAttempt t).footing = s.footing := by
  unfold failAttempt
  split <;> rfl

@[simp] theorem endAttempt_footing (p : LinkPeriod) : (s.endAttempt p).1.footing = s.footing := by
  unfold endAttempt
  split
  · rfl
  · rfl
  · rfl
  · split
    · rfl
    · exact failAttempt_footing _ _

@[simp] theorem closeLink_footing (p : LinkPeriod) : (s.closeLink p).footing = s.footing := rfl

@[simp] theorem fallBlanking_footing : s.fallBlanking.footing = s.footing := rfl

@[simp] theorem countInPosition_footing : s.countInPosition.footing = s.footing := by
  unfold countInPosition
  split <;> rfl

@[simp] theorem endEnabling_footing (a : Axis) : (s.endEnabling a).footing = s.footing := by
  unfold endEnabling
  simp only
  split <;> rfl

@[simp] theorem enableDrives_footing (mask : Nat) : (s.enableDrives mask).footing = s.footing := rfl

@[simp] theorem configureLink_footing (a : Axis) : (s.configureLink a).footing = s.footing := rfl

/-! ### Jogs, lines, timers, setpoints -/

@[simp] theorem takeUpAll_footing : s.takeUpAll.footing = s.footing := rfl

@[simp] theorem expireRefresh_footing (a : Axis) : (s.expireRefresh a).footing = s.footing := by
  unfold expireRefresh
  split <;> rfl

@[simp] theorem takeRefreshOverdue_footing (a : Axis) : (s.takeRefreshOverdue a).footing = s.footing := by
  unfold takeRefreshOverdue
  split
  · exact s.expireRefresh_footing a
  · rfl

@[simp] theorem takeClear_footing (l : Line) : (s.takeClear l).footing = s.footing := by
  unfold takeClear
  split <;> rfl

@[simp] theorem takeTriggerEnd_footing : s.takeTriggerEnd.footing = s.footing := by
  unfold takeTriggerEnd
  split <;> rfl

@[simp] theorem sampleFilter_footing (l : Line) : (s.sampleFilter l).footing = s.footing := by
  unfold sampleFilter
  split
  · split <;> rfl
  · rfl

@[simp] theorem armDetector_footing : s.armDetector.footing = s.footing := by
  unfold armDetector
  split <;> rfl

@[simp] theorem samplePins_footing (pins : BitVec 12) : (s.samplePins pins).footing = s.footing := by
  rw [samplePins, armDetector_footing, foldl_footing sampleFilter_footing, seePins_footing]

@[simp] theorem fallTimers_footing : s.fallTimers.footing = s.footing := by
  rw [fallTimers, advanceWalk_footing]
  rfl

@[simp] theorem takePeriod_footing : s.takePeriod.footing = s.footing := by
  unfold takePeriod
  simp only
  split <;> rfl

@[simp] theorem countPeriod_footing : s.countPeriod.footing = s.footing := rfl

@[simp] theorem formSetpoints_footing (path : Option RunEntry) : (s.formSetpoints path).footing = s.footing := rfl

end State

end Sys2Proof.Machine
end

/-! SUPPORT. Lists of keys in time order (R3), and the key pool's accounts when a track is replaced (R4, R10). -/
section
namespace Sys2Proof.Machine

/-! ### Time order -/

theorem ascending_iff (ks : List Key) : ascending ks = true ↔ ks.Pairwise fun a b => a.time < b.time := by
  have chain : ∀ ks : List Key, ascending ks = true ↔ ks.IsChain fun a b => a.time < b.time := by
    intro ks
    induction ks with
    | nil => simp [ascending]
    | cons a ks ih =>
      cases ks with
      | nil => simp [ascending]
      | cons b ks => simp [ascending, ih]
  rw [chain]
  exact List.isChain_iff_pairwise

theorem ascending_append (xs ys : List Key) :
    ascending (xs ++ ys) = true ↔
      ascending xs = true ∧ ascending ys = true ∧ ∀ x ∈ xs, ∀ y ∈ ys, x.time < y.time := by
  simp only [ascending_iff, List.pairwise_append]

/-- Two lists in order of which the second begins after the first's end are one list in order. -/
theorem ascending_append_of_ends {xs ys : List Key} (hx : ascending xs = true) (hy : ascending ys = true)
    (h : ∀ last ∈ xs.getLast?, ∀ first ∈ ys.head?, last.time < first.time) : ascending (xs ++ ys) = true := by
  rw [ascending_append]
  refine ⟨hx, hy, fun x hxm y hym => ?_⟩
  obtain ⟨init, last, rfl⟩ : ∃ init last, xs = init ++ [last] := by
    rcases List.eq_nil_or_concat xs with rfl | ⟨init, last, rfl⟩
    · cases hxm
    · exact ⟨init, last, by simp⟩
  obtain ⟨first, rest, rfl⟩ : ∃ first rest, ys = first :: rest := by
    cases ys with
    | nil => cases hym
    | cons first rest => exact ⟨first, rest, rfl⟩
  have hends : last.time < first.time := h last (by simp) first rfl
  have hle : x.time ≤ last.time := by
    rcases List.mem_append.mp hxm with hi | hl
    · exact (((ascending_append _ _).mp hx).2.2 x hi last (by simp)).le
    · rw [List.mem_singleton.mp hl]
  have hge : first.time ≤ y.time := by
    rcases List.mem_cons.mp hym with rfl | hr
    · exact le_rfl
    · exact ((List.pairwise_cons.mp ((ascending_iff _).mp hy)).1 y hr).le
  omega

theorem ascending_sublist {xs ys : List Key} (h : xs.Sublist ys) (hy : ascending ys = true) : ascending xs = true := by
  rw [ascending_iff] at *
  exact hy.sublist h

theorem ascending_getElem {ks : List Key} (h : ascending ks = true) {i j : Nat} (hij : i < j) (hj : j < ks.length) :
    (ks[i]).time < (ks[j]).time :=
  List.pairwise_iff_getElem.mp ((ascending_iff ks).mp h) i j (by omega) hj hij

/-- R15: a key that lies between its neighbours leaves the track in order. -/
theorem ascending_set {ks : List Key} {n : Nat} {key : Key} (h : ascending ks = true)
    (he : editInOrder ks n key.time = true) : ascending (ks.set n key) = true := by
  simp only [editInOrder, Bool.and_eq_true] at he
  obtain ⟨hb, ha⟩ := he
  have before : ∀ i (hi : i < ks.length), i < n → n ≤ ks.length → (ks[i]).time < key.time := by
    intro i hi hin hn
    rw [if_neg (by omega), List.getElem?_eq_getElem (by omega)] at hb
    have h1 : (ks[n - 1]).time < key.time := by simpa using hb
    rcases Nat.lt_or_ge i (n - 1) with hlt | hge
    · exact (ascending_getElem h hlt (by omega)).trans h1
    · have : i = n - 1 := by omega
      subst this
      exact h1
  have after : ∀ j (hj : j < ks.length), n < j → key.time < (ks[j]).time := by
    intro j hj hnj
    rw [List.getElem?_eq_getElem (by omega)] at ha
    have h1 : key.time < (ks[n + 1]).time := by simpa using ha
    rcases Nat.lt_or_ge (n + 1) j with hlt | hge
    · exact h1.trans (ascending_getElem h hlt hj)
    · have : j = n + 1 := by omega
      subst this
      exact h1
  rw [ascending_iff, List.pairwise_iff_getElem]
  intro i j hi hj hij
  rw [List.length_set] at hi hj
  rw [List.getElem_set, List.getElem_set]
  split
  · next hn =>
    rw [if_neg (by omega)]
    exact after j hj (by omega)
  · split
    · exact before i hi (by omega) (by omega)
    · exact ascending_getElem h hij hj

theorem insertKey_length (key : Key) (ks : List Key) : (insertKey key ks).length = ks.length + 1 := by
  induction ks with
  | nil => rfl
  | cons a ks ih =>
    rw [insertKey]
    split
    · rfl
    · simp [ih]

/-- R16: a key goes between those before its time and those after it. -/
theorem insertKey_split (key : Key) (ks : List Key) (h : ascending ks = true) (hne : ∀ k ∈ ks, k.time ≠ key.time) :
    ∃ before after, ks = before ++ after ∧ (∀ k ∈ before, k.time < key.time) ∧ (∀ k ∈ after, key.time < k.time) ∧
      insertKey key ks = before ++ key :: after ∧ placeOf key.time ks = before.length := by
  induction ks with
  | nil => exact ⟨[], [], rfl, by simp, by simp, rfl, rfl⟩
  | cons a ks ih =>
    have hp := List.pairwise_cons.mp ((ascending_iff _).mp h)
    rw [insertKey]
    split
    · next hlt =>
      have later : ∀ k ∈ a :: ks, key.time < k.time := by
        intro k hk
        rcases List.mem_cons.mp hk with rfl | hk
        · exact hlt
        · exact hlt.trans (hp.1 k hk)
      refine ⟨[], a :: ks, rfl, by simp, later, rfl, ?_⟩
      rw [placeOf, List.filter_eq_nil_iff.mpr fun k hk => by simpa using (later k hk).le]
    · next hge =>
      obtain ⟨before, after, h1, h2, h3, h4, h5⟩ :=
        ih ((ascending_iff _).mpr hp.2) fun k hk => hne k (List.mem_cons_of_mem a hk)
      have ha : a.time < key.time := lt_of_le_of_ne (Nat.le_of_not_lt hge) (hne a (by simp))
      refine ⟨a :: before, after, by rw [h1]; rfl, ?_, h3, by rw [h4]; rfl, ?_⟩
      · intro k hk
        rcases List.mem_cons.mp hk with rfl | hk
        · exact ha
        · exact h2 k hk
      · simpa [placeOf, ha] using h5

theorem ascending_insertKey {key : Key} {ks : List Key} (h : ascending ks = true) (hne : ∀ k ∈ ks, k.time ≠ key.time) :
    ascending (insertKey key ks) = true := by
  obtain ⟨before, after, rfl, hb, ha, heq, -⟩ := insertKey_split key ks h hne
  obtain ⟨h1, h2, h3⟩ := (ascending_append _ _).mp h
  rw [heq, ascending_append]
  refine ⟨h1, (ascending_iff _).mpr (List.pairwise_cons.mpr ⟨ha, (ascending_iff _).mp h2⟩), fun x hx y hy => ?_⟩
  rcases List.mem_cons.mp hy with rfl | hy
  · exact hb x hx
  · exact h3 x hx y hy

/-! ### Shifted keys (R14) -/

/-- A key moved by a time offset and a value offset. -/
def movedKey (dt dv : Int) (k : Key) : Key := { k with time := ((k.time : Int) + dt).toNat, value := k.value + dv }

/-- A key moved stays in range. -/
def staysInRange (dt dv : Int) (k : Key) : Prop :=
  0 ≤ (k.time : Int) + dt ∧ (k.time : Int) + dt ≤ 4294967295 ∧ fits32 (k.value + dv) = true

theorem shiftKey_some {dt dv : Int} {k k' : Key} :
    shiftKey dt dv k = some k' ↔ staysInRange dt dv k ∧ k' = movedKey dt dv k := by
  unfold shiftKey
  simp only [staysInRange]
  split
  · next h => simp [h, movedKey, eq_comm]
  · next h => simp [h]

theorem shiftKeys_some {dt dv : Int} {ks ks' : List Key} :
    shiftKeys dt dv ks = some ks' ↔ (∀ k ∈ ks, staysInRange dt dv k) ∧ ks' = ks.map (movedKey dt dv) := by
  induction ks generalizing ks' with
  | nil => simp [shiftKeys, eq_comm]
  | cons k ks ih =>
    rw [shiftKeys]
    constructor
    · intro h
      split at h
      · next k1 ks1 h1 h2 =>
        cases h
        obtain ⟨hk, rfl⟩ := shiftKey_some.mp h1
        obtain ⟨hks, rfl⟩ := ih.mp h2
        exact ⟨by simpa using ⟨hk, hks⟩, rfl⟩
      · cases h
    · rintro ⟨h, rfl⟩
      rw [List.forall_mem_cons] at h
      rw [shiftKey_some.mpr ⟨h.1, rfl⟩, ih.mpr ⟨h.2, rfl⟩]
      rfl

theorem ascending_moved {dt dv : Int} {ks : List Key} (h : ascending ks = true) (hr : ∀ k ∈ ks, staysInRange dt dv k) :
    ascending (ks.map (movedKey dt dv)) = true := by
  rw [ascending_iff] at *
  rw [List.pairwise_map]
  refine h.imp_of_mem fun {a b} ha hb hab => ?_
  have := (hr a ha).1
  have := (hr b hb).1
  simp only [movedKey]
  omega

/-! ### The pool's accounts (R4) -/

/-- The keys of a track position. -/
def positionKeys (tr : Option Track) : Nat :=
  match tr with
  | some ks => ks.length
  | none => 0

/-- The keys of a move slot. -/
def slotKeys (o : Option Move) : Nat :=
  match o with
  | some mv => moveKeys mv
  | none => 0

theorem positionKeys_eq (tr : Option Track) : positionKeys tr = (tr.getD []).length := by cases tr <;> rfl

@[simp] theorem positionKeys_trackOfKeys (ks : List Key) : positionKeys (trackOfKeys ks) = ks.length := by
  rw [positionKeys_eq, trackOfKeys_getD]

theorem trackCount_eq (mv : Move) (a : Axis) : trackCount mv a = ((mv.tracks[a]).getD []).length :=
  positionKeys_eq _

/-- One entry of a table replaced: a sum over the table gains the new entry's share and loses the old one's. -/
theorem sum_put {n : Nat} {α : Type} (w : α → Nat) (v : Vector α n) (i : Fin n) (x : α) {is : List (Fin n)}
    (hn : is.Nodup) (hi : i ∈ is) :
    (is.map fun j => w (put v i x)[j]).sum + w v[i] = (is.map fun j => w v[j]).sum + w x := by
  induction is with
  | nil => cases hi
  | cons j is ih =>
    rw [List.nodup_cons] at hn
    simp only [List.map_cons, List.sum_cons]
    by_cases hij : i = j
    · subst hij
      have hrest : (is.map fun k => w (put v i x)[k]) = is.map fun k => w v[k] :=
        List.map_congr_left fun k hk => by rw [put_get_other v x fun h : i = k => hn.1 (h ▸ hk)]
      rw [put_get_same, hrest]
      omega
    · have := ih hn.2 ((List.mem_cons.mp hi).resolve_left hij)
      rw [put_get_other _ _ hij]
      omega

theorem moveKeys_put (mv : Move) (a : Axis) (tr : Option Track) :
    moveKeys { mv with tracks := put mv.tracks a tr } + trackCount mv a = moveKeys mv + positionKeys tr :=
  sum_put positionKeys mv.tracks a tr allAxes_nodup (mem_allAxes a)

theorem keysInTracks_put (st : Store) (m : MoveSlot) (o : Option Move) (free : Nat) :
    keysInTracks { st with moves := put st.moves m o, free := free } + slotKeys st.moves[m] =
      keysInTracks st + slotKeys o :=
  sum_put slotKeys st.moves m o allMoveSlots_nodup (mem_allMoveSlots m)

/-- One track position changed: the keys in tracks gain the new track's and lose the old one's. -/
theorem keysInTracks_track (st : Store) {m : MoveSlot} {mv : Move} (hm : st.moves[m] = some mv) (a : Axis)
    (tr : Option Track) (free : Nat) :
    keysInTracks
        { st with moves := put st.moves m (some { mv with tracks := put mv.tracks a tr }), free := free } + trackCount mv a =
      keysInTracks st + positionKeys tr := by
  have h1 := keysInTracks_put st m (some { mv with tracks := put mv.tracks a tr }) free
  have h2 := moveKeys_put mv a tr
  rw [hm] at h1
  simp only [slotKeys] at h1
  omega

/-! ### A track read after a change of the store -/

theorem track_put_move (st : Store) (m m' : MoveSlot) (o : Option Move) (a : Axis) (free : Nat) :
    Store.track { st with moves := put st.moves m o, free := free } m' a =
      if m = m' then o.bind (·.tracks[a]) else st.track m' a := by
  by_cases h : m = m'
  · simp only [Store.track, put_get, if_pos h]
    cases o <;> rfl
  · simp only [Store.track, put_get, if_neg h]

theorem track_put_track (st : Store) {m : MoveSlot} {mv : Move} (hm : st.moves[m] = some mv) (a : Axis)
    (tr : Option Track) (free : Nat) (m' : MoveSlot) (a' : Axis) :
    Store.track { st with moves := put st.moves m (some { mv with tracks := put mv.tracks a tr }), free := free } m' a' =
      if m = m' ∧ a = a' then tr else st.track m' a' := by
  rw [track_put_move]
  by_cases h : m = m'
  · subst h
    by_cases ha : a = a'
    · subst ha
      simp
    · simp only [Option.bind_some, put_get_other _ _ ha]
      simp [ha, Store.track, hm]
  · simp [h]

theorem track_of_move {st : Store} {m : MoveSlot} {mv : Move} (hm : st.moves[m] = some mv) (a : Axis) :
    st.track m a = mv.tracks[a] := by simp only [Store.track, hm]

theorem mem_trackOfKeys {ks xs : List Key} : xs ∈ trackOfKeys ks ↔ xs = ks ∧ ks ≠ [] := by
  unfold trackOfKeys
  split
  · next h => simp [h]
  · next h => simp [h, eq_comm]

/-! ### The laws of a store whose tracks change -/

theorem storeLaw_track {st : Store} (h : StoreLaw st) {m : MoveSlot} {mv : Move} (hm : st.moves[m] = some mv) (a : Axis)
    {tr : Option Track} {free : Nat} (hl : ∀ ks ∈ tr, 1 ≤ ks.length ∧ ks.length ≤ maxTrackKeys)
    (hf : free + positionKeys tr = st.free + trackCount mv a) :
    StoreLaw { st with moves := put st.moves m (some { mv with tracks := put mv.tracks a tr }), free := free } where
  pool := by
    have h1 := keysInTracks_track st hm a tr free
    have h2 := h.pool
    simp only [stagedKeys] at *
    omega
  tracks m' a' ks hks := by
    rw [track_put_track st hm] at hks
    split at hks
    · exact hl ks hks
    · exact h.tracks m' a' ks hks
  staged := h.staged

theorem tracksOrdered_track {st : Store} (h : TracksOrdered st) {m : MoveSlot} {mv : Move} (hm : st.moves[m] = some mv)
    (a : Axis) {tr : Option Track} (free : Nat) (ho : ∀ ks ∈ tr, ascending ks = true) :
    TracksOrdered { st with moves := put st.moves m (some { mv with tracks := put mv.tracks a tr }), free := free } := by
  intro m' a' ks hks
  rw [track_put_track st hm] at hks
  split at hks
  · exact ho ks hks
  · exact h m' a' ks hks

theorem storeLaw_replaceTrack {st : Store} (h : StoreLaw st) {m : MoveSlot} {mv : Move} (hm : st.moves[m] = some mv)
    (a : Axis) {ks : List Key} (hl : ks.length ≤ maxTrackKeys) (hf : ks.length ≤ st.free + trackCount mv a) :
    StoreLaw (replaceTrack st m mv a ks) := by
  refine storeLaw_track h hm a (fun xs hx => ?_) ?_
  · obtain ⟨rfl, hne⟩ := mem_trackOfKeys.mp hx
    exact ⟨List.length_pos_iff.mpr hne, hl⟩
  · rw [positionKeys_trackOfKeys]
    omega

theorem tracksOrdered_replaceTrack {st : Store} (h : TracksOrdered st) {m : MoveSlot} {mv : Move}
    (hm : st.moves[m] = some mv) (a : Axis) {ks : List Key} (ho : ascending ks = true) :
    TracksOrdered (replaceTrack st m mv a ks) :=
  tracksOrdered_track h hm a _ fun _ hx => (mem_trackOfKeys.mp hx).1 ▸ ho

/-- An empty slot is occupied by a move without tracks. -/
theorem storeLaw_create {st : Store} (h : StoreLaw st) {m : MoveSlot} (hm : st.moves[m] = none) (name : List Byte) :
    StoreLaw { st with moves := put st.moves m (some { name, tracks := fill 16 none }) } where
  pool := by
    have h1 := keysInTracks_put st m (some { name, tracks := fill 16 none }) st.free
    have h2 : moveKeys { name, tracks := fill 16 none } = 0 := by
      refine List.sum_eq_zero fun n hn => ?_
      obtain ⟨a, -, rfl⟩ := List.mem_map.mp hn
      simp [trackCount_eq]
    have h3 := h.pool
    rw [hm] at h1
    simp only [slotKeys, h2, stagedKeys] at *
    omega
  tracks m' a ks hks := by
    rw [track_put_move st m m' _ a st.free] at hks
    split at hks
    · simp at hks
    · exact h.tracks m' a ks hks
  staged := h.staged

theorem tracksOrdered_create {st : Store} (h : TracksOrdered st) (m : MoveSlot) (name : List Byte) :
    TracksOrdered { st with moves := put st.moves m (some { name, tracks := fill 16 none }) } := by
  intro m' a ks hks
  rw [track_put_move st m m' _ a st.free] at hks
  split at hks
  · simp at hks
  · exact h m' a ks hks

/-- A move's slot is emptied and its keys return to the free keys. -/
theorem storeLaw_delete {st : Store} (h : StoreLaw st) {m : MoveSlot} {mv : Move} (hm : st.moves[m] = some mv) :
    StoreLaw { st with moves := put st.moves m none, free := st.free + moveKeys mv } where
  pool := by
    have h1 := keysInTracks_put st m none (st.free + moveKeys mv)
    have h2 := h.pool
    rw [hm] at h1
    simp only [slotKeys, stagedKeys] at *
    omega
  tracks m' a ks hks := by
    rw [track_put_move] at hks
    split at hks
    · cases hks
    · exact h.tracks m' a ks hks
  staged := h.staged

theorem tracksOrdered_delete {st : Store} (h : TracksOrdered st) (m : MoveSlot) (free : Nat) :
    TracksOrdered { st with moves := put st.moves m none, free := free } := by
  intro m' a ks hks
  rw [track_put_move] at hks
  split at hks
  · cases hks
  · exact h m' a ks hks

end Sys2Proof.Machine
end

/-! SUPPORT. What an accepted store request can do (R6 to R17): it creates or deletes a move, replaces one track of a move that is not
frozen, or only replies. -/
section
namespace Sys2Proof.Machine

variable {s t : State} {tag : Byte} {body : List Byte}

theorem KeepsIf.of_store {P : Prop} {st : Store} (hf : t.footing = { s.footing with store := st })
    (hl : StoreLaw s.store → StoreLaw st) (ho : TracksOrdered s.store → TracksOrdered st)
    (hs : st.staging = s.store.staging) : KeepsIf P s t where
  pending := congrArg Footing.pending hf
  store h := by
    have : t.store = st := congrArg Footing.store hf
    rw [this]
    exact hl h
  order _ hr h := by
    rw [hf]
    obtain ⟨h1, h2, h3, h4, h5⟩ := h
    refine ⟨⟨hr.stopForm, hr.clock, hr.pass, hr.record, hr.place⟩, ?_⟩
    simp only [State.footing] at h1 h2 h3 h4 h5
    rw [← hs] at h2 h3 h4 h5
    exact ⟨ho h1, h2, h3, h4, h5⟩

/-! ### One track replaced -/

/-- A track of a move that is not frozen may take these keys: they fit the pool and a track, and stand in time order. -/
structure Takes (s : State) (m : MoveSlot) (mv : Move) (a : Axis) (ks : List Key) : Prop where
  move : s.store.moves[m] = some mv
  thawed : s.frozen m = false
  room : ks.length ≤ s.store.free + trackCount mv a
  size : StoreLaw s.store → ks.length ≤ maxTrackKeys
  order : TracksOrdered s.store → ascending ks = true

/-- From s to t one track has been replaced and the request answered. -/
def ReplacesTrack (kind tag : Byte) (s t : State) : Prop :=
  ∃ m mv a ks fields, Takes s m mv a ks ∧
    t = (s.withStore (replaceTrack s.store m mv a ks)).reply kind tag .ok fields

theorem ReplacesTrack.keeps {kind : Byte} (h : ReplacesTrack kind tag s t) : Keeps s t := by
  obtain ⟨m, mv, a, ks, fields, hk, rfl⟩ := h
  exact .of_store rfl (fun hs => storeLaw_replaceTrack hs hk.move a (hk.size hs) hk.room)
    (fun ho => tracksOrdered_replaceTrack ho hk.move a (hk.order ho)) rfl

/-- R18: the move in a frozen slot stays. -/
theorem ReplacesTrack.frozen_move {kind : Byte} (h : ReplacesTrack kind tag s t) {m : MoveSlot}
    (hf : s.frozen m = true) : t.store.moves[m] = s.store.moves[m] := by
  obtain ⟨m', mv, a, ks, fields, hk, rfl⟩ := h
  refine (replaceTrack_spec s.store m' mv a ks).2.1 m fun heq => ?_
  rw [heq, hk.thawed] at hf
  cases hf

/-- The keys of a present track. -/
theorem StoreLaw.track_size {st : Store} (h : StoreLaw st) {m : MoveSlot} {mv : Move} (hm : st.moves[m] = some mv)
    {a : Axis} {ks : Track} (hk : mv.tracks[a] = some ks) : 1 ≤ ks.length ∧ ks.length ≤ maxTrackKeys :=
  h.tracks m a ks (by rw [track_of_move hm, hk]; rfl)

theorem TracksOrdered.track {st : Store} (h : TracksOrdered st) {m : MoveSlot} {mv : Move} (hm : st.moves[m] = some mv)
    {a : Axis} {ks : Track} (hk : mv.tracks[a] = some ks) : ascending ks = true :=
  h m a ks (by rw [track_of_move hm, hk]; rfl)

theorem TracksOrdered.track_getD {st : Store} (h : TracksOrdered st) {m : MoveSlot} {mv : Move}
    (hm : st.moves[m] = some mv) (a : Axis) : ascending ((mv.tracks[a]).getD []) = true := by
  cases hk : mv.tracks[a] with
  | none => rfl
  | some ks => exact h.track hm hk

theorem trackCount_some {mv : Move} {a : Axis} {ks : Track} (hk : mv.tracks[a] = some ks) : trackCount mv a = ks.length := by
  rw [trackCount_eq, hk]
  rfl

/-! ### What each request takes -/

theorem keysOfRaw_length {rs : List RawKey} {ks : List Key} (h : keysOfRaw rs = some ks) : ks.length = rs.length := by
  induction rs generalizing ks with
  | nil => cases h; rfl
  | cons r rs ih =>
    rw [keysOfRaw] at h
    split at h
    · next k ks1 _ h1 =>
      cases h
      simp [ih h1]
    · cases h

/-- R9: a TRACK_WRITE carries 1 to 64 keys. -/
theorem trackWriteOperands_count {o : TrackWriteOperands} (h : trackWriteOperands body = some o) :
    1 ≤ o.keys.length ∧ o.keys.length ≤ 64 := by
  unfold trackWriteOperands at h
  split at h
  · split at h
    · split at h
      · next hc =>
        cases h
        obtain ⟨h1, h2, h3⟩ := hc
        simp only [h3]
        exact ⟨h1, h2⟩
      · cases h
    · cases h
  · cases h

/-- R9: the keys that a TRACK_WRITE in order leaves are in order. -/
theorem ascending_written {mode : Nat} {old : Option Track} {ks : List Key} (ho : ascending (old.getD []) = true)
    (hw : writeInOrder mode old ks = true) : ascending (writtenTrack mode old ks) = true := by
  simp only [writeInOrder, Bool.and_eq_true, Bool.or_eq_true, decide_eq_true_eq] at hw
  obtain ⟨hk, hends⟩ := hw
  unfold writtenTrack
  split
  · exact hk
  · next hm =>
    refine ascending_append_of_ends ho hk fun last hl first hf => ?_
    have := hends.resolve_left hm
    rw [Option.mem_def.mp hl, Option.mem_def.mp hf] at this
    simpa using this

theorem trackWrite_replaces (h : trackWrite tag body s = .ok t) : ReplacesTrack Kind.trackWrite tag s t := by
  simp only [trackWrite, need_bind_ok, ensure_bind_ok] at h
  obtain ⟨o, ho, m, -, a, -, -, ks, hks, mv, hmv, hfr, hw, hfit, ht⟩ := h
  cases ht
  have hcount := (keysOfRaw_length hks).symm ▸ (trackWriteOperands_count ho).2
  simp only [writeFits] at hfit
  refine ⟨m, mv, a, _, _, ⟨hmv, by simpa using hfr, ?_, fun _ => ?_, fun hord => ascending_written (hord.track_getD hmv a) hw⟩,
    rfl⟩ <;> unfold writtenTrack <;> split at hfit <;> rename_i hm
  · simpa [hm] using hfit
  · rw [if_neg hm, List.length_append, ← trackCount_eq]
    simp only [Bool.and_eq_true, decide_eq_true_eq] at hfit
    omega
  · rw [if_pos hm]
    exact hcount.trans (by decide)
  · rw [if_neg hm, List.length_append, ← trackCount_eq]
    simp only [Bool.and_eq_true, decide_eq_true_eq] at hfit
    exact hfit.2

theorem trackClear_replaces (h : trackClear tag body s = .ok t) : ReplacesTrack Kind.trackClear tag s t := by
  simp only [trackClear, need_bind_ok, ensure_bind_ok] at h
  obtain ⟨⟨_, _⟩, -, m, -, a, -, mv, hmv, hfr, ht⟩ := h
  cases ht
  exact ⟨m, mv, a, [], _, ⟨hmv, by simpa using hfr, Nat.zero_le _, fun _ => Nat.zero_le _, fun _ => rfl⟩, rfl⟩

theorem trackCopy_replaces (h : trackCopy tag body s = .ok t) : ReplacesTrack Kind.trackCopy tag s t := by
  simp only [trackCopy, need_bind_ok, ensure_bind_ok] at h
  obtain ⟨o, -, m, -, a, -, m', -, a', -, src, hsrc, ks, hks, dst, hdst, hfr, hroom, ht⟩ := h
  cases ht
  exact ⟨m', dst, a', ks, _, ⟨hdst, by simpa using hfr, by simpa using hroom, fun hs => (hs.track_size hsrc hks).2,
    fun ho => ho.track hsrc hks⟩, rfl⟩

theorem trackShift_replaces (h : trackShift tag body s = .ok t) : ReplacesTrack Kind.trackShift tag s t := by
  simp only [trackShift, need_bind_ok, ensure_bind_ok] at h
  obtain ⟨o, -, m, -, a, -, mv, hmv, ks, hks, hfr, ks', hks', ht⟩ := h
  cases ht
  obtain ⟨hr, rfl⟩ := shiftKeys_some.mp hks'
  refine ⟨m, mv, a, _, _, ⟨hmv, by simpa using hfr, ?_, fun hs => ?_, fun ho => ascending_moved (ho.track hmv hks) hr⟩, rfl⟩
  · rw [List.length_map, trackCount_some hks]
    omega
  · rw [List.length_map]
    exact (hs.track_size hmv hks).2

theorem keyEdit_replaces (h : keyEdit tag body s = .ok t) : ReplacesTrack Kind.keyEdit tag s t := by
  simp only [keyEdit, need_bind_ok, ensure_bind_ok] at h
  obtain ⟨o, -, m, -, a, -, key, -, mv, hmv, ks, hks, -, hfr, hord, ht⟩ := h
  cases ht
  refine ⟨m, mv, a, _, _, ⟨hmv, by simpa using hfr, ?_, fun hs => ?_, fun ho => ascending_set (ho.track hmv hks) hord⟩, rfl⟩
  · rw [List.length_set, trackCount_some hks]
    omega
  · rw [List.length_set]
    exact (hs.track_size hmv hks).2

theorem keyInsert_replaces (h : keyInsert tag body s = .ok t) : ReplacesTrack Kind.keyInsert tag s t := by
  simp only [keyInsert, need_bind_ok, ensure_bind_ok] at h
  obtain ⟨o, -, m, -, a, -, key, -, mv, hmv, hfr, hne, hroom, ht⟩ := h
  cases ht
  simp only [Bool.and_eq_true, decide_eq_true_eq] at hroom
  obtain ⟨hfree, hsize⟩ := hroom
  refine ⟨m, mv, a, _, _, ⟨hmv, by simpa using hfr, ?_, fun _ => ?_, fun ho => ?_⟩, rfl⟩
  · rw [insertKey_length, trackCount_eq]
    omega
  · rw [insertKey_length]
    exact hsize
  · exact ascending_insertKey (ho.track_getD hmv a) (by simpa using hne)

theorem keyDelete_replaces (h : keyDelete tag body s = .ok t) : ReplacesTrack Kind.keyDelete tag s t := by
  simp only [keyDelete, need_bind_ok, ensure_bind_ok] at h
  obtain ⟨o, -, m, -, a, -, mv, hmv, ks, hks, -, hfr, ht⟩ := h
  cases ht
  have hle : (ks.eraseIdx o.index).length ≤ ks.length := (List.eraseIdx_sublist ..).length_le
  refine ⟨m, mv, a, _, _, ⟨hmv, by simpa using hfr, ?_, fun hs => ?_, fun ho => ?_⟩, rfl⟩
  · rw [trackCount_some hks]
    omega
  · exact hle.trans (hs.track_size hmv hks).2
  · exact ascending_sublist (List.eraseIdx_sublist ..) (ho.track hmv hks)

/-- R6: an accepted MOVE_CREATE occupies an empty slot. -/
theorem moveCreate_ok (h : moveCreate tag body s = .ok t) : ∃ m name fields, s.store.moves[m] = none ∧
    t = (s.withStore { s.store with moves := put s.store.moves m (some { name, tracks := fill 16 none }) }).reply
      Kind.moveCreate tag .ok fields := by
  simp only [moveCreate, need_bind_ok, ensure_bind_ok] at h
  obtain ⟨⟨_, name⟩, -, m, -, -, hm, ht⟩ := h
  cases ht
  exact ⟨m, name, _, by simpa using hm, rfl⟩

/-- R7: an accepted MOVE_DELETE empties the slot of a move that is not frozen. -/
theorem moveDelete_ok (h : moveDelete tag body s = .ok t) : ∃ m mv fields, s.store.moves[m] = some mv ∧ s.frozen m = false ∧
    t = (s.withStore { s.store with moves := put s.store.moves m none, free := s.store.free + moveKeys mv }).reply
      Kind.moveDelete tag .ok fields := by
  simp only [moveDelete, need_bind_ok, ensure_bind_ok] at h
  obtain ⟨_, -, m, -, mv, hmv, hfr, ht⟩ := h
  cases ht
  exact ⟨m, mv, _, hmv, by simpa using hfr, rfl⟩

theorem moveCreate_keeps (h : moveCreate tag body s = .ok t) : Keeps s t := by
  obtain ⟨m, name, fields, hm, rfl⟩ := moveCreate_ok h
  exact .of_store rfl (storeLaw_create · hm name) (tracksOrdered_create · m name) rfl

theorem moveDelete_keeps (h : moveDelete tag body s = .ok t) : Keeps s t := by
  obtain ⟨m, mv, fields, hm, -, rfl⟩ := moveDelete_ok h
  exact .of_store rfl (storeLaw_delete · hm) (tracksOrdered_delete · m _) rfl

theorem moveList_ok (h : moveList tag body s = .ok t) : t.footing = s.footing := by
  simp only [moveList, need_bind_ok] at h
  obtain ⟨_, -, ht⟩ := h
  cases ht
  rfl

theorem trackRead_ok (h : trackRead tag body s = .ok t) : t.footing = s.footing := by
  simp only [trackRead, need_bind_ok, ensure_bind_ok] at h
  obtain ⟨_, -, _, -, _, -, -, _, -, _, -, -, ht⟩ := h
  cases ht
  rfl

end Sys2Proof.Machine
end

/-! SUPPORT. Capture staging: what opening, staging, committing and discarding do to the store's laws (R20 to R22, R176). -/
section
namespace Sys2Proof.Machine

/-! ### The pool's accounts -/

/-- R22: one list of a commit: its keys count in a track or among the free keys. -/
theorem commitList_pool (m : MoveSlot) (st : Store) (l : StagingList) :
    keysInTracks (commitList m st l) + (commitList m st l).free = keysInTracks st + st.free + l.keys.length := by
  cases hk : l.keys with
  | nil => simp [commitList, hk]
  | cons k ks =>
    cases hm : st.moves[m] with
    | none =>
      simp only [commitList, hk, hm, keysInTracks]
      omega
    | some mv =>
      have h := keysInTracks_track st hm l.axis (some l.keys) (st.free + trackCount mv l.axis)
      simp only [commitList, hk, hm, positionKeys] at h ⊢
      omega

/-- R22: the lists of a commit, one after another. -/
theorem foldl_commitList_pool (m : MoveSlot) (ls : List StagingList) (st : Store) :
    keysInTracks (ls.foldl (commitList m) st) + (ls.foldl (commitList m) st).free =
      keysInTracks st + st.free + (ls.map fun l => l.keys.length).sum := by
  induction ls generalizing st with
  | nil => simp
  | cons l ls ih =>
    rw [List.foldl_cons, ih, commitList_pool, List.map_cons, List.sum_cons]
    omega

/-- R22: whatever becomes of them, the staged keys stay in the pool. -/
theorem commitStaging_pool (st : Store) :
    keysInTracks (commitStaging st) + (commitStaging st).free = keysInTracks st + st.free + stagedKeys st := by
  unfold commitStaging
  split
  · next m _ => exact foldl_commitList_pool m st.staging st
  · simp only [discardStaging, closeStaging, keysInTracks]
    omega

theorem commitStaging_staging (st : Store) : (commitStaging st).staging = [] := by
  unfold commitStaging
  split <;> rfl

/-! ### Tracks after a commit -/

/-- A property of every track of the store. -/
def AllTracks (p : List Key → Prop) (st : Store) : Prop := ∀ (m : MoveSlot) (a : Axis), ∀ ks ∈ st.track m a, p ks

variable {p : List Key → Prop} {st : Store}

theorem allTracks_commitList (h : AllTracks p st) (m : MoveSlot) {l : StagingList} (hl : l.keys ≠ [] → p l.keys) :
    AllTracks p (commitList m st l) := by
  unfold commitList
  split
  · exact h
  · exact h
  · next k ks mv hk hm =>
    intro m' a ks' hks
    rw [track_put_track st hm] at hks
    split at hks
    · cases hks
      exact hl (by simp [hk])
    · exact h m' a ks' hks

theorem allTracks_commitStaging (h : AllTracks p st) (hl : ∀ l ∈ st.staging, l.keys ≠ [] → p l.keys) :
    AllTracks p (commitStaging st) := by
  have fold : ∀ (m : MoveSlot) (ls : List StagingList) (st : Store), AllTracks p st →
      (∀ l ∈ ls, l.keys ≠ [] → p l.keys) → AllTracks p (ls.foldl (commitList m) st) := by
    intro m ls
    induction ls with
    | nil => exact fun _ h _ => h
    | cons l ls ih =>
      intro st h hl
      rw [List.forall_mem_cons] at hl
      exact ih _ (allTracks_commitList h m hl.1) hl.2
  unfold commitStaging
  split
  · next m _ => exact fold m st.staging st h hl
  · exact h

/-! ### The store's law -/

theorem storeLaw_commitStaging (h : StoreLaw st) : StoreLaw (commitStaging st) where
  pool := by
    have h1 := commitStaging_pool st
    have h2 := h.pool
    simp only [stagedKeys, commitStaging_staging] at *
    simp only [List.map_nil, List.sum_nil]
    omega
  tracks := allTracks_commitStaging (p := fun ks => 1 ≤ ks.length ∧ ks.length ≤ maxTrackKeys) h.tracks
    fun l hl hne => ⟨List.length_pos_iff.mpr hne, h.staged l hl⟩
  staged := by simp [commitStaging_staging]

theorem storeLaw_discardStaging (h : StoreLaw st) : StoreLaw (discardStaging st) where
  pool := by
    have := h.pool
    simp only [discardStaging, closeStaging, keysInTracks, stagedKeys] at *
    simp only [List.map_nil, List.sum_nil]
    omega
  tracks := h.tracks
  staged := by simp [discardStaging, closeStaging]

theorem storeLaw_openStaging (h : StoreLaw st) (m : MoveSlot) (bs : List Binding) : StoreLaw (openStaging st m bs) where
  pool := by
    have := h.pool
    simp only [openStaging, keysInTracks, stagedKeys] at *
    simp only [List.map_map, Function.comp_def, List.length_nil, List.map_const', List.sum_replicate, smul_zero]
    omega
  tracks := h.tracks
  staged := by
    intro l hl
    obtain ⟨b, -, rfl⟩ := List.mem_map.mp hl
    exact Nat.zero_le _

/-- One staging list changed: the staged keys gain its new keys and lose its old. -/
theorem stagedKeys_set {n : Nat} {l : StagingList} (hl : st.staging[n]? = some l) (l' : StagingList) (free : Nat) :
    stagedKeys { st with staging := st.staging.set n l', free := free } + l.keys.length =
      stagedKeys st + l'.keys.length := by
  have sums : ∀ (ls : List StagingList) (n : Nat), ls[n]? = some l →
      ((ls.set n l').map fun l => l.keys.length).sum + l.keys.length =
        (ls.map fun l => l.keys.length).sum + l'.keys.length := by
    intro ls
    induction ls with
    | nil => intro n h; cases h
    | cons x ls ih =>
      intro n h
      cases n with
      | zero =>
        cases h
        simp only [List.set_cons_zero, List.map_cons, List.sum_cons]
        omega
      | succ n =>
        have := ih n h
        simp only [List.set_cons_succ, List.map_cons, List.sum_cons]
        omega
  exact sums st.staging n hl

theorem storeLaw_stageKey (h : StoreLaw st) (n : Nat) (key : Key) : StoreLaw (stageKey st n key).1 := by
  obtain heq | ⟨-, heq⟩ | ⟨l, hl, -, heq⟩ | ⟨l, hl, hf, hlen, heq⟩ := stageKey_cases st n key <;> rw [heq]
  · exact h
  · exact ⟨h.pool, h.tracks, h.staged⟩
  · refine ⟨?_, h.tracks, fun x hx => ?_⟩
    · have h1 := stagedKeys_set hl { l with closed := true } st.free
      have h2 := h.pool
      simp only [keysInTracks] at *
      omega
    · rcases List.mem_or_eq_of_mem_set hx with hx | rfl
      · exact h.staged x hx
      · exact h.staged l (List.mem_of_getElem? hl)
  · refine ⟨?_, h.tracks, fun x hx => ?_⟩
    · have h1 := stagedKeys_set hl { l with keys := l.keys ++ [key] } (st.free - 1)
      have h2 := h.pool
      simp only [keysInTracks, List.length_append, List.length_singleton] at *
      omega
    · rcases List.mem_or_eq_of_mem_set hx with hx | rfl
      · exact h.staged x hx
      · simp only [List.length_append, List.length_singleton]
        omega

/-! ### The order law -/

namespace Footing

variable {f : Footing}

/-- With empty staging the order law rests on the tracks alone. -/
theorem StoreFits.of_empty (ht : TracksOrdered f.store) (hs : f.store.staging = []) : f.StoreFits := by
  refine ⟨ht, ?_, ?_, ?_, fun _ => hs⟩ <;> simp [hs]

/-- Where no pass exists staging is empty. -/
theorem StoreFits.staging_nil (h : f.StoreFits) (hp : f.pass = none) : f.store.staging = [] :=
  h.onlyCapture (by rw [hp]; decide)

theorem StoreFits.tracks_commit (h : f.StoreFits) : TracksOrdered (commitStaging f.store) :=
  allTracks_commitStaging (p := fun ks => ascending ks = true) h.tracks fun l hl _ => h.staged l hl

/-- R176: a key later than those of its list, and no later than the pass frame that stands, is staged in order. -/
theorem StoreFits.stageKey (h : f.StoreFits) (hp : f.pass = some .capture) (n : Nat) {key : Key}
    (hs : key.segment = .smooth ∧ key.tangents = .auto)
    (hr : ∀ e ∈ f.runList[0]?, key.time ≤ (e.startFrame + f.passFrame) * subframes)
    (hb : ∀ l, f.store.staging[n]? = some l → ∀ k ∈ l.keys, k.time < key.time) :
    ({ f with store := (Machine.stageKey f.store n key).1 } : Footing).StoreFits := by
  obtain ⟨h1, h2, h3, h4, h5⟩ := h
  obtain heq | ⟨-, heq⟩ | ⟨l, hl, -, heq⟩ | ⟨l, hl, -, -, heq⟩ := stageKey_cases f.store n key <;> rw [heq]
  · exact ⟨h1, h2, h3, h4, h5⟩
  · exact ⟨h1, h2, h3, h4, h5⟩
  · have hmem : l ∈ f.store.staging := List.mem_of_getElem? hl
    have back : ∀ x ∈ f.store.staging.set n { l with closed := true }, ∃ y ∈ f.store.staging, x.keys = y.keys := by
      intro x hx
      rcases List.mem_or_eq_of_mem_set hx with hx | rfl
      · exact ⟨x, hx, rfl⟩
      · exact ⟨l, hmem, rfl⟩
    refine ⟨h1, ?_, ?_, ?_, fun hne => absurd hp hne⟩
    · intro x hx
      obtain ⟨y, hy, hxy⟩ := back x hx
      rw [hxy]
      exact h2 y hy
    · intro x hx
      obtain ⟨y, hy, hxy⟩ := back x hx
      rw [hxy]
      exact h3 y hy
    · intro e he x hx
      obtain ⟨y, hy, hxy⟩ := back x hx
      rw [hxy]
      exact h4 e he y hy
  · have hmem : l ∈ f.store.staging := List.mem_of_getElem? hl
    refine ⟨h1, ?_, ?_, ?_, fun hne => absurd hp hne⟩
    · intro x hx
      rcases List.mem_or_eq_of_mem_set hx with hx | rfl
      · exact h2 x hx
      · rw [ascending_append]
        exact ⟨h2 l hmem, rfl, fun k hk y hy => List.mem_singleton.mp hy ▸ hb l hl k hk⟩
    · intro x hx k hk
      rcases List.mem_or_eq_of_mem_set hx with hx | rfl
      · exact h3 x hx k hk
      · rcases List.mem_append.mp hk with hk | hk
        · exact h3 l hmem k hk
        · exact List.mem_singleton.mp hk ▸ hs
    · intro e he x hx k hk
      rcases List.mem_or_eq_of_mem_set hx with hx | rfl
      · exact h4 e he x hx k hk
      · rcases List.mem_append.mp hk with hk | hk
        · exact h4 e he l hmem k hk
        · exact List.mem_singleton.mp hk ▸ hr e he

theorem RunFits.with_store (h : f.RunFits) (st : Store) : ({ f with store := st } : Footing).RunFits :=
  ⟨h.stopForm, h.clock, h.pass, h.record, h.place⟩

end Footing

/-! ### A pass frame staged (R176) -/

namespace State

variable (s : State)

@[simp] theorem stageFor_footing (e : RunEntry) (n : Nat) (b : Nat × Binding) :
    (stageFor e n s b).footing =
      { s.footing with store := (stageKey s.store b.1 (s.captureKey e n b.2.axis)).1 } := by
  simp only [stageFor]
  split <;> rfl

@[simp] theorem beginCapture_footing : s.beginCapture.footing = s.footing := by
  apply footing_congr <;> simp only [beginCapture, mapGen_store, mapGen_ctrl, mapGen_clock, mapGen_pending]

@[simp] theorem beginCapture_wheels : s.beginCapture.wheels = s.wheels := by simp only [beginCapture, mapGen_wheels]

/-- Every staged key is earlier than pass frame n. -/
def StagedBefore (s : State) (n : Nat) : Prop :=
  ∀ e ∈ s.runEntry? 1, ∀ l ∈ s.store.staging, ∀ k ∈ l.keys, k.time < (e.startFrame + n) * subframes

end State

/-- A list that a staged key did not go to stands as it was. -/
theorem stageKey_staging_other (st : Store) {n i : Nat} (hi : n ≠ i) (key : Key) :
    (stageKey st n key).1.staging[i]? = st.staging[i]? := by
  obtain heq | ⟨-, heq⟩ | ⟨l, -, -, heq⟩ | ⟨l, -, -, -, heq⟩ := stageKey_cases st n key <;> rw [heq]
  · exact List.getElem?_set_ne hi
  · exact List.getElem?_set_ne hi

/-- The keys of a pass frame, one for each of a list of numbered bindings. -/
theorem foldl_stageFor_keeps (e : RunEntry) (n : Nat) (bs : List (Nat × Binding)) (s : State) :
    KeepsIf
      (s.runEntry? 1 = some e ∧ s.ctrl.pass = some .capture ∧ n ≤ s.clock.passFrame ∧ (bs.map (·.1)).Nodup ∧
        ∀ b ∈ bs, ∀ l, s.store.staging[b.1]? = some l → ∀ k ∈ l.keys, k.time < (e.startFrame + n) * subframes)
      s (bs.foldl (State.stageFor e n) s) := by
  induction bs generalizing s with
  | nil => exact .refl s
  | cons b bs ih =>
    have hf := s.stageFor_footing e n b
    have hstore : (State.stageFor e n s b).store = (stageKey s.store b.1 (s.captureKey e n b.2.axis)).1 :=
      State.store_of_footing hf
    have first : KeepsIf
        (s.runEntry? 1 = some e ∧ s.ctrl.pass = some .capture ∧ n ≤ s.clock.passFrame ∧
          ∀ l, s.store.staging[b.1]? = some l → ∀ k ∈ l.keys, k.time < (e.startFrame + n) * subframes)
        s (State.stageFor e n s b) := by
      refine ⟨State.pending_of_footing hf, fun h => hstore ▸ storeLaw_stageKey h _ _, ?_⟩
      rintro ⟨he, hp, hn, hb⟩ hr hs
      rw [hf]
      refine ⟨hr.with_store _, hs.stageKey hp b.1 ⟨rfl, rfl⟩ (fun e' he' => ?_) hb⟩
      have : e' = e := Option.some.inj (he'.symm.trans he)
      rw [this]
      exact Nat.mul_le_mul_right _ (Nat.add_le_add_left hn _)
    refine (first.weaken fun ⟨h1, h2, h3, _, h5⟩ _ _ => ⟨h1, h2, h3, h5 b (by simp)⟩).bind (ih _) ?_
    rintro ⟨h1, h2, h3, h4, h5⟩ _ _
    rw [List.map_cons, List.nodup_cons] at h4
    refine ⟨?_, ?_, ?_, h4.2, fun c hc l hl => h5 c (by simp [hc]) l ?_⟩
    · exact (State.runEntry_of_footing hf).trans h1
    · exact (State.pass_of_footing hf).trans h2
    · exact h3.trans_eq (State.passFrame_of_footing hf).symm
    · rw [hstore, stageKey_staging_other _ fun h : b.1 = c.1 => h4.1 (h ▸ List.mem_map_of_mem hc)] at hl
      exact hl

theorem stageKeys_keeps (s : State) (n : Nat) :
    KeepsIf (s.ctrl.pass = some .capture ∧ n ≤ s.clock.passFrame ∧ s.StagedBefore n) s (s.stageKeys n) := by
  unfold State.stageKeys
  split
  · exact .refl s
  · next e he =>
    split
    · refine (foldl_stageFor_keeps e n _ s).weaken ?_
      rintro ⟨h1, h2, h3⟩ _ _
      refine ⟨he, h1, h2, ?_, fun b _ l hl => h3 e he l (List.mem_of_getElem? hl)⟩
      rw [List.map_fst_zip (by simp)]
      exact List.nodup_range
    · exact .refl s

theorem stageCrossing_keeps (s : State) (n : Nat) :
    KeepsIf (n ≤ s.clock.passFrame ∧ s.StagedBefore n) s (s.stageCrossing n) := by
  unfold State.stageCrossing
  split
  · next hp => exact (stageKeys_keeps s n).weaken fun ⟨h1, h2⟩ _ _ => ⟨hp, h1, h2⟩
  · exact .refl s

/-- R75, R174: the start of a capture opens empty lists and stages pass frame 0. -/
theorem startCapture_keeps (s : State) : Keeps s s.startCapture := by
  unfold State.startCapture
  split
  · next hp =>
    have hb := s.beginCapture_footing
    cases he : s.runEntry? 1 with
    | none =>
      have hopen : s.beginCapture.openCaptureStaging = s.beginCapture := by
        have : s.beginCapture.runEntry? 1 = none := (State.runEntry_of_footing hb).trans he
        simp only [State.openCaptureStaging, this]
      have hkeys : s.beginCapture.stageKeys 0 = s.beginCapture := by
        have : s.beginCapture.runEntry? 1 = none := (State.runEntry_of_footing hb).trans he
        simp only [State.stageKeys, this]
      rw [hopen, hkeys]
      exact .of_footing hb
    | some e =>
      have hopen : s.beginCapture.openCaptureStaging.footing =
          { s.footing with store := openStaging s.store e.slot s.wheels.bindings } := by
        have : s.beginCapture.runEntry? 1 = some e := (State.runEntry_of_footing hb).trans he
        rw [State.openCaptureStaging, this]
        simp only [State.withStore_footing, hb, State.beginCapture_wheels, State.store_of_footing hb]
        rfl
      have hstore : s.beginCapture.openCaptureStaging.store = openStaging s.store e.slot s.wheels.bindings :=
        State.store_of_footing hopen
      have empty : ∀ l ∈ (openStaging s.store e.slot s.wheels.bindings).staging, l.keys = [] := by
        intro l hl
        obtain ⟨b, -, rfl⟩ := List.mem_map.mp hl
        rfl
      have opened : Keeps s s.beginCapture.openCaptureStaging := by
        refine ⟨State.pending_of_footing hopen, fun h => hstore ▸ storeLaw_openStaging h _ _, fun _ hr hs => ?_⟩
        rw [hopen]
        refine ⟨hr.with_store _, hs.tracks, ?_, ?_, ?_, fun hne => absurd hp hne⟩
        · intro l hl
          rw [empty l hl]
          rfl
        · intro l hl k hk
          rw [empty l hl] at hk
          cases hk
        · intro e' _ l hl k hk
          rw [empty l hl] at hk
          cases hk
      refine opened.bind (stageKeys_keeps _ 0) fun _ _ _ => ⟨?_, Nat.zero_le _, ?_⟩
      · exact (State.pass_of_footing hopen).trans hp
      · intro e' _ l hl k hk
        rw [hstore] at hl
        rw [empty l hl] at hk
        cases hk
  · exact .refl s

end Sys2Proof.Machine
end

/-! SUPPORT. How the run controller's moves from state to state keep the run's share of the laws, and the order of the staged keys
(R20, R51 to R56, R66, R80, R82). -/
section
namespace Sys2Proof.Machine

namespace Footing

variable {f : Footing} {cs : CtrlState} {form : Option StopForm} {c : ClockState}

/-- The states in which no pass exists unless a return record says so, with their stop forms. -/
def parked (cs : CtrlState) (form : Option StopForm) : Bool :=
  match cs, form with
  | .idle, none | .checking, none | .preroll, none | .armed, none | .jogging, none | .faulted, none => true
  | .stopping, some .generator | .faultStopping, some .generator => true
  | _, _ => false

/-- The states in which the path governs, with their stop forms. -/
def riding (cs : CtrlState) (form : Option StopForm) : Bool :=
  match cs, form with
  | .running, none | .holding, none | .stopping, some .path | .faultStopping, some .path => true
  | _, _ => false

theorem parked_stopForm (hp : parked cs form = true) :
    form.isSome = (cs = .stopping || cs = .faultStopping) := by
  unfold parked at hp
  split at hp
  case h_9 => cases hp
  all_goals rfl

theorem parked_inPass (hp : parked cs form = true) (hs : f.state = cs) (hf : f.stopForm = form) (hr : f.ret = none) :
    f.inPass = false := by
  unfold parked at hp
  split at hp
  case h_9 => cases hp
  all_goals simp [inPass, onPath, hs, hf, hr]

theorem riding_stopForm (hp : riding cs form = true) :
    form.isSome = (cs = .stopping || cs = .faultStopping) := by
  unfold riding at hp
  split at hp
  case h_5 => cases hp
  all_goals rfl

theorem riding_onPath (hp : riding cs form = true) (hs : f.state = cs) (hf : f.stopForm = form) : f.onPath = true := by
  unfold riding at hp
  split at hp
  case h_5 => cases hp
  all_goals simp [onPath, hs, hf]

theorem inPass_of_onPath (h : f.onPath = true) : f.inPass = true := by simp [inPass, h]

/-- Where no pass exists there is no return record and the clock does not run. -/
theorem RunFits.outside (h : f.RunFits) (hn : f.inPass = false) :
    f.pass = none ∧ f.ret = none ∧ ¬(f.clock = .advancing ∨ f.clock = .waiting) := by
  have hp : f.pass = none := by
    have := h.pass
    rw [hn] at this
    simpa using this
  have hret : f.ret = none := by
    by_contra hne
    have hs : f.ret.isSome = true := Option.isSome_iff_ne_none.mpr hne
    obtain hst | hst | hst := h.record hs <;> simp [inPass, hst, hs] at hn
  refine ⟨hp, hret, fun hc => ?_⟩
  rw [inPass_of_onPath (h.clock hc)] at hn
  cases hn

/-- While the path governs there is no return record. -/
theorem RunFits.ret_none (h : f.RunFits) (hp : f.onPath = true) : f.ret = none := by
  by_contra hne
  obtain hst | hst | hst := h.record (Option.isSome_iff_ne_none.mpr hne) <;> simp [onPath, hst] at hp

theorem RunFits.pass_isSome (h : f.RunFits) (hp : f.inPass = true) : f.pass.isSome = true := h.pass.trans hp

/-- From a state with no pass to another. -/
theorem RunFits.park (h : f.RunFits) (hn : f.inPass = false) (hp : parked cs form = true)
    (hc : c = f.clock ∨ c = .stopped) :
    ({ f with state := cs, stopForm := form, clock := c } : Footing).RunFits := by
  obtain ⟨h1, h2, h3⟩ := h.outside hn
  have hstop : ¬(c = .advancing ∨ c = .waiting) := by
    rcases hc with rfl | rfl
    · exact h3
    · decide
  have hno : ({ f with state := cs, stopForm := form, clock := c } : Footing).inPass = false :=
    parked_inPass hp rfl rfl h2
  refine ⟨parked_stopForm hp, fun hrun => absurd hrun hstop, ?_, ?_, ?_⟩
  · exact (congrArg Option.isSome h1).trans hno.symm
  · simp [h2]
  · simp [h2]

/-- A pass has ended. -/
theorem parked_runFits (f : Footing) (hp : parked cs form = true) :
    ({ f with state := cs, stopForm := form, clock := .stopped, pass := none, ret := none } : Footing).RunFits := by
  refine ⟨parked_stopForm hp, ?_, ?_, ?_, ?_⟩
  · simp
  · rw [parked_inPass hp rfl rfl rfl]
    rfl
  · simp
  · simp

/-- A pass that the path governs goes on, or begins again without a return record. -/
theorem RunFits.ride (h : f.RunFits) (hi : f.inPass = true) (hret : f.ret = none) (hp : riding cs form = true)
    (c : ClockState) : ({ f with state := cs, stopForm := form, clock := c } : Footing).RunFits := by
  have on : ({ f with state := cs, stopForm := form, clock := c } : Footing).onPath = true :=
    riding_onPath hp rfl rfl
  refine ⟨riding_stopForm hp, fun _ => on, ?_, ?_, ?_⟩
  · exact (h.pass_isSome hi).trans (inPass_of_onPath on).symm
  · simp [hret]
  · simp [hret]

/-- A pass comes to stand in HELD. -/
theorem RunFits.hold (h : f.RunFits) (hi : f.inPass = true) (hc : ¬(c = .advancing ∨ c = .waiting)) :
    ({ f with state := .held, stopForm := none, clock := c } : Footing).RunFits :=
  ⟨rfl, fun hrun => absurd hrun hc, h.pass_isSome hi, fun _ => .inl rfl, h.place⟩

end Footing

open Footing (parked riding)

variable {P : Prop} {s s0 t : State} {cs : CtrlState} {form : Option StopForm} {c : ClockState}

/-- The controller's state, the clock's state and the return record change, and nothing else of the footing. -/
theorem KeepsIf.of_move {ret : Option ReturnRec}
    (hf : t.footing = { s.footing with state := cs, stopForm := form, clock := c, ret := ret })
    (hr : P → s.footing.RunFits →
      ({ s.footing with state := cs, stopForm := form, clock := c, ret := ret } : Footing).RunFits) : KeepsIf P s t :=
  .of_run (State.pending_of_footing hf) (State.store_of_footing hf) (State.pass_of_footing hf)
    (congrArg Footing.runList hf) (State.passFrame_of_footing hf).ge fun hp h => hf ▸ hr hp h

/-- A state with no pass is left for another. -/
theorem park_keeps (hf : t.footing = { s.footing with state := cs, stopForm := form }) (hn : s.footing.inPass = false)
    (hp : parked cs form = true) : Keeps s t :=
  .of_move (c := s.footing.clock) (ret := s.footing.ret) hf fun _ h => h.park hn hp (.inl rfl)

/-- The path goes on governing the pass. -/
theorem ride_keeps (hf : t.footing = { s.footing with state := cs, stopForm := form, clock := c })
    (hp : riding cs form = true) : KeepsIf (s.footing.inPass = true ∧ s.ctrl.ret = none) s t :=
  .of_move (ret := s.footing.ret) hf fun ⟨hi, hret⟩ h => h.ride hi hret hp c

/-- A pass comes to stand. -/
theorem hold_keeps (hf : t.footing = { s.footing with state := .held, stopForm := none, clock := c })
    (hc : ¬(c = .advancing ∨ c = .waiting)) : KeepsIf (s.footing.inPass = true) s t :=
  .of_move (ret := s.footing.ret) hf fun hi h => h.hold hi hc

theorem not_inPass (h : s.ctrl.state = .idle ∨ s.ctrl.state = .checking ∨ s.ctrl.state = .preroll ∨
    s.ctrl.state = .armed ∨ s.ctrl.state = .faulted) : s.footing.inPass = false := by
  obtain h | h | h | h | h := h <;> simp [State.footing, Footing.inPass, Footing.onPath, h]

theorem onPath_running (h : s.ctrl.state = .running) : s.footing.onPath = true := by
  simp [State.footing, Footing.onPath, h]

theorem onPath_holding (h : s.ctrl.state = .holding) : s.footing.onPath = true := by
  simp [State.footing, Footing.onPath, h]

/-- A stop that is not the generator's is on the path. -/
theorem onPath_stopping (h : s.ctrl.state = .stopping ∨ s.ctrl.state = .faultStopping)
    (hf : s.ctrl.stopForm ≠ some .generator) (hr : s.footing.RunFits) : s.footing.onPath = true := by
  have hs : s.ctrl.stopForm.isSome = true := by
    refine hr.stopForm.trans ?_
    obtain h | h := h <;> simp [State.footing, h]
  obtain ⟨form, hform⟩ := Option.isSome_iff_exists.mp hs
  have hpath : s.ctrl.stopForm = some .path := by
    cases form with
    | path => exact hform
    | generator => exact absurd hform hf
  obtain h | h := h <;> simp [State.footing, Footing.onPath, h, hpath]

/-- While the path governs, the terms of `ride_keeps` hold. -/
theorem rides_of_onPath (hp : s.footing.onPath = true) (hr : s.footing.RunFits) :
    s.footing.inPass = true ∧ s.ctrl.ret = none :=
  ⟨Footing.inPass_of_onPath hp, hr.ret_none hp⟩

/-! ### The end of a pass (R80) -/

/-- R22, R80: the store at the end of a pass of a kind. -/
def endStore (kind : PassKind) (keep : Bool) (st : Store) : Store :=
  match kind with
  | .play => st
  | .capture => if keep then commitStaging st else discardStaging st

theorem endPassAfterLog_footing (s : State) (kind : PassKind) (keep : Bool) :
    (s.endPassAfterLog kind keep).footing =
      { s.footing with store := endStore kind keep s.store, clock := .stopped, pass := none, ret := none } := by
  rw [State.endPassAfterLog, State.passOutConds_footing]
  cases kind <;> rfl

theorem endPass_footing (s : State) {kind : PassKind} (o : PassOutcome) (h : s.ctrl.pass = some kind) :
    (s.endPass o).footing =
      { s.footing with
        store := endStore kind (!(o = .faulted)) s.store, clock := .stopped, pass := none, ret := none } := by
  simp only [State.endPass, h, endPassAfterLog_footing, State.closePass_footing,
    State.store_of_footing (s.closePass_footing o)]
  rfl

theorem storeLaw_endStore {st : Store} (h : StoreLaw st) (kind : PassKind) (keep : Bool) :
    StoreLaw (endStore kind keep st) := by
  cases kind with
  | play => exact h
  | capture =>
    cases keep with
    | false => exact storeLaw_discardStaging h
    | true => exact storeLaw_commitStaging h

/-- R20, R22: after a pass staging is empty, and the tracks it leaves are in order. -/
theorem Footing.StoreFits.end_store {f : Footing} (h : f.StoreFits) {kind : PassKind} (hk : f.pass = some kind)
    (keep : Bool) : TracksOrdered (endStore kind keep f.store) ∧ (endStore kind keep f.store).staging = [] := by
  cases kind with
  | play => exact ⟨h.tracks, h.onlyCapture (by rw [hk]; decide)⟩
  | capture =>
    cases keep with
    | false => exact ⟨h.tracks, rfl⟩
    | true => exact ⟨h.tracks_commit, commitStaging_staging _⟩

/-- R80: a pass, when one exists, ends, the controller's state being already the one the end leads to. -/
theorem endPass_keeps (hf : s0.footing = { s.footing with state := cs, stopForm := form, clock := c })
    (hc : c = s.footing.clock ∨ c = .stopped) (hp : s.footing.RunFits → parked cs form = true) (o : PassOutcome) :
    Keeps s (s0.endPass o) := by
  cases hk : s.ctrl.pass with
  | none =>
    have h0 : s0.ctrl.pass = none := (State.pass_of_footing hf).trans hk
    have heq : s0.endPass o = s0 := by simp only [State.endPass, h0]
    rw [heq]
    refine .of_move (ret := s.footing.ret) hf fun _ h => h.park ?_ (hp h) hc
    have := h.pass
    simpa [State.footing, hk] using this.symm
  | some kind =>
    have h0 : s0.ctrl.pass = some kind := (State.pass_of_footing hf).trans hk
    have hend := endPass_footing s0 o h0
    rw [hf, State.store_of_footing hf] at hend
    refine ⟨State.pending_of_footing hend, fun h => ?_, fun _ hr hs => ?_⟩
    · rw [State.store_of_footing hend]
      exact storeLaw_endStore h _ _
    · obtain ⟨ht, he⟩ := hs.end_store (kind := kind) hk (!(o = .faulted))
      rw [hend]
      exact ⟨(Footing.parked_runFits s.footing (hp hr)).with_store _, .of_empty ht he⟩

theorem endPass_report_keeps (hf : s0.footing = { s.footing with state := cs, stopForm := form, clock := c })
    (hc : c = s.footing.clock ∨ c = .stopped) (hp : parked cs form = true) (o : PassOutcome) :
    Keeps s (s0.endPass o).reportState :=
  (endPass_keeps hf hc (fun _ => hp) o).trans (.of_footing rfl)

/-- R79, R86: a pass ends where it stands. -/
theorem withCtrl_endPass_keeps (s : State) (hp : parked cs form = true) (o : PassOutcome) :
    Keeps s ((s.withCtrl cs form).endPass o).reportState :=
  endPass_report_keeps (c := s.footing.clock) (s.withCtrl_footing cs form) (.inl rfl) hp o

/-! ### Drives turned off -/

theorem abandonArm_keeps (h : s.ctrl.state = .armed) : Keeps s s.abandonArm :=
  park_keeps (cs := .idle) (form := none) rfl (not_inPass (by simp [h])) rfl

theorem driveLeftOn_keeps (s : State) : Keeps s s.driveLeftOn := by
  unfold State.driveLeftOn
  split
  · next h => exact abandonArm_keeps h
  · exact withCtrl_endPass_keeps s rfl _
  · next h =>
    split
    · refine endPass_keeps (cs := .jogging) (form := s.footing.stopForm) (c := s.footing.clock) ?_ (.inl rfl)
        (fun hr => ?_) _
      · rw [← h]
        rfl
      · have := hr.stopForm
        have hn : s.footing.stopForm = none := by simpa [State.footing, h] using this
        rw [hn]
        rfl
    · exact .refl s
  · exact .refl s

theorem turnOff_keeps (s : State) (axes : List Axis) : Keeps s (s.turnOff axes) := by
  have h1 : Keeps s (axes.foldl State.turnOffAxis s) := .of_footing (foldl_footing State.turnOffAxis_footing axes s)
  unfold State.turnOff
  simp only
  split
  · exact h1.trans (.of_footing (State.settleFaults_footing _ _))
  · exact (h1.trans (driveLeftOn_keeps _)).trans (.of_footing (State.settleFaults_footing _ _))

theorem linkDriveOff_keeps (s : State) : Keeps s s.linkDriveOff :=
  (turnOff_keeps s allAxes).trans (.of_footing (State.abortQueue_footing _ _))

/-! ### Notices of the move clock -/

theorem takeAtRest_keeps (s : State) : KeepsIf (s.footing.onPath = true) s s.takeAtRest := by
  unfold State.takeAtRest
  split
  · exact (hold_keeps (c := .atRest) rfl (by decide)).weaken fun h _ _ => Footing.inPass_of_onPath h
  · exact .mono (endPass_report_keeps (s := s) (cs := .idle) (form := none) (c := .stopped) rfl (.inr rfl) rfl _)
  · exact .mono (endPass_report_keeps (s := s) (cs := .faulted) (form := none) (c := .stopped) rfl (.inr rfl) rfl _)
  · exact .refl s

theorem atRestIfStill_keeps (s : State) : KeepsIf (s.footing.onPath = true) s s.atRestIfStill := by
  unfold State.atRestIfStill
  split
  · exact takeAtRest_keeps s
  · exact .refl s

theorem takeLanding_keeps (s : State) :
    KeepsIf (s.footing.inPass = true ∧ ¬(s.footing.clock = .advancing ∨ s.footing.clock = .waiting)) s s.takeLanding := by
  unfold State.takeLanding
  split
  · exact .mono (withCtrl_endPass_keeps s rfl _)
  · exact .mono (withCtrl_endPass_keeps s rfl _)
  · split
    · exact .mono (withCtrl_endPass_keeps s rfl _)
    · exact .of_move (c := s.footing.clock) (ret := s.footing.ret) rfl fun ⟨hi, hc⟩ h => h.hold hi hc

/-! ### Actions (R86, R88, R139) -/

/-- A stop that goes on along the path, and is over at once where the clock stands. -/
theorem rideIfStill_keeps (hf : t.footing = { s.footing with state := cs, stopForm := form, clock := c })
    (hp : riding cs form = true) : KeepsIf (s.footing.onPath = true) s t.atRestIfStill := by
  refine ((ride_keeps hf hp).weaken fun h hr _ => rides_of_onPath h hr).bind (atRestIfStill_keeps t) fun _ _ _ => ?_
  rw [hf]
  exact Footing.riding_onPath hp rfl rfl

theorem faultRampStop_keeps (s : State) : KeepsIf (s.footing.onPath = true) s s.faultRampStop :=
  rideIfStill_keeps (cs := .faultStopping) (form := some .path) (c := s.footing.clock) rfl rfl

theorem pathStop_keeps (s : State) : Keeps s s.pathStop := by
  unfold State.pathStop
  split
  · next h => exact park_keeps (cs := .faulted) (form := none) rfl (not_inPass (by simp [h])) rfl
  · next h => exact park_keeps (cs := .faulted) (form := none) rfl (not_inPass (by simp [h])) rfl
  · next h =>
    refine park_keeps (cs := .faulted) (form := none) ?_ (not_inPass (by simp [h])) rfl
    rw [State.enter_footing, State.discardArm_footing, State.cancelCheck_footing]
  · next h =>
    refine park_keeps (cs := .faultStopping) (form := some .generator) ?_ (not_inPass (by simp [h])) rfl
    rw [State.enterStop_footing, State.genRestAll_footing]
    rfl
  · next h =>
    split
    · exact (faultRampStop_keeps s).of fun _ _ => onPath_running h
    · exact withCtrl_endPass_keeps s rfl _
  · next h => exact (faultRampStop_keeps s).of fun _ _ => onPath_holding h
  · exact withCtrl_endPass_keeps s rfl _
  · exact (endPass_keeps (s := s) (cs := .faultStopping) (form := some .generator) (c := s.footing.clock) rfl (.inl rfl)
      (fun _ => rfl) _).trans (.of_footing ((State.reportState_footing _).trans (State.genRestAll_footing _)))
  · exact (endPass_keeps (s := s) (cs := .faultStopping) (form := some .generator) (c := s.footing.clock) rfl (.inl rfl)
      (fun _ => rfl) _).trans (.of_footing ((State.reportState_footing _).trans (State.genRestAll_footing _)))
  · next h =>
    split
    · next hg =>
      refine park_keeps (cs := .faultStopping) (form := some .generator) rfl ?_ rfl
      simp [State.footing, Footing.inPass, Footing.onPath, h, hg]
    · next hg => exact (faultRampStop_keeps s).of fun hr _ => onPath_stopping (.inl h) hg hr
  · next h =>
    split
    · exact .refl s
    · next hg =>
      have ramp : Keeps s { s with clock := startFaultRamp s.clock } := .of_footing rfl
      exact (ramp.bind (atRestIfStill_keeps _) fun _ hr _ => onPath_stopping (.inr h) hg hr)
  · exact .refl s

theorem controllerDriveOff_keeps (s : State) : Keeps s s.controllerDriveOff := by
  unfold State.controllerDriveOff
  split
  · exact .refl s
  · refine (endPass_keeps (cs := .faulted) (form := none) (c := .stopped) ?_ (.inr rfl) (fun _ => rfl) _).trans
      (.of_footing rfl)
    rw [State.withCtrl_footing, State.cancelCheck_footing]
    rfl

theorem driveOffAction_keeps (s : State) : Keeps s s.driveOffAction :=
  (controllerDriveOff_keeps s).trans (linkDriveOff_keeps _)

theorem actOn_keeps (s : State) (ids : List CondId) (changed : Bool) : Keeps s (s.actOn ids changed) := by
  unfold State.actOn
  simp only
  generalize ids.filter (hasAction s.mon .axisHalt) = halts
  have h1 : Keeps s (halts.foldl State.detach s) := .of_footing (foldl_footing State.detach_footing halts s)
  refine KeepsIf.trans (t := if ids.any (hasAction s.mon .driveOff) then _ else _) ?_
    (.of_footing (State.settleFaults_footing _ _))
  have h2 : Keeps s (if (!halts.isEmpty && (halts.foldl State.detach s).ctrl.state = .armed) = true then
      (halts.foldl State.detach s).abandonArm else halts.foldl State.detach s) := by
    split
    · next h =>
      simp only [Bool.and_eq_true, decide_eq_true_eq] at h
      exact h1.trans (abandonArm_keeps h.2)
    · exact h1
  split
  · exact h2.trans (driveOffAction_keeps _)
  · split
    · exact h2.trans (pathStop_keeps _)
    · exact h2

theorem evaluateEvent_keeps (s : State) (es : List Evidence) : Keeps s (s.evaluateEvent es) :=
  (KeepsIf.of_footing rfl : Keeps s { s with mon := (evaluateAll s.mon s.stampNow es).mon }).trans (actOn_keeps _ _ _)

theorem evaluateEstop_keeps (s : State) : Keeps s s.evaluateEstop := evaluateEvent_keeps s _

end Sys2Proof.Machine
end

/-! SUPPORT. How the events of the link, the lines, the clock and the servo timer keep the laws of the move store. -/
section
namespace Sys2Proof.Machine

open Footing (parked riding)

variable {P : Prop} {s t : State}

/-! ### Slots and batches -/

theorem monitorBatch_keeps (s : State) : Keeps s s.monitorBatch :=
  (KeepsIf.of_footing s.fallBlanking_footing : Keeps s s.fallBlanking).trans (evaluateEvent_keeps _ _)

theorem logCrossing_keeps (s : State) : Keeps s s.logCrossing := by
  unfold State.logCrossing
  split
  · exact .refl s
  · next c _ =>
    refine KeepsIf.trans (.of_footing ?_) (evaluateEvent_keeps _ _)
    rw [State.finishClosing_footing]
    exact s.recordFrame_footing c _

theorem closeBatch_keeps (s : State) (p : LinkPeriod) : Keeps s (s.closeBatch p) :=
  (((KeepsIf.of_footing (s.closeLink_footing p) : Keeps s (s.closeLink p)).trans (monitorBatch_keeps _)).trans
    (.of_footing (State.countInPosition_footing _))).trans (logCrossing_keeps _)

theorem endSlot_keeps (s : State) (p : LinkPeriod) : Keeps s (s.endSlot p) := by
  have h : Keeps s (s.endAttempt p).1 := .of_footing (s.endAttempt_footing p)
  simp only [State.endSlot]
  split
  · exact h.trans (.of_footing (State.grantSlot_footing _ _))
  · exact h.trans (closeBatch_keeps _ _)

theorem finishSlots_keeps (fuel : Nat) (s : State) : Keeps s (State.finishSlots fuel s) := by
  induction fuel generalizing s with
  | zero => exact .refl s
  | succ fuel ih =>
    rw [State.finishSlots]
    split
    · exact .refl s
    · exact (endSlot_keeps s _).trans (ih _)

theorem finishPeriod_keeps (s : State) : Keeps s s.finishPeriod := by
  unfold State.finishPeriod
  split
  · exact .refl s
  · exact finishSlots_keeps _ s

theorem enableTimesOut_keeps (s : State) (a : Axis) : Keeps s (s.enableTimesOut a) := by
  unfold State.enableTimesOut
  split
  · exact (KeepsIf.of_footing (s.endEnabling_footing a) : Keeps s (s.endEnabling a)).trans (evaluateEvent_keeps _ _)
  · exact .refl s

theorem unconfigureAxis_keeps (s : State) (a : Axis) : Keeps s (s.unconfigureAxis a) :=
  (enableTimesOut_keeps s a).trans
    (.of_footing ((State.passOutConds_footing _ _).trans (State.abortQueue_footing _ _)))

/-! ### The run check -/

theorem afterCheck_keeps (h : s.ctrl.state = .checking) (p : Purpose) (o : CheckOutcome) : Keeps s (s.afterCheck p o) := by
  have hn : s.footing.inPass = false := not_inPass (by simp [h])
  unfold State.afterCheck
  split
  · next e _ =>
    split
    · refine park_keeps (cs := .preroll) (form := none) ?_ hn rfl
      rw [State.beginPreroll, State.enter_footing, State.genTargetAll_footing]
      rfl
    · exact park_keeps (cs := .idle) (form := none) rfl hn rfl
  · exact park_keeps (cs := .idle) (form := none) rfl hn rfl
  · exact park_keeps (cs := .idle) (form := none) rfl hn rfl

theorem completeCheck_keeps (h : s.ctrl.state = .checking) (p : CheckProgress) : Keeps s (s.completeCheck p) :=
  (KeepsIf.of_footing (s.recordCheck_footing _) : Keeps s (s.recordCheck (s.completedCheck p))).trans
    (afterCheck_keeps (s := s.recordCheck (s.completedCheck p)) h _ _)

theorem beginCheck_keeps (h : s.ctrl.state = .idle) (p : Purpose) (v : Vector Int 16) : Keeps s (s.beginCheck p v) :=
  park_keeps (cs := .checking) (form := none) rfl (not_inPass (by simp [h])) rfl

/-! ### GO, HOLD, STOP -/

theorem passStart_keeps (s : State) : Keeps s s.passStart := by
  unfold State.passStart
  simp only
  refine KeepsIf.trans (KeepsIf.trans (.of_footing ?_) (startCapture_keeps _)) (evaluateEvent_keeps _ _)
  rw [State.fireCues_footing, State.recordFrame_footing]

theorem startPassClock_place (c : Clock) (e : RunEntry) : (startPassClock c e).passFrame = 0 := by
  simp only [startPassClock]
  split <;> rfl

/-- R74: a pass begins in ARMED, with an empty staging. -/
theorem startPass_keeps (h : s.ctrl.state = .armed) (e : RunEntry) : Keeps s (s.startPass e) := by
  simp only [State.startPass]
  generalize hs1 : State.beginPass _ _ = s1
  have hf1 : s1.footing = { s.footing with pass := some s.purposeKind } := by
    rw [← hs1, State.beginPass_footing]
    rfl
  generalize hc : startPassClock s1.clock e = c
  have hf : ({ s1 with clock := c }.enter .running).footing =
      { s.footing with
        pass := some s.purposeKind, state := .running, stopForm := none, clock := c.state, passFrame := 0 } := by
    rw [State.enter_footing]
    have hplace : c.passFrame = 0 := hc ▸ startPassClock_place _ _
    have hfc : ({ s1 with clock := c } : State).footing =
        { s1.footing with clock := c.state, passFrame := c.passFrame } := rfl
    rw [hfc, hf1, hplace]
  have first : Keeps s ({ s1 with clock := c }.enter .running) := by
    refine ⟨State.pending_of_footing hf, fun hl => ?_, fun _ hr hs => ?_⟩
    · rw [State.store_of_footing hf]
      exact hl
    · obtain ⟨hp, hret, -⟩ := hr.outside (not_inPass (by simp [h]))
      rw [hf]
      refine ⟨⟨rfl, fun _ => rfl, rfl, ?_, ?_⟩, .of_empty hs.tracks (hs.staging_nil hp)⟩ <;> simp [hret]
  split
  · exact first
  · exact first.trans (passStart_keeps _)

theorem startEntryClock_place (c : Clock) (e : RunEntry) : (startEntryClock c e).passFrame = c.passFrame := by
  simp only [startEntryClock]
  split <;> rfl

theorem resumePass_keeps (s : State) (e : RunEntry) :
    KeepsIf (s.footing.inPass = true ∧ s.ctrl.ret = none) s (s.resumePass e) :=
  ride_keeps (cs := .running) (form := none) (c := .advancing) rfl rfl

theorem nextEntry_keeps (s : State) (e : RunEntry) :
    KeepsIf (s.footing.inPass = true ∧ s.ctrl.ret = none) s (s.nextEntry e) := by
  refine ride_keeps (cs := .running) (form := none) (c := (startEntryClock s.clock e).state) ?_ rfl
  rw [State.nextEntry, State.enter_footing]
  have hplace := startEntryClock_place s.clock e
  have hf : ({ s with
      ctrl := { s.ctrl with entry := s.ctrl.entry + 1, landing := false }, clock := startEntryClock s.clock e } :
        State).footing =
      { s.footing with
        clock := (startEntryClock s.clock e).state, passFrame := (startEntryClock s.clock e).passFrame } := rfl
  rw [hf, hplace]
  rfl

theorem inPass_held (h : s.ctrl.state = .held) : s.footing.inPass = true := by
  simp [State.footing, Footing.inPass, h]

theorem takeGo_keeps {ok : State → State} (hok : (ok s).footing = s.footing) (h : s.takeGo ok = some t) : Keeps s t := by
  have hf : (ok s).clearSkipped.footing = s.footing := hok
  have start : Keeps s (ok s).clearSkipped := .of_footing hf
  unfold State.takeGo at h
  split at h
  · next hst =>
    obtain ⟨e, -, rfl⟩ := Option.map_eq_some_iff.mp h
    exact start.trans (startPass_keeps ((State.state_of_footing hf).trans hst) e)
  · next hst =>
    obtain ⟨e, -, rfl⟩ := Option.map_eq_some_iff.mp h
    exact start.bind (resumePass_keeps _ e) fun _ hr _ =>
      rides_of_onPath (hf ▸ onPath_holding hst) (hf ▸ hr)
  · next hst =>
    have hin : (ok s).clearSkipped.footing.inPass = true := hf ▸ inPass_held hst
    split at h
    · cases h
    · next hret =>
      have hret' : (ok s).clearSkipped.ctrl.ret = none := by
        rw [State.ret_of_footing hf]
        exact Option.not_isSome_iff_eq_none.mp hret
      split at h
      · obtain ⟨e, -, rfl⟩ := Option.map_eq_some_iff.mp h
        exact start.bind (nextEntry_keeps _ e) fun _ _ _ => ⟨hin, hret'⟩
      · obtain ⟨e, -, rfl⟩ := Option.map_eq_some_iff.mp h
        exact start.bind (resumePass_keeps _ e) fun _ _ _ => ⟨hin, hret'⟩
  · cases h

theorem startStopRamp_place (c : Clock) :
    (startStopRamp c).state = c.state ∧ (startStopRamp c).passFrame = c.passFrame := by
  unfold startStopRamp
  split <;> exact ⟨rfl, rfl⟩

theorem stopOnPath_keeps (s : State) : KeepsIf (s.footing.onPath = true) s s.stopOnPath := by
  refine rideIfStill_keeps (cs := .stopping) (form := some .path) (c := s.footing.clock) ?_ rfl
  obtain ⟨h1, h2⟩ := startStopRamp_place s.clock
  have hf : ({ s with clock := startStopRamp s.clock } : State).footing =
      { s.footing with clock := (startStopRamp s.clock).state, passFrame := (startStopRamp s.clock).passFrame } := rfl
  rw [State.enterStop_footing, hf, h1, h2]
  rfl

theorem takeStop_keeps (s : State) : Keeps s s.takeStop := by
  unfold State.takeStop
  split
  · exact .refl s
  · exact .refl s
  · exact .refl s
  · exact .refl s
  · next h =>
    refine park_keeps (cs := .idle) (form := none) ?_ (not_inPass (by simp [h])) rfl
    rw [State.enter_footing, State.discardArm_footing, State.cancelCheck_footing]
  · next h =>
    refine park_keeps (cs := .stopping) (form := some .generator) ?_ (not_inPass (by simp [h])) rfl
    rw [State.enterStop_footing, State.genRestAll_footing]
    rfl
  · next h => exact abandonArm_keeps h
  · next h =>
    split
    · exact (stopOnPath_keeps s).of fun _ _ => onPath_running h
    · exact withCtrl_endPass_keeps s rfl _
  · next h => exact (stopOnPath_keeps s).of fun _ _ => onPath_holding h
  · exact withCtrl_endPass_keeps s rfl _
  · exact (endPass_keeps (s := s) (cs := .stopping) (form := some .generator) (c := s.footing.clock) rfl (.inl rfl)
      (fun _ => rfl) _).trans (.of_footing ((State.reportState_footing _).trans (State.genRestAll_footing _)))
  · exact (endPass_keeps (s := s) (cs := .stopping) (form := some .generator) (c := s.footing.clock) rfl (.inl rfl)
      (fun _ => rfl) _).trans (.of_footing ((State.reportState_footing _).trans (State.genRestAll_footing _)))

theorem startHold_keeps (s : State) : KeepsIf (s.footing.onPath = true) s s.startHold :=
  rideIfStill_keeps (cs := .holding) (form := none) (c := s.footing.clock) rfl rfl

theorem takeHold_keeps {ok : Status → State → State} (hok : ∀ st, (ok st s).footing = s.footing)
    (h : s.takeHold ok = some t) : Keeps s t := by
  have start : ∀ st, Keeps s (ok st s) := fun st => .of_footing (hok st)
  unfold State.takeHold at h
  split at h
  · next hst =>
    split at h
    · cases h
      exact (start _).trans (takeStop_keeps _)
    · cases h
      exact (start _).bind (startHold_keeps _) fun _ _ _ => by
        rw [hok]
        exact onPath_running hst
  · cases h
    exact start _
  · cases h

/-! ### Jogging and returning -/

/-- R82, R167: JOGGING is entered from a state that takes a jog. -/
theorem enterJogging_keeps (h : s.jogAllowed = true) : Keeps s s.enterJogging := by
  unfold State.enterJogging
  split
  · exact .refl s
  · next hst =>
    have hf := s.takeUpAll_footing
    generalize s.takeUpAll = s1 at hf
    refine .of_move (cs := .jogging) (form := none) (c := .stopped) (ret := some (s.ctrl.ret.getD s.returnRecord)) ?_
      fun _ hr => ⟨rfl, ?_, ?_, fun _ => .inr (.inl rfl), ?_⟩
    · have hret : s1.ctrl.ret = s.ctrl.ret := State.ret_of_footing hf
      rw [← hf, ← hret]
      rfl
    · rintro (h | h) <;> cases h
    · exact hr.pass_isSome (inPass_held hst)
    · intro r hret
      cases hret
      cases hr0 : s.ctrl.ret with
      | none => rfl
      | some r => exact hr.place r hr0
  · next h1 h2 =>
    refine park_keeps (cs := .jogging) (form := none) ?_ (not_inPass (.inl ?_)) rfl
    · rw [State.enter_footing, State.takeUpAll_footing]
    unfold State.jogAllowed at h
    split at h
    · next hst => exact hst
    · next hst => exact absurd hst h1
    · next hst => exact absurd hst h2
    · cases h

theorem beginReturn_keeps {r : ReturnRec} (h : s.returnAllowed = some r) : Keeps s (s.beginReturn r) := by
  unfold State.returnAllowed at h
  split at h
  · next hst =>
    simp only [Bool.or_eq_true, decide_eq_true_eq] at hst
    have hin : s.footing.inPass = true := by
      obtain hst | hst := hst <;> simp [State.footing, Footing.inPass, hst, h]
    refine .of_move (cs := .returning) (form := none) (c := .stopped) (ret := s.ctrl.ret) ?_
      fun _ hr => ⟨rfl, ?_, hr.pass_isSome hin, fun _ => .inr (.inr rfl), hr.place⟩
    · rw [State.beginReturn, State.enter_footing, State.genTargetAll_footing]
      rfl
    · rintro (h | h) <;> cases h
  · cases h

theorem prerollArrives_keeps (h : s.ctrl.state = .preroll) : Keeps s s.prerollArrives := by
  refine park_keeps (cs := .armed) (form := none) ?_ (not_inPass (by simp [h])) rfl
  rw [State.prerollArrives, State.enter_footing, State.genReleaseAll_footing]
  rfl

/-- R82: the record holds the pass frame that stands. -/
theorem place_of_ret (hr : s.footing.RunFits) {r : ReturnRec} (h : s.ctrl.ret = some r) :
    r.passFrame = s.footing.passFrame := hr.place r h

/-- R82, R84: the pass comes to stand in HELD at the recorded place. -/
theorem restore_keeps {ret : Option ReturnRec} {r : ReturnRec} (hret : s.ctrl.ret = some r)
    (hst : s.ctrl.state = .returning ∨ s.ctrl.state = .jogging) (hsub : ∀ x ∈ ret, x = r)
    (hf : t.footing =
      { s.footing with
        state := .held, stopForm := none, clock := .atRest, passFrame := r.passFrame, ret := ret }) : Keeps s t := by
  have hin : s.footing.inPass = true := by
    obtain hst | hst := hst <;> simp [State.footing, Footing.inPass, hst, hret]
  refine ⟨State.pending_of_footing hf, fun hl => ?_, fun _ hr hs => ?_⟩
  · rw [State.store_of_footing hf]
    exact hl
  · have hplace := place_of_ret hr hret
    rw [hf, hplace]
    obtain ⟨h1, h2, h3, h4, h5⟩ := hs
    refine ⟨⟨rfl, ?_, hr.pass_isSome hin, fun _ => .inl rfl, fun x hx => ?_⟩, ⟨h1, h2, h3, h4, h5⟩⟩
    · rintro (h | h) <;> cases h
    · rw [hsub x hx]
      exact hplace

theorem returnArrives_keeps {r : ReturnRec} (hret : s.ctrl.ret = some r) (hst : s.ctrl.state = .returning) :
    Keeps s (s.returnArrives r) := by
  refine restore_keeps (ret := none) hret (.inl hst) (by simp) ?_
  simp only [State.returnArrives, State.enter_footing, State.genReleaseAll_footing]
  rfl

theorem takeArrival_keeps (s : State) : Keeps s s.takeArrival := by
  unfold State.takeArrival
  split
  · split
    · next _ h => exact prerollArrives_keeps h
    · next r hst hret => exact returnArrives_keeps hret hst
    · exact .refl s
  · exact .refl s

/-! ### Lines and the camera -/

theorem handEdge_keeps (s : State) (l : Line) (active : Bool) : Keeps s (s.handEdge l active) := by
  unfold State.handEdge
  split
  · cases active with
    | true => exact (turnOff_keeps s allAxes).trans (evaluateEstop_keeps _)
    | false => exact evaluateEstop_keeps s
  · split
    · cases active with
      | true =>
        cases h : s.takeGo id with
        | none => simpa [h] using KeepsIf.refl s
        | some t => simpa [h] using takeGo_keeps rfl h
      | false => exact .refl s
    · split
      · cases active with
        | true =>
          cases h : s.takeHold fun _ t => t with
          | none => simpa [h] using KeepsIf.refl s
          | some t => simpa [h] using takeHold_keeps (fun _ => rfl) h
        | false => exact .refl s
      · exact .refl s

theorem takeEdge_keeps (s : State) (l : Line) : Keeps s (s.takeEdge l) := by
  unfold State.takeEdge
  split
  · exact .refl s
  · next f _ =>
    exact (KeepsIf.of_footing rfl : Keeps s { s with lines := putFilter s.lines l (flipFilter f) }).trans
      (handEdge_keeps _ l _)

/-- An event whose evaluations activate nothing brings no action. -/
theorem actOn_nil (s : State) (changed : Bool) : s.actOn [] changed = s.settleFaults changed := by
  simp [State.actOn]

/-- R136: a false evaluation activates nothing. -/
theorem evaluateAll_false (mon : Mon) (stamp : Stamp) (e : Evidence) (h : e.truth = false) :
    (evaluateAll mon stamp [e]).activated = [] := by
  simp only [evaluateAll, List.foldl_cons, List.foldl_nil, evaluateOne]
  split
  · rfl
  · simp [activates, h]

theorem evaluateEvent_false (s : State) (e : Evidence) (h : e.truth = false) :
    s.evaluateEvent [e] =
      { s with mon := (evaluateAll s.mon s.stampNow [e]).mon }.settleFaults (evaluateAll s.mon s.stampNow [e]).changed := by
  simp only [State.evaluateEvent, evaluateAll_false _ _ e h, actOn_nil]

theorem endLoss_footing (s : State) : s.endLoss.footing = s.footing := by
  unfold State.endLoss
  split
  · rw [evaluateEvent_false s _ rfl, State.settleFaults_footing]
    rfl
  · rfl

/-- R59: the first pulse starts a clock that waits. -/
theorem startAtPulse_keeps (h : s.clock.state = .waiting) : Keeps s s.startAtPulse := by
  have first : Keeps s { s with clock := startFollower s.clock } := by
    refine .of_run rfl rfl rfl rfl le_rfl fun _ hr => ?_
    have hp : s.footing.onPath = true := hr.clock (.inr h)
    exact ⟨hr.stopForm, fun _ => hp, hr.pass, hr.record, hr.place⟩
  simp only [State.startAtPulse]
  split
  · exact first.trans (passStart_keeps _)
  · exact first

theorem takePulse_keeps (s : State) : Keeps s s.takePulse := by
  unfold State.takePulse
  split
  · next _ _ h =>
    exact (KeepsIf.of_footing (endLoss_footing s) : Keeps s s.endLoss).trans
      (startAtPulse_keeps ((State.clock_of_footing (endLoss_footing s)).trans h))
  · next l _ _ =>
    exact (KeepsIf.of_footing rfl : Keeps s { s with clock := pulseLock s.clock l }).trans (evaluateEvent_keeps _ _)
  · exact .refl s
  · exact (KeepsIf.of_footing (endLoss_footing s) : Keeps s s.endLoss).trans (.of_footing rfl)
  · exact .refl s

theorem cameraRise_keeps (s : State) : Keeps s s.cameraRise := by
  simp only [State.cameraRise]
  split
  · exact (KeepsIf.of_footing rfl : Keeps s
      { s.seePins (s.lines.pins ||| 1#12) with
        lines := { (s.seePins (s.lines.pins ||| 1#12)).lines with edgeArmed := false } }).trans (takePulse_keeps _)
  · exact .of_footing rfl

theorem cameraLost_keeps (s : State) : Keeps s s.cameraLost :=
  (KeepsIf.of_footing rfl : Keeps s { s with clock := loseCamera s.clock }).trans (evaluateEvent_keeps _ _)

theorem takeRampEnd_keeps (s : State) : Keeps s s.takeRampEnd := by
  unfold State.takeRampEnd
  split
  · next h =>
    simp only [State.rampDue, Bool.and_eq_true, decide_eq_true_eq] at h
    obtain ⟨⟨hadv, -⟩, -⟩ := h
    exact (takeAtRest_keeps s).of fun hr _ => hr.clock (.inl hadv)
  · exact .refl s

theorem takeDue_keeps (s : State) : Keeps s s.takeDue := by
  have h1 : Keeps s (allLines.foldl State.takeClear s.takeTriggerEnd) :=
    .of_footing ((foldl_footing State.takeClear_footing _ _).trans s.takeTriggerEnd_footing)
  have h2 := (h1.trans (foldl_keeps takeEdge_keeps [1, 2, 3] _)).trans (takeRampEnd_keeps _)
  exact (h2.trans (foldl_keeps enableTimesOut_keeps allAxes _)).trans (takeArrival_keeps _)

/-! ### One expiry of the servo timer -/

theorem takeCheckOverdue_keeps (s : State) : Keeps s s.takeCheckOverdue := by
  unfold State.takeCheckOverdue
  split
  · next p _ =>
    split
    · next h =>
      simp only [Bool.and_eq_true, decide_eq_true_eq] at h
      exact completeCheck_keeps h.1 p
    · exact .refl s
  · exact .refl s

theorem takeOverdue_keeps (s : State) : Keeps s s.takeOverdue := by
  have h1 : Keeps s (if overdue s.clock.period s.clock.lostTimer = true then s.cameraLost else s) := by
    split
    · exact cameraLost_keeps s
    · exact .refl s
  exact (h1.trans (takeCheckOverdue_keeps _)).trans
    (.of_footing (foldl_footing State.takeRefreshOverdue_footing _ _))

theorem finishBefore_keeps (s : State) : Keeps s s.finishBefore :=
  (((takeDue_keeps s).trans (finishPeriod_keeps _)).trans (takeDue_keeps _)).trans (takeOverdue_keeps _)

theorem estopAtExpiry_keeps (s : State) : Keeps s s.estopAtExpiry := by
  unfold State.estopAtExpiry
  split
  · exact .refl s
  · exact evaluateEstop_keeps s

theorem tick_keeps (s : State) (pins : BitVec 12) : Keeps s (s.tick pins) := by
  refine KeepsIf.trans (.of_footing ?_) (estopAtExpiry_keeps _)
  rw [State.samplePins_footing, State.countPeriod_footing, State.takePeriod_footing, State.fallTimers_footing]

theorem crossFrame_place (c : Clock) :
    c.passFrame ≤ (crossFrame c).1.passFrame ∧ (crossFrame c).1.state = c.state ∧
      ∀ n, (crossFrame c).2 = some n → n = (crossFrame c).1.passFrame ∧ c.passFrame < n := by
  simp only [crossFrame]
  split
  · next h =>
    refine ⟨h.le, rfl, fun n hn => ?_⟩
    cases hn
    exact ⟨rfl, h⟩
  · exact ⟨le_rfl, rfl, fun n hn => nomatch hn⟩

theorem rampStep_place (c : Clock) (target : Nat) :
    (rampStep c target).passFrame = c.passFrame ∧ (rampStep c target).state = c.state := by
  unfold rampStep
  split <;> exact ⟨rfl, rfl⟩

theorem takeIncrement_place (c : Clock) :
    (takeIncrement c).1.passFrame = c.passFrame ∧ (takeIncrement c).1.state = c.state := by
  simp only [takeIncrement]
  split <;> exact ⟨rfl, rfl⟩

/-- R49: an advance never lowers the pass frame, a crossing raises it to the one handed over, and a landing leaves the clock at
rest. -/
theorem advanceClock_place (c : Clock) (n : Nat) (e : RunEntry) (next : Option RunEntry) :
    c.passFrame ≤ (advanceClock c n e next).1.passFrame ∧
      ((advanceClock c n e next).2.landed = true → (advanceClock c n e next).1.state = .atRest) ∧
      ∀ x, (advanceClock c n e next).2.crossing = some x →
        x = (advanceClock c n e next).1.passFrame ∧ c.passFrame < x := by
  have h1 := rampStep_place c (targetSpeed c.cfg e)
  have h2 := takeIncrement_place (rampStep c (targetSpeed c.cfg e))
  simp only [advanceClock]
  generalize takeIncrement (rampStep c (targetSpeed c.cfg e)) = r at h2 ⊢
  have hplace : r.1.passFrame = c.passFrame := h2.1.trans h1.1
  rw [← hplace]
  split
  · obtain ⟨hle, -, hx⟩ := crossFrame_place (addTravel { r.1 with time := moveTime r.1.dir r.1.time r.2 } r.2)
    exact ⟨hle, by simp, hx⟩
  · split
    · next e' =>
      split
      · obtain ⟨hle, hst, hx⟩ := crossFrame_place (landClock r.1 e (toEntryEnd r.1 e))
        exact ⟨hle, fun _ => hst, hx⟩
      · obtain ⟨hle, -, hx⟩ := crossFrame_place (carryClock r.1 e' (r.2 - toEntryEnd r.1 e) r.2)
        exact ⟨hle, by simp, hx⟩
    · obtain ⟨hle, hst, hx⟩ := crossFrame_place (landClock r.1 e (toEntryEnd r.1 e))
      exact ⟨hle, fun _ => hst, hx⟩

/-- Everything an advance can do to the footing: nothing, with no hand-over, or the clock's share of a pass that the path governs. -/
theorem advance_cases (s : State) :
    (s.advance = (s, none)) ∨
      ∃ (c : Clock) (h : HandOver), s.clock.state = .advancing ∧ s.advance.2 = some h ∧
        s.advance.1.footing = { s.footing with clock := c.state, passFrame := c.passFrame } ∧
        s.clock.passFrame ≤ c.passFrame ∧ (h.landed = true → c.state = .atRest) ∧
        ∀ x, h.crossing = some x → x = c.passFrame ∧ s.clock.passFrame < x := by
  by_cases hadv : s.clock.state = .advancing
  · cases he : s.currentEntry? with
    | none => exact .inl (by simp only [State.advance, hadv, he])
    | some e =>
      obtain ⟨h1, h2, h3⟩ := advanceClock_place s.clock s.ctrl.entry e (s.runEntry? (s.ctrl.entry + 1))
      refine .inr ⟨_, _, hadv, ?_, ?_, h1, h2, h3⟩ <;> simp only [State.advance, hadv, he]
      rfl
  · refine .inl ?_
    unfold State.advance
    split
    · next h _ => exact absurd h hadv
    · rfl

theorem takeCrossing_keeps (s : State) (n : Nat) :
    KeepsIf (n ≤ s.clock.passFrame ∧ s.StagedBefore n) s (s.takeCrossing n) := by
  refine (stageCrossing_keeps s n).trans (.of_footing ?_)
  have hf : (s.takeCrossing n).footing = ((s.stageCrossing n).fireCues n).footing := by
    simp only [State.takeCrossing, beginTrigger]
    split <;> rfl
  rw [hf, State.fireCues_footing]

/-- A crossing leaves everything of the footing but the store. -/
theorem takeCrossing_footing (s : State) (n : Nat) :
    (s.takeCrossing n).footing = { s.footing with store := (s.takeCrossing n).store } := by
  have hstage : ∀ (e : RunEntry) (bs : List (Nat × Binding)) (s : State),
      (bs.foldl (State.stageFor e n) s).footing =
        { s.footing with store := (bs.foldl (State.stageFor e n) s).store } := by
    intro e bs
    induction bs with
    | nil => exact fun _ => rfl
    | cons b bs ih =>
      intro s
      rw [List.foldl_cons, ih, State.stageFor_footing]
  have hcross : (s.stageCrossing n).footing = { s.footing with store := (s.stageCrossing n).store } := by
    unfold State.stageCrossing State.stageKeys
    split
    · split
      · rfl
      · split
        · exact hstage _ _ s
        · rfl
    · rfl
  have hf : (s.takeCrossing n).footing = ((s.stageCrossing n).fireCues n).footing := by
    simp only [State.takeCrossing, beginTrigger]
    split <;> rfl
  rw [State.store_of_footing hf, hf, State.fireCues_footing, hcross]

/-- R49, stage 6: a crossing at the pass frame that stands, and a landing at which the clock rests. -/
theorem takeHandOver_keeps (s : State) (h : HandOver) :
    KeepsIf
      (s.footing.onPath = true ∧ (h.landed = true → s.clock.state = .atRest) ∧
        ∀ n, h.crossing = some n → n ≤ s.clock.passFrame ∧ s.StagedBefore n)
      s (s.takeHandOver h) := by
  have landing : ∀ t : State, t.footing.onPath = s.footing.onPath → t.clock.state = s.clock.state →
      KeepsIf (s.footing.onPath = true ∧ (h.landed = true → s.clock.state = .atRest)) t
        (if h.landed = true then t.takeLanding else t) := by
    intro t hp hc
    split
    · next hl =>
      refine (takeLanding_keeps t).weaken fun ⟨h1, h2⟩ _ _ => ⟨Footing.inPass_of_onPath (hp.trans h1), ?_⟩
      have : t.footing.clock = .atRest := hc.trans (h2 hl)
      rw [this]
      decide
    · exact .refl t
  unfold State.takeHandOver
  cases hx : h.crossing with
  | none => exact (landing s rfl rfl).weaken fun ⟨h1, h2, _⟩ _ _ => ⟨h1, h2⟩
  | some n =>
    have hf := takeCrossing_footing s n
    refine ((takeCrossing_keeps s n).weaken fun ⟨_, _, h3⟩ _ _ => h3 n rfl).bind
      (landing (s.takeCrossing n) ?_ (State.clock_of_footing hf)) fun ⟨h1, h2, _⟩ _ _ => ⟨h1, h2⟩
    rw [hf]
    rfl

/-! ### "All at rest" -/

theorem settleJogging_keeps (h : s.ctrl.state = .jogging) : Keeps s s.settleJogging := by
  unfold State.settleJogging
  split
  · next hret =>
    refine park_keeps (cs := .idle) (form := none) ?_ ?_ rfl
    · rw [State.enter_footing, State.genReleaseAll_footing]
    · simp [State.footing, Footing.inPass, Footing.onPath, h, hret]
  · next r hret =>
    refine restore_keeps (ret := s.ctrl.ret) hret (.inr h) (fun x hx => ?_) ?_
    · exact Option.some.inj (hx.symm.trans hret)
    · rw [State.enter_footing, State.genReleaseAll_footing]
      rfl

theorem takeAllAtRest_keeps (s : State) : Keeps s s.takeAllAtRest := by
  unfold State.takeAllAtRest
  split
  · next _ h => exact settleJogging_keeps h
  · next h1 h2 =>
    refine park_keeps (cs := .idle) (form := none) ?_ ?_ rfl
    · rw [State.enter_footing, State.genReleaseAll_footing]
    · simp [State.footing, Footing.inPass, Footing.onPath, h1, h2]
  · next h1 h2 =>
    refine park_keeps (cs := .faulted) (form := none) ?_ ?_ rfl
    · rw [State.enter_footing, State.genReleaseAll_footing]
    · simp [State.footing, Footing.inPass, Footing.onPath, h1, h2]
  · exact .refl s

theorem afterSteps_keeps (s : State) : Keeps s s.afterSteps := by
  unfold State.afterSteps
  split
  · exact (takeAllAtRest_keeps s).trans (.of_footing (State.settleFaults_footing _ _))
  · exact .of_footing (State.settleFaults_footing _ _)

theorem runPeriod_keeps (s : State) : Keeps s s.runPeriod := by
  simp only [State.runPeriod]
  refine KeepsIf.trans ?_ (afterSteps_keeps _)
  obtain hadv | ⟨c, h, hc, hh, hf, hle, hl, hx⟩ := advance_cases s
  · rw [hadv]
    exact .of_footing ((State.formSetpoints_footing _ _).trans (State.stepGen_footing s))
  · rw [hh]
    simp only
    generalize hs2 : State.formSetpoints _ _ = s2
    have hf2 : s2.footing = { s.footing with clock := c.state, passFrame := c.passFrame } := by
      rw [← hs2, State.formSetpoints_footing, State.stepGen_footing, hf]
    have advanced : Keeps s s2 := by
      refine .of_run (State.pending_of_footing hf2) (State.store_of_footing hf2) (State.pass_of_footing hf2)
        (congrArg Footing.runList hf2) (hle.trans_eq (State.passFrame_of_footing hf2).symm) fun _ hr => ?_
      have hp : s.footing.onPath = true := hr.clock (.inl hc)
      have hret := hr.ret_none hp
      rw [hf2]
      refine ⟨hr.stopForm, fun _ => hp, hr.pass, ?_, ?_⟩ <;> simp [hret]
    refine advanced.bind (takeHandOver_keeps s2 h) fun _ hr hs => ⟨?_, fun hland => ?_, fun n hn => ?_⟩
    · have hp : s.footing.onPath = true := hr.clock (.inl hc)
      rw [hf2]
      exact hp
    · exact (State.clock_of_footing hf2).trans (hl hland)
    · obtain ⟨heq, hlt⟩ := hx n hn
      refine ⟨(heq.trans (State.passFrame_of_footing hf2).symm).le, fun e he l hm k hk => ?_⟩
      rw [State.runEntry_of_footing hf2] at he
      rw [State.store_of_footing hf2] at hm
      exact (hs.reached e he l hm k hk).trans_lt
        (Nat.mul_lt_mul_of_pos_right (Nat.add_lt_add_left hlt _) (by decide))

theorem servoPeriod_keeps (s : State) (pins : BitVec 12) : Keeps s (s.servoPeriod pins) :=
  (((finishBefore_keeps s).trans (tick_keeps _ pins)).trans (runPeriod_keeps _)).trans
    (.of_footing (State.startPeriod_footing _))

end Sys2Proof.Machine
end

/-! SUPPORT. Every command answers a next state, leaves the waiting commands, and keeps the laws of the move store. -/
section
namespace Sys2Proof.Machine

open Footing (parked)

variable {s t : State} {kind tag : Byte} {body : List Byte}

/-- A request whose inner test gives no value goes on exactly when that test passes. -/
theorem passed_bind_ok {β : Type} {x : Tested Unit} {f : Unit → Tested β} {y : β} :
    (x >>= f) = .ok y ↔ x = .ok () ∧ f () = .ok y := by
  cases x with
  | error e => exact ⟨fun h => (nomatch h), fun ⟨h, _⟩ => (nomatch h)⟩
  | ok a => exact ⟨fun h => ⟨rfl, h⟩, fun h => h.2⟩

theorem entriesExist_bind_ok {β : Type} {es : List RunEntry} {f : Unit → Tested β} {y : β} :
    (s.entriesExist es >>= f) = .ok y ↔ s.entriesExist es = .ok () ∧ f () = .ok y := passed_bind_ok

theorem jogTests_bind_ok {β : Type} {a : Axis} {f : Unit → Tested β} {y : β} :
    (s.jogTests a >>= f) = .ok y ↔ s.jogTests a = .ok () ∧ f () = .ok y := passed_bind_ok

/-- A command answers a next state that keeps the laws of the move store. -/
def AnswersKeeping (s : State) (r : Answer) : Prop := ∃ t, r = .next t ∧ Keeps s t

theorem AnswersKeeping.next (h : Keeps s t) : AnswersKeeping s (.next t) := ⟨t, rfl, h⟩

/-- A refusal changes only the output queue, so a request keeps what its accepted form keeps. -/
theorem AnswersKeeping.conclude {r : Tested State} (h : ∀ t, r = .ok t → Keeps s t) :
    AnswersKeeping s (conclude s kind tag r) := by
  cases r with
  | ok t => exact .next (h t rfl)
  | error e => exact .next (.of_footing rfl)

/-! ### Requests that touch nothing of the footing -/

theorem axisGet_footing (h : axisGet tag body s = .ok t) : t.footing = s.footing := by
  simp only [axisGet, need_bind_ok] at h
  obtain ⟨_, -, _, -, ht⟩ := h
  cases ht
  rfl

theorem mapLoad_footing (h : mapLoad tag body s = .ok t) : t.footing = s.footing := by
  simp only [mapLoad, need_bind_ok, ensure_bind_ok] at h
  obtain ⟨_, -, _, -, -, -, ht⟩ := h
  cases ht
  rfl

theorem mapClear_footing (h : mapClear tag body s = .ok t) : t.footing = s.footing := by
  simp only [mapClear, need_bind_ok, ensure_bind_ok] at h
  obtain ⟨_, -, _, -, -, ht⟩ := h
  cases ht
  rfl

theorem evalProbe_footing (h : evalProbe tag body s = .ok t) : t.footing = s.footing := by
  simp only [evalProbe, need_bind_ok, ensure_bind_ok] at h
  obtain ⟨_, -, _, -, _, -, -, -, ht⟩ := h
  cases ht
  rfl

theorem clockSet_footing (h : clockSet tag body s = .ok t) : t.footing = s.footing := by
  simp only [clockSet, need_bind_ok, ensure_bind_ok] at h
  obtain ⟨_, -, _, -, -, -, -, ht⟩ := h
  cases ht
  rfl

theorem clockGet_footing (h : clockGet tag body s = .ok t) : t.footing = s.footing := by
  simp only [clockGet, need_bind_ok] at h
  obtain ⟨_, -, ht⟩ := h
  cases ht
  rfl

theorem takeGet_footing (h : takeGet tag body s = .ok t) : t.footing = s.footing := by
  simp only [takeGet, need_bind_ok] at h
  obtain ⟨_, -, ht⟩ := h
  cases ht
  rfl

theorem captureSet_footing (h : captureSet tag body s = .ok t) : t.footing = s.footing := by
  simp only [captureSet, need_bind_ok, ensure_bind_ok] at h
  obtain ⟨_, -, _, -, -, -, ht⟩ := h
  cases ht
  rfl

theorem wheelGet_footing (h : wheelGet tag body s = .ok t) : t.footing = s.footing := by
  simp only [wheelGet, need_bind_ok] at h
  obtain ⟨_, -, ht⟩ := h
  cases ht
  rfl

theorem drivesOn_footing (h : drivesOn tag body s = .ok t) : t.footing = s.footing := by
  simp only [drivesOn, need_bind_ok, ensure_bind_ok] at h
  obtain ⟨_, -, -, -, -, ht⟩ := h
  cases ht
  rfl

theorem drivePass_footing (h : drivePass tag body s = .ok t) : t.footing = s.footing := by
  simp only [drivePass, need_bind_ok, ensure_bind_ok] at h
  obtain ⟨_, -, _, -, _, -, -, -, ht⟩ := h
  cases ht
  rfl

theorem linkGet_footing (h : linkGet tag body s = .ok t) : t.footing = s.footing := by
  simp only [linkGet, need_bind_ok] at h
  obtain ⟨_, -, ht⟩ := h
  cases ht
  rfl

theorem monitorSet_footing (h : monitorSet tag body s = .ok t) : t.footing = s.footing := by
  simp only [monitorSet, need_bind_ok, ensure_bind_ok] at h
  obtain ⟨_, -, -, _, -, ht⟩ := h
  cases ht
  split
  · rw [State.passOutConds_footing, State.reportFaultsIf_footing]
    rfl
  · rw [State.reportFaultsIf_footing]
    rfl

theorem monitorGet_footing (h : monitorGet tag body s = .ok t) : t.footing = s.footing := by
  simp only [monitorGet, need_bind_ok, ensure_bind_ok] at h
  obtain ⟨_, -, -, ht⟩ := h
  cases ht
  rfl

theorem logReference_footing (h : logReference tag body s = .ok t) : t.footing = s.footing := by
  simp only [logReference, need_bind_ok] at h
  obtain ⟨o, -, h⟩ := h
  cases o with
  | none =>
    cases h
    rfl
  | some n =>
    simp only [need_bind_ok, ensure_bind_ok] at h
    obtain ⟨_, -, -, ht⟩ := h
    cases ht
    rfl

theorem logClear_footing (h : logClear tag body s = .ok t) : t.footing = s.footing := by
  simp only [logClear, need_bind_ok, ensure_bind_ok] at h
  obtain ⟨_, -, _, -, -, ht⟩ := h
  cases ht
  rfl

theorem logIndex_footing (h : logIndex tag body s = .ok t) : t.footing = s.footing := by
  simp only [logIndex, need_bind_ok] at h
  obtain ⟨_, -, ht⟩ := h
  cases ht
  rfl

theorem logRead_footing (h : logRead tag body s = .ok t) : t.footing = s.footing := by
  simp only [logRead, need_bind_ok, ensure_bind_ok] at h
  obtain ⟨_, -, _, -, -, _, -, -, ht⟩ := h
  cases ht
  rfl

theorem reportSet_footing (h : reportSet tag body s = .ok t) : t.footing = s.footing := by
  simp only [reportSet, need_bind_ok] at h
  obtain ⟨_, -, ht⟩ := h
  cases ht
  rfl

theorem status_footing (h : status tag body s = .ok t) : t.footing = s.footing := by
  simp only [status, need_bind_ok] at h
  obtain ⟨_, -, ht⟩ := h
  cases ht
  rfl

theorem lineSet_footing (h : lineSet tag body s = .ok t) : t.footing = s.footing := by
  simp only [lineSet, need_bind_ok, ensure_bind_ok] at h
  obtain ⟨_, -, _, -, _, -, _, -, _, -, -, -, ht⟩ := h
  cases ht
  split <;> rfl

theorem lineRead_footing (h : lineRead tag body s = .ok t) : t.footing = s.footing := by
  simp only [lineRead, need_bind_ok] at h
  obtain ⟨_, -, ht⟩ := h
  cases ht
  rfl

theorem cueLoad_footing (h : cueLoad tag body s = .ok t) : t.footing = s.footing := by
  simp only [cueLoad, need_bind_ok, ensure_bind_ok] at h
  obtain ⟨_, -, _, -, -, ht⟩ := h
  cases ht
  rfl

theorem cueGet_footing (h : cueGet tag body s = .ok t) : t.footing = s.footing := by
  simp only [cueGet, need_bind_ok] at h
  obtain ⟨_, -, ht⟩ := h
  cases ht
  rfl

/-! ### Requests that move the run -/

theorem axisSet_keeps (h : axisSet tag body s = .ok t) : Keeps s t := by
  simp only [axisSet, need_bind_ok, ensure_bind_ok] at h
  obtain ⟨_, -, a, -, r, -, -, -, -, -, ht⟩ := h
  cases ht
  have stored : Keeps s ((s.storeAxis a r).reply Kind.axisSet tag .ok (axisRecBytes r)) := .of_footing rfl
  split
  · exact stored.trans (.of_footing (State.configureLink_footing _ _))
  · split
    · exact stored.trans (unconfigureAxis_keeps _ a)
    · exact stored

/-- R64: the run list changes only where no pass exists, and staging is empty then. -/
theorem takeLoad_keeps (h : takeLoad tag body s = .ok t) : Keeps s t := by
  simp only [takeLoad, need_bind_ok, ensure_bind_ok, entriesExist_bind_ok] at h
  obtain ⟨_, -, es, -, hst, -, ht⟩ := h
  cases ht
  have hf : (({ s with ctrl := { s.ctrl with runList := es } } : State).reply Kind.takeLoad tag .ok (u8 es.length)).footing =
      { s.footing with runList := es } := rfl
  refine ⟨rfl, id, fun _ hr hs => ?_⟩
  simp only [Bool.or_eq_true, decide_eq_true_eq] at hst
  have hn : s.footing.inPass = false := by
    obtain h | h := hst <;> exact not_inPass (by simp [h])
  obtain ⟨hp, -, -⟩ := hr.outside hn
  rw [hf]
  exact ⟨⟨hr.stopForm, hr.clock, hr.pass, hr.record, hr.place⟩, .of_empty hs.tracks (hs.staging_nil hp)⟩

theorem check_keeps (h : check tag body s = .ok t) : Keeps s t := by
  simp only [check, need_bind_ok, ensure_bind_ok, entriesExist_bind_ok] at h
  obtain ⟨_, -, hst, -, ht⟩ := h
  cases ht
  simp only [Bool.and_eq_true, decide_eq_true_eq] at hst
  exact (KeepsIf.of_footing rfl : Keeps s (s.reply Kind.check tag .accepted [])).trans
    (beginCheck_keeps (s := s.reply Kind.check tag .accepted []) hst.1 _ _)

theorem arm_keeps (h : arm tag body s = .ok t) : Keeps s t := by
  simp only [arm, need_bind_ok, ensure_bind_ok, entriesExist_bind_ok] at h
  obtain ⟨_, -, kind, -, hst, -, -, -, -, ht⟩ := h
  cases ht
  simp only [Bool.and_eq_true, decide_eq_true_eq] at hst
  have stored : Keeps s { s.reply Kind.arm tag .accepted [] with
      ctrl := { s.ctrl with armSetpoints := some s.currentSetpoints } } := .of_footing rfl
  exact stored.trans (beginCheck_keeps (s := { s.reply Kind.arm tag .accepted [] with
    ctrl := { s.ctrl with armSetpoints := some s.currentSetpoints } }) hst.1 _ _)

theorem go_keeps (h : go tag body s = .ok t) : Keeps s t := by
  simp only [go, need_bind_ok] at h
  obtain ⟨_, -, h⟩ := h
  cases hg : s.takeGo fun t => t.reply Kind.go tag .ok [] with
  | none =>
    rw [hg] at h
    cases h
  | some u =>
    rw [hg] at h
    cases h
    exact takeGo_keeps rfl hg

theorem hold_request_keeps (h : hold tag body s = .ok t) : Keeps s t := by
  simp only [hold, need_bind_ok] at h
  obtain ⟨_, -, h⟩ := h
  cases hg : s.takeHold fun st t => t.reply Kind.hold tag st [] with
  | none =>
    rw [hg] at h
    cases h
  | some u =>
    rw [hg] at h
    cases h
    exact takeHold_keeps (fun _ => rfl) hg

theorem stop_keeps (h : stop tag body s = .ok t) : Keeps s t := by
  simp only [stop, need_bind_ok] at h
  obtain ⟨_, -, ht⟩ := h
  cases ht
  exact (KeepsIf.of_footing rfl : Keeps s (s.reply Kind.stop tag .ok [])).trans (takeStop_keeps _)

theorem returnToPath_keeps (h : returnToPath tag body s = .ok t) : Keeps s t := by
  simp only [returnToPath, need_bind_ok] at h
  obtain ⟨_, -, r, hr, ht⟩ := h
  cases ht
  exact (KeepsIf.of_footing rfl : Keeps s (s.reply Kind.returnToPath tag .ok [])).trans (beginReturn_keeps hr)

theorem jog_keeps (h : jog tag body s = .ok t) : Keeps s t := by
  simp only [jog, need_bind_ok, ensure_bind_ok, jogTests_bind_ok] at h
  obtain ⟨hj, _, -, a, -, -, ht⟩ := h
  cases ht
  exact ((KeepsIf.of_footing rfl : Keeps s (s.reply Kind.jog tag .ok _)).trans (enterJogging_keeps hj)).trans
    (.of_footing (State.setGen_footing _ _ _))

theorem jogBind_keeps (h : jogBind tag body s = .ok t) : Keeps s t := by
  simp only [jogBind, need_bind_ok, ensure_bind_ok, jogTests_bind_ok] at h
  obtain ⟨hj, _, -, a, -, choice, -, -, ht⟩ := h
  cases ht
  cases choice with
  | none => exact .of_footing rfl
  | some p =>
    exact ((KeepsIf.of_footing rfl : Keeps s (s.reply Kind.jogBind tag .ok [])).trans (enterJogging_keeps hj)).trans
      (.of_footing (State.setGen_footing _ _ _))

theorem drivesOff_keeps (h : drivesOff tag body s = .ok t) : Keeps s t := by
  simp only [drivesOff, need_bind_ok, ensure_bind_ok] at h
  obtain ⟨_, -, -, -, ht⟩ := h
  cases ht
  exact (KeepsIf.of_footing (s.reply_footing Kind.drivesOff tag .ok _) : Keeps s _).trans (turnOff_keeps _ _)

theorem clearFaults_keeps (h : clearFaults tag body s = .ok t) : Keeps s t := by
  simp only [clearFaults, need_bind_ok] at h
  obtain ⟨_, -, ht⟩ := h
  cases ht
  have settled : ∀ b, ((({ s with mon := unlatch s.mon } : State).reply Kind.clearFaults tag .ok
      (counted condName (stillLatched (unlatch s.mon)))).settleFaults b).footing = s.footing := fun b => by
    rw [State.settleFaults_footing, State.reply_footing]
    exact State.footing_congr rfl rfl rfl rfl
  split
  · next hst =>
    simp only [Bool.and_eq_true, decide_eq_true_eq] at hst
    refine park_keeps (cs := .idle) (form := none) ?_ (not_inPass (by simp [hst.1])) rfl
    rw [State.enter_footing, settled]
  · exact .of_footing (settled _)

/-! ### The resets -/

theorem takeRigReset_footing (s : State) :
    s.takeRigReset.footing =
      { s.footing with
        store := discardStaging s.store, state := .idle, stopForm := none, pass := none, ret := none, clock := .stopped
        passFrame := 0 } := by
  have blocks : ∀ u : State, u.footing = s.footing → u.resetBlocks.footing =
      { s.footing with
        store := discardStaging s.store, state := .idle, stopForm := none, pass := none, ret := none, clock := .stopped
        passFrame := 0 } := by
    intro u hu
    have hst : u.store = s.store := State.store_of_footing hu
    rw [← hst, ← hu]
    rfl
  have log : ∀ u : State, u.resetLog.footing = u.footing := by
    intro u
    unfold State.resetLog
    split
    · exact u.finalizePass_footing _
    · split
      · exact u.finalizePass_footing _
      · rfl
  have hs1 : ({ s with console := dropFrameReports s.console } : State).resetLink.resetLog.footing = s.footing := by
    rw [log, State.resetLink, State.abortQueue_footing]
    rfl
  simp only [State.takeRigReset]
  split
  · rw [State.reportFaultsIf_footing]
    exact blocks _ hs1
  · rw [State.reportState_footing, State.reportFaultsIf_footing]
    exact blocks _ hs1

theorem rigReset_keeps (h : rigReset tag body s = .ok t) : Keeps s t := by
  simp only [rigReset, need_bind_ok] at h
  obtain ⟨_, -, ht⟩ := h
  cases ht
  have hf := (State.reply_footing _ Kind.rigReset tag .ok []).trans (takeRigReset_footing s)
  refine ⟨State.pending_of_footing hf, fun hl => ?_, fun _ _ hs => ?_⟩
  · rw [State.store_of_footing hf]
    exact storeLaw_discardStaging hl
  · rw [hf]
    exact ⟨(Footing.parked_runFits { s.footing with passFrame := 0 } (cs := .idle) (form := none) rfl).with_store _,
      .of_empty hs.tracks rfl⟩

theorem keysInTracks_reset : keysInTracks Store.reset = 0 := by
  refine List.sum_eq_zero fun n hn => ?_
  obtain ⟨m, -, rfl⟩ := List.mem_map.mp hn
  simp [Store.reset]

theorem track_reset (m : MoveSlot) (a : Axis) : Store.reset.track m a = none := by simp [Store.track, Store.reset]

theorem storeLaw_reset : StoreLaw Store.reset where
  pool := by
    rw [keysInTracks_reset]
    rfl
  tracks m a ks hks := by
    rw [track_reset] at hks
    cases hks
  staged := by simp [Store.reset]

theorem storeFits_of_reset {f : Footing} (h : f.store = Store.reset) : f.StoreFits :=
  .of_empty (by
    rw [h]
    intro m a ks hks
    rw [track_reset] at hks
    cases hks) (by rw [h]; rfl)

theorem powerOnReset_keeps (s : State) : AnswersKeeping s (execPowerOnReset s) :=
  .next ⟨rfl, fun _ => storeLaw_reset, fun _ _ _ =>
    ⟨(Footing.parked_runFits { State.reset.footing with pending := s.pending } (cs := .idle) (form := none) rfl),
      storeFits_of_reset rfl⟩⟩

/-! ### Every command -/

/-- Every request answers, and keeps the laws of the move store. -/
theorem runRequest_keeps (c : Instr) (s : State) : AnswersKeeping s (runRequest c s) := by
  cases c with
  | rigReset tag body => exact .conclude fun _ => rigReset_keeps
  | moveCreate tag body => exact .conclude fun _ => moveCreate_keeps
  | moveDelete tag body => exact .conclude fun _ => moveDelete_keeps
  | moveList tag body => exact .conclude fun _ h => .of_footing (moveList_ok h)
  | trackWrite tag body => exact .conclude fun _ h => (trackWrite_replaces h).keeps
  | trackRead tag body => exact .conclude fun _ h => .of_footing (trackRead_ok h)
  | trackClear tag body => exact .conclude fun _ h => (trackClear_replaces h).keeps
  | trackCopy tag body => exact .conclude fun _ h => (trackCopy_replaces h).keeps
  | trackShift tag body => exact .conclude fun _ h => (trackShift_replaces h).keeps
  | keyEdit tag body => exact .conclude fun _ h => (keyEdit_replaces h).keeps
  | keyInsert tag body => exact .conclude fun _ h => (keyInsert_replaces h).keeps
  | keyDelete tag body => exact .conclude fun _ h => (keyDelete_replaces h).keeps
  | axisSet tag body => exact .conclude fun _ => axisSet_keeps
  | axisGet tag body => exact .conclude fun _ h => .of_footing (axisGet_footing h)
  | mapLoad tag body => exact .conclude fun _ h => .of_footing (mapLoad_footing h)
  | mapClear tag body => exact .conclude fun _ h => .of_footing (mapClear_footing h)
  | evalProbe tag body => exact .conclude fun _ h => .of_footing (evalProbe_footing h)
  | clockSet tag body => exact .conclude fun _ h => .of_footing (clockSet_footing h)
  | clockGet tag body => exact .conclude fun _ h => .of_footing (clockGet_footing h)
  | takeLoad tag body => exact .conclude fun _ => takeLoad_keeps
  | takeGet tag body => exact .conclude fun _ h => .of_footing (takeGet_footing h)
  | check tag body => exact .conclude fun _ => check_keeps
  | arm tag body => exact .conclude fun _ => arm_keeps
  | go tag body => exact .conclude fun _ => go_keeps
  | hold tag body => exact .conclude fun _ => hold_request_keeps
  | stop tag body => exact .conclude fun _ => stop_keeps
  | returnToPath tag body => exact .conclude fun _ => returnToPath_keeps
  | jog tag body => exact .conclude fun _ => jog_keeps
  | jogBind tag body => exact .conclude fun _ => jogBind_keeps
  | captureSet tag body => exact .conclude fun _ h => .of_footing (captureSet_footing h)
  | wheelGet tag body => exact .conclude fun _ h => .of_footing (wheelGet_footing h)
  | drivesOn tag body => exact .conclude fun _ h => .of_footing (drivesOn_footing h)
  | drivesOff tag body => exact .conclude fun _ => drivesOff_keeps
  | drivePass tag body => exact .conclude fun _ h => .of_footing (drivePass_footing h)
  | linkGet tag body => exact .conclude fun _ h => .of_footing (linkGet_footing h)
  | monitorSet tag body => exact .conclude fun _ h => .of_footing (monitorSet_footing h)
  | monitorGet tag body => exact .conclude fun _ h => .of_footing (monitorGet_footing h)
  | clearFaults tag body => exact .conclude fun _ => clearFaults_keeps
  | logReference tag body => exact .conclude fun _ h => .of_footing (logReference_footing h)
  | logClear tag body => exact .conclude fun _ h => .of_footing (logClear_footing h)
  | logIndex tag body => exact .conclude fun _ h => .of_footing (logIndex_footing h)
  | logRead tag body => exact .conclude fun _ h => .of_footing (logRead_footing h)
  | reportSet tag body => exact .conclude fun _ h => .of_footing (reportSet_footing h)
  | status tag body => exact .conclude fun _ h => .of_footing (status_footing h)
  | lineSet tag body => exact .conclude fun _ h => .of_footing (lineSet_footing h)
  | lineRead tag body => exact .conclude fun _ h => .of_footing (lineRead_footing h)
  | cueLoad tag body => exact .conclude fun _ h => .of_footing (cueLoad_footing h)
  | cueGet tag body => exact .conclude fun _ h => .of_footing (cueGet_footing h)
  | unknownKind kind tag body => exact .next (.of_footing rfl)
  | powerOnReset | frameReceive | interByteTimeout | takeRequest | messageSend | servoTimerExpiry | rampAtRest | triggerEnd
  | cameraPulse | cameraLostExpiry | pendingClearExpiry | lineFilterEdge | driveReply | slotEnd | enableTimeout
  | prerollArrival | returnArrival | checkCompletion | jogRefreshExpiry | wheelStep => exact .next (.refl s)

theorem execTakeRequest_keeps (s : State) : AnswersKeeping s (execTakeRequest s) := by
  unfold execTakeRequest
  split
  · exact .next (.refl s)
  · next f rest _ =>
    split
    · obtain ⟨t, ht, hk⟩ := runRequest_keeps (Instr.ofFrame f.kind f.tag f.body)
        { s with console := { s.console with inBuf := rest } }
      exact ⟨t, ht, (KeepsIf.of_footing rfl : Keeps s { s with console := { s.console with inBuf := rest } }).trans hk⟩
    · exact .next (.refl s)

theorem execSlotEnd_keeps (s : State) : AnswersKeeping s (execSlotEnd s) := by
  refine .next ?_
  split
  · exact (takeDue_keeps s).trans (endSlot_keeps _ _)
  · exact .refl s

theorem execPrerollArrival_keeps (s : State) : AnswersKeeping s (execPrerollArrival s) := by
  refine .next ?_
  split
  · next h =>
    simp only [Bool.and_eq_true, decide_eq_true_eq] at h
    exact prerollArrives_keeps h.1
  · exact .refl s

theorem execReturnArrival_keeps (s : State) : AnswersKeeping s (execReturnArrival s) := by
  refine .next ?_
  split
  · next r hret =>
    split
    · next h =>
      simp only [Bool.and_eq_true, decide_eq_true_eq] at h
      exact returnArrives_keeps hret h.1
    · exact .refl s
  · exact .refl s

theorem execCheckCompletion_keeps (s : State) : AnswersKeeping s (execCheckCompletion s) := by
  refine .next ?_
  split
  · next p hp =>
    unfold State.checkDue at hp
    split at hp
    · split at hp
      · next h =>
        simp only [Bool.and_eq_true, decide_eq_true_eq] at h
        exact completeCheck_keeps h.1 p
      · cases hp
    · cases hp
  · exact .refl s

theorem execCameraLostExpiry_keeps (s : State) : AnswersKeeping s (execCameraLostExpiry s) := by
  refine .next ?_
  split
  · exact cameraLost_keeps s
  · exact .refl s

/-- Every command answers a next state that keeps the laws of the move store and the waiting commands. -/
theorem exec_keeps (c : Instr) (s : State) : AnswersKeeping s (exec c s) := by
  cases c with
  | powerOnReset => exact powerOnReset_keeps s
  | frameReceive bytes => exact .next (.of_footing rfl)
  | interByteTimeout => exact .next (.of_footing rfl)
  | takeRequest => exact execTakeRequest_keeps s
  | messageSend => exact .next (.of_footing rfl)
  | servoTimerExpiry pins => exact .next (servoPeriod_keeps s pins)
  | rampAtRest => exact .next (takeRampEnd_keeps s)
  | triggerEnd => exact .next (.of_footing s.takeTriggerEnd_footing)
  | cameraPulse => exact .next (cameraRise_keeps s)
  | cameraLostExpiry => exact execCameraLostExpiry_keeps s
  | pendingClearExpiry line => exact .next (.of_footing (s.takeClear_footing line))
  | lineFilterEdge line => exact .next (takeEdge_keeps s line)
  | driveReply bytes => exact .next (.of_footing (s.takeReply_footing bytes))
  | slotEnd => exact execSlotEnd_keeps s
  | enableTimeout axis => exact .next (enableTimesOut_keeps s axis)
  | prerollArrival => exact execPrerollArrival_keeps s
  | returnArrival => exact execReturnArrival_keeps s
  | checkCompletion => exact execCheckCompletion_keeps s
  | jogRefreshExpiry axis => exact .next (.of_footing (s.expireRefresh_footing axis))
  | wheelStep wheel up => exact .next (.of_footing rfl)
  | rigReset tag body => exact runRequest_keeps (.rigReset tag body) s
  | moveCreate tag body => exact runRequest_keeps (.moveCreate tag body) s
  | moveDelete tag body => exact runRequest_keeps (.moveDelete tag body) s
  | moveList tag body => exact runRequest_keeps (.moveList tag body) s
  | trackWrite tag body => exact runRequest_keeps (.trackWrite tag body) s
  | trackRead tag body => exact runRequest_keeps (.trackRead tag body) s
  | trackClear tag body => exact runRequest_keeps (.trackClear tag body) s
  | trackCopy tag body => exact runRequest_keeps (.trackCopy tag body) s
  | trackShift tag body => exact runRequest_keeps (.trackShift tag body) s
  | keyEdit tag body => exact runRequest_keeps (.keyEdit tag body) s
  | keyInsert tag body => exact runRequest_keeps (.keyInsert tag body) s
  | keyDelete tag body => exact runRequest_keeps (.keyDelete tag body) s
  | axisSet tag body => exact runRequest_keeps (.axisSet tag body) s
  | axisGet tag body => exact runRequest_keeps (.axisGet tag body) s
  | mapLoad tag body => exact runRequest_keeps (.mapLoad tag body) s
  | mapClear tag body => exact runRequest_keeps (.mapClear tag body) s
  | evalProbe tag body => exact runRequest_keeps (.evalProbe tag body) s
  | clockSet tag body => exact runRequest_keeps (.clockSet tag body) s
  | clockGet tag body => exact runRequest_keeps (.clockGet tag body) s
  | takeLoad tag body => exact runRequest_keeps (.takeLoad tag body) s
  | takeGet tag body => exact runRequest_keeps (.takeGet tag body) s
  | check tag body => exact runRequest_keeps (.check tag body) s
  | arm tag body => exact runRequest_keeps (.arm tag body) s
  | go tag body => exact runRequest_keeps (.go tag body) s
  | hold tag body => exact runRequest_keeps (.hold tag body) s
  | stop tag body => exact runRequest_keeps (.stop tag body) s
  | returnToPath tag body => exact runRequest_keeps (.returnToPath tag body) s
  | jog tag body => exact runRequest_keeps (.jog tag body) s
  | jogBind tag body => exact runRequest_keeps (.jogBind tag body) s
  | captureSet tag body => exact runRequest_keeps (.captureSet tag body) s
  | wheelGet tag body => exact runRequest_keeps (.wheelGet tag body) s
  | drivesOn tag body => exact runRequest_keeps (.drivesOn tag body) s
  | drivesOff tag body => exact runRequest_keeps (.drivesOff tag body) s
  | drivePass tag body => exact runRequest_keeps (.drivePass tag body) s
  | linkGet tag body => exact runRequest_keeps (.linkGet tag body) s
  | monitorSet tag body => exact runRequest_keeps (.monitorSet tag body) s
  | monitorGet tag body => exact runRequest_keeps (.monitorGet tag body) s
  | clearFaults tag body => exact runRequest_keeps (.clearFaults tag body) s
  | logReference tag body => exact runRequest_keeps (.logReference tag body) s
  | logClear tag body => exact runRequest_keeps (.logClear tag body) s
  | logIndex tag body => exact runRequest_keeps (.logIndex tag body) s
  | logRead tag body => exact runRequest_keeps (.logRead tag body) s
  | reportSet tag body => exact runRequest_keeps (.reportSet tag body) s
  | status tag body => exact runRequest_keeps (.status tag body) s
  | lineSet tag body => exact runRequest_keeps (.lineSet tag body) s
  | lineRead tag body => exact runRequest_keeps (.lineRead tag body) s
  | cueLoad tag body => exact runRequest_keeps (.cueLoad tag body) s
  | cueGet tag body => exact runRequest_keeps (.cueGet tag body) s
  | unknownKind kind tag body => exact runRequest_keeps (.unknownKind kind tag body) s

theorem exec_next_keeps {c : Instr} (h : exec c s = .next t) : Keeps s t := by
  obtain ⟨u, hu, hk⟩ := exec_keeps c s
  rw [h] at hu
  cases hu
  exact hk

/-! ### The statements -/

/-- Settles O2: every command's answer keeps the waiting commands. -/
theorem commandsCompleteAndKeepTheQueue : Obligations.CommandsCompleteAndKeepTheQueue := by
  intro c s
  obtain ⟨t, ht, hk⟩ := exec_keeps c s
  exact ⟨t, ht, hk.pending⟩

/-- Settles O11: the store law is among what every command keeps. -/
theorem everyCommandKeepsTheStoreLaw : Obligations.EveryCommandKeepsTheStoreLaw :=
  fun _ _ _ hs h => (exec_next_keeps h).store hs

/-- Settles O12: the clock's and the controller's laws give the share of the run on which the order law rests. -/
theorem everyCommandKeepsTheOrderLaw : Obligations.EveryCommandKeepsTheOrderLaw := by
  intro c s t ho hk hc h
  obtain ⟨-, hs⟩ := (exec_next_keeps h).order trivial (runFits_of_laws hk hc) ((orderLaw_iff s).mp ho)
  exact (orderLaw_iff t).mpr hs

end Sys2Proof.Machine
end

/-! SUPPORT. What stands at power-on: each table of the reset state holds its power-on entry everywhere, and each law of the
device holds there. -/
section
namespace Sys2Proof.Machine

namespace State

theorem reset_move (m : MoveSlot) : reset.store.moves[m] = none := by simp [reset, Store.reset]

theorem reset_axisRec (a : Axis) : reset.axes.recs[a] = AxisRec.reset := by simp [reset, AxisTable.reset]

theorem reset_map (a : Axis) : reset.axes.maps[a] = none := by simp [reset, AxisTable.reset]

theorem reset_linkRec (a : Axis) : reset.link.recs[a] = LinkRec.reset := by simp [reset, Link.reset]

theorem reset_setting (i : CondId) : reset.mon.settings[i] = Monitor.default i := by simp [reset, Mon.reset]

theorem reset_inst (i : CondId) : reset.mon.insts[i] = CondInst.reset := by simp [reset, Mon.reset]

theorem reset_detached (a : Axis) : reset.mon.detached[a] = [] := by simp [reset, Mon.reset]

theorem reset_blank (a : Axis) : reset.mon.blank[a] = 0 := by simp [reset, Mon.reset]

theorem reset_pass (i : PassSlot) : reset.log.slots[i] = none := by simp [reset, PassLog.reset]

theorem reset_genRec (a : Axis) : reset.gen.recs[a] = GenRec.reset := by simp [reset, Gen.reset]

theorem reset_counter (w : Wheel) : reset.wheels.counters[w] = 0 := by simp [reset, Wheels.reset]

theorem reset_line (l : Line) : reset.lines.lines[l] = RigLine.reset l := by simp [reset, Lines.reset]

theorem reset_driveOf (a : Axis) : reset.driveOf a = .off := by
  rw [driveOf, reset_linkRec]
  rfl

end State

/-- Settles O3: each block of the reset state is read at its power-on value. -/
theorem powerOnResetValues : Obligations.PowerOnResetValues := by
  intro s
  refine ⟨_, rfl, State.reset_move, rfl, rfl,
    fun a => ⟨State.reset_axisRec a, State.reset_map a⟩, rfl, ?_⟩
  have inst (i : CondId) := State.reset_inst i
  have gen (a : Axis) := State.reset_genRec a
  refine ⟨rfl, rfl, rfl, rfl, rfl, rfl, rfl, rfl, rfl, rfl, rfl, rfl, rfl, rfl, rfl, rfl, rfl, rfl, rfl,
    rfl, rfl, rfl, rfl, rfl, rfl, State.reset_linkRec, rfl, ?_⟩
  refine ⟨fun i => ?_, fun a => ⟨State.reset_detached a, State.reset_blank a⟩, rfl, State.reset_pass, rfl, rfl, rfl,
    fun a => ?_, rfl, State.reset_counter, rfl, rfl, State.reset_line, rfl, rfl, rfl, rfl, rfl, rfl, rfl, rfl, rfl,
    rfl, rfl, rfl, rfl⟩
  · simp only [inst]
    exact ⟨State.reset_setting i, rfl, rfl, rfl, rfl, rfl, rfl, rfl, rfl⟩
  · simp only [gen]
    exact ⟨rfl, rfl, rfl, rfl, rfl, rfl, rfl, rfl⟩

/-! ### The laws at power-on -/

theorem orderLaw_reset : OrderLaw State.reset := (orderLaw_iff _).mpr (storeFits_of_reset rfl)

theorem clockLaw_reset : ClockLaw State.reset where
  settings := by decide
  period := .inl rfl
  time := by decide
  travel := by decide
  passFrame := by decide
  inside := by simp [State.reset, Ctrl.reset]
  rem := by decide
  speed := by decide
  ramp := rfl
  listLength := by decide
  list := by simp [State.reset, Ctrl.reset]
  record := by simp [State.reset, Ctrl.reset]

theorem ctrlLaw_reset : CtrlLaw State.reset where
  stopForm := rfl
  clock := rfl
  waiting := by simp [State.reset, Clock.reset]
  follower := by simp [State.reset, Clock.reset]
  ramp := rfl
  pass := rfl
  returning := by simp [State.reset, Ctrl.reset]
  record := by simp [State.reset, Ctrl.reset]
  progress := rfl
  walked := by simp [State.reset, RunCheck.reset]
  entry := rfl
  inList := by decide
  recorded := by simp [State.reset, Ctrl.reset]

theorem linkLaw_reset : LinkLaw State.reset where
  configured a h := absurd (State.reset_driveOf a) h
  enabling a := by
    rw [State.reset_driveOf, State.reset_linkRec]
    rfl
  enableCount a := by
    simp only [State.reset_linkRec, LinkRec.reset]
    omega
  noCount a _ := by
    rw [State.reset_linkRec]
    rfl
  misses a := by
    simp only [State.reset_linkRec, LinkRec.reset]
    omega
  queue := by simp [State.reset, Link.reset]
  attempts := by simp [State.reset, Link.reset]
  flying := by simp [State.reset, Link.reset]
  inSlot := by simp [State.reset, Link.reset]

theorem setpointLaw_reset : SetpointLaw State.reset where
  limits a := by
    rw [State.reset_axisRec]
    decide
  enabling a h := by simp [State.reset_driveOf] at h
  inside a h := absurd (State.reset_driveOf a) h

theorem estopLaw_reset : EstopLaw State.reset where
  selected := rfl
  input := rfl
  drives _ := State.reset_driveOf
  latched _ _ := State.reset_driveOf

theorem monLaw_reset : MonLaw State.reset.mon where
  estop := State.reset_setting estopCond
  rig i hi := by
    rw [State.reset_setting, Monitor.default]
    repeat rw [if_neg (by omega)]
    split
    · simp
    · split <;> simp
  runs i := by
    simp only [State.reset_inst, CondInst.reset]
    omega
  oneRun i := by
    rw [State.reset_inst]
    exact .inl rfl
  detached a := by simp only [State.reset_detached, List.not_mem_nil, false_implies, implies_true]

theorem logLaw_reset : LogLaw State.reset.log where
  age := by decide
  counter := by decide
  reference := by simp [State.reset, PassLog.reset]
  recording := by simp [State.reset, PassLog.reset]
  held := by simp [State.reset, PassLog.reset]
  records i := by simp only [State.reset_pass, Option.mem_def, reduceCtorEq, false_implies, implies_true]

theorem consoleLaw_reset : ConsoleLaw State.reset.console where
  input := by decide
  output := by decide
  heldFull := .inl rfl
  heldFrames := by simp [State.reset, Console.reset]
  queueFrames := .inl rfl
  oneState := by decide
  oneFault := by decide
  badFrames := by decide
  discarded := by decide
  skipped := by decide

/-- Settles O60. -/
theorem theLawsHoldAtReset : Obligations.TheLawsHoldAtReset :=
  ⟨storeLaw_reset, orderLaw_reset, clockLaw_reset, ctrlLaw_reset, linkLaw_reset, setpointLaw_reset, estopLaw_reset,
    monLaw_reset, logLaw_reset, consoleLaw_reset⟩

end Sys2Proof.Machine
end

/-! SUPPORT. How a store request with a well-formed body is answered (R5 to R17): its tests in their order, one lemma per outcome. -/
section
namespace Sys2Proof.Machine

/-! ### Tests -/

@[simp] theorem need_some_bind {α β : Type} (st : Status) (x : α) (f : α → Tested β) : (need st (some x) >>= f) = f x := rfl

@[simp] theorem need_none_bind {α β : Type} (st : Status) (f : α → Tested β) :
    (need st none >>= f) = .error { status := st, extra := [] } := rfl

@[simp] theorem ensure_true_bind {β : Type} (st : Status) (f : Unit → Tested β) : (ensure st true >>= f) = f () := rfl

@[simp] theorem ensure_false_bind {β : Type} (st : Status) (f : Unit → Tested β) :
    (ensure st false >>= f) = .error { status := st, extra := [] } := rfl

/-- A request's refusal with a status and nothing else. -/
def refusedWith (st : Status) : Tested State := .error { status := st, extra := [] }

theorem conclude_refusedWith (s : State) (kind tag : Byte) (st : Status) :
    conclude s kind tag (refusedWith st) = .next (s.reply kind tag st []) := rfl

theorem conclude_ok (s t : State) (kind tag : Byte) : conclude s kind tag (.ok t) = .next t := rfl

/-! ### Fields in range -/

theorem slot_lt (m : MoveSlot) : m.val + 1 < 256 := by
  have := m.isLt
  omega

theorem axis_lt (a : Axis) : a.val < 256 := by
  have := a.isLt
  omega

theorem keyFits_of_inRange {k : Key} (h : keyInRange k = true) : KeyFits k := by
  simp only [keyInRange, Bool.and_eq_true, decide_eq_true_eq, maxU32] at h
  obtain ⟨⟨ht, hv⟩, hg⟩ := h
  refine ⟨by omega, hv, ?_⟩
  cases hk : k.tangents with
  | auto => trivial
  | set i o =>
    rw [hk] at hg
    exact (Bool.and_eq_true _ _).mp hg

theorem keysFit_of_inRange {ks : List Key} (h : ks.all keyInRange = true) : ∀ k ∈ ks, KeyFits k :=
  fun k hk => keyFits_of_inRange (List.all_eq_true.mp h k hk)

theorem moveSlotOf_none {n : Nat} (h : n = 0 ∨ 32 < n) : moveSlotOf n = none := by
  unfold moveSlotOf
  split
  · omega
  · rfl

theorem axisOf_none {n : Nat} (h : 15 < n) : axisOf n = none := by
  unfold axisOf
  split
  · omega
  · rfl

section
variable {m : MoveSlot} {a : Axis} {mv : Move} {ks : List Key} {key : Key} {tag : Byte} {s : State}

/-! ### MOVE_CREATE and MOVE_DELETE -/

theorem moveCreate_badName {name : List Byte} (hl : name.length < 256) (hn : nameOk name = false) :
    moveCreate tag (u8 (m.val + 1) ++ u8 name.length ++ name) s = refusedWith .badValue := by
  simp only [moveCreate, moveCreateOperands_bytes _ _ (slot_lt m) hl, need_some_bind, moveSlotOf_number, hn, ensure_false_bind,
    refusedWith]

theorem nameOk_length {name : List Byte} (hn : nameOk name = true) : name.length < 256 := by
  simp only [nameOk, Bool.and_eq_true, decide_eq_true_eq] at hn
  omega

theorem moveCreate_occupied {name : List Byte} (hn : nameOk name = true) (hm : s.store.moves[m] = some mv) :
    moveCreate tag (u8 (m.val + 1) ++ u8 name.length ++ name) s = refusedWith .inUse := by
  simp only [moveCreate, moveCreateOperands_bytes _ _ (slot_lt m) (nameOk_length hn), need_some_bind, moveSlotOf_number, hn,
    ensure_true_bind, hm, Option.isNone_some, ensure_false_bind, refusedWith]

theorem moveCreate_accepted {name : List Byte} (hn : nameOk name = true) (hm : s.store.moves[m] = none) :
    moveCreate tag (u8 (m.val + 1) ++ u8 name.length ++ name) s =
      .ok ((s.withStore { s.store with moves := put s.store.moves m (some { name, tracks := fill 16 none }) }).reply
        Kind.moveCreate tag .ok (u16 s.store.free)) := by
  simp only [moveCreate, moveCreateOperands_bytes _ _ (slot_lt m) (nameOk_length hn), need_some_bind, moveSlotOf_number, hn,
    ensure_true_bind, hm, Option.isNone_none]
  rfl

theorem moveDelete_noSuch (hm : s.store.moves[m] = none) :
    moveDelete tag (u8 (m.val + 1)) s = refusedWith .noSuch := by
  simp only [moveDelete, oneByte_bytes _ (slot_lt m), need_some_bind, moveSlotOf_number, hm, need_none_bind, refusedWith]

theorem moveDelete_frozen (hm : s.store.moves[m] = some mv) (hf : s.frozen m = true) :
    moveDelete tag (u8 (m.val + 1)) s = refusedWith .inUse := by
  simp only [moveDelete, oneByte_bytes _ (slot_lt m), need_some_bind, moveSlotOf_number, hm, hf, Bool.not_true,
    ensure_false_bind, refusedWith]

theorem moveDelete_accepted (hm : s.store.moves[m] = some mv) (hf : s.frozen m = false) :
    moveDelete tag (u8 (m.val + 1)) s =
      .ok ((s.withStore { s.store with moves := put s.store.moves m none, free := s.store.free + moveKeys mv }).reply
        Kind.moveDelete tag .ok (u16 (moveKeys mv) ++ u16 (s.store.free + moveKeys mv))) := by
  simp only [moveDelete, oneByte_bytes _ (slot_lt m), need_some_bind, moveSlotOf_number, hm, hf, Bool.not_false,
    ensure_true_bind]
  rfl

/-! ### TRACK_WRITE -/

/-- The body of a TRACK_WRITE. -/
def writeBody (m : MoveSlot) (a : Axis) (mode : Nat) (ks : List Key) : List Byte :=
  u8 (m.val + 1) ++ u8 a.val ++ u8 mode ++ u16 ks.length ++ ks.flatMap keyBytes

/-- The keys of a TRACK_WRITE are 1 to 64, each in range. -/
structure Carried (ks : List Key) : Prop where
  least : 1 ≤ ks.length
  most : ks.length ≤ 64
  range : ks.all keyInRange = true

theorem Carried.operands (h : Carried ks) {mode : Nat} (hmode : mode ≤ 1) :
    trackWriteOperands (writeBody m a mode ks) =
      some { slot := m.val + 1, axis := a.val, mode, keys := ks.map rawOfKey } :=
  trackWriteOperands_bytes _ _ _ ks (slot_lt m) (axis_lt a) (by omega) h.least h.most (keysFit_of_inRange h.range)

theorem trackWrite_noSuch {mode : Nat} (hk : Carried ks) (hmode : mode ≤ 1) (hm : s.store.moves[m] = none) :
    trackWrite tag (writeBody m a mode ks) s = refusedWith .noSuch := by
  simp only [trackWrite, hk.operands hmode, need_some_bind, moveSlotOf_number, axisOf_number, hmode, decide_true,
    ensure_true_bind, keysOfRaw_map, hm, need_none_bind, refusedWith]

theorem trackWrite_frozen {mode : Nat} (hk : Carried ks) (hmode : mode ≤ 1) (hm : s.store.moves[m] = some mv)
    (hf : s.frozen m = true) : trackWrite tag (writeBody m a mode ks) s = refusedWith .inUse := by
  simp only [trackWrite, hk.operands hmode, need_some_bind, moveSlotOf_number, axisOf_number, hmode, decide_true,
    ensure_true_bind, keysOfRaw_map, hm, hf, Bool.not_true, ensure_false_bind, refusedWith]

theorem trackWrite_full {mode : Nat} (hk : Carried ks) (hmode : mode ≤ 1) (hm : s.store.moves[m] = some mv)
    (hf : s.frozen m = false) (hw : writeInOrder mode mv.tracks[a] ks = true)
    (hfit : writeFits s.store mode (trackCount mv a) ks.length = false) :
    trackWrite tag (writeBody m a mode ks) s = refusedWith .full := by
  simp only [trackWrite, hk.operands hmode, need_some_bind, moveSlotOf_number, axisOf_number, hmode, decide_true,
    ensure_true_bind, keysOfRaw_map, hm, hf, Bool.not_false, hw, hfit, ensure_false_bind, refusedWith]

theorem trackWrite_accepted {mode : Nat} (hk : Carried ks) (hmode : mode ≤ 1) (hm : s.store.moves[m] = some mv)
    (hf : s.frozen m = false) (hw : writeInOrder mode mv.tracks[a] ks = true)
    (hfit : writeFits s.store mode (trackCount mv a) ks.length = true) :
    trackWrite tag (writeBody m a mode ks) s =
      .ok ((s.withStore (replaceTrack s.store m mv a (writtenTrack mode mv.tracks[a] ks))).reply Kind.trackWrite tag .ok
        (trackReply m a (writtenTrack mode mv.tracks[a] ks).length
          (s.store.free + trackCount mv a - (writtenTrack mode mv.tracks[a] ks).length))) := by
  simp only [trackWrite, hk.operands hmode, need_some_bind, moveSlotOf_number, axisOf_number, hmode, decide_true,
    ensure_true_bind, keysOfRaw_map, hm, hf, Bool.not_false, hw, hfit]
  rfl

/-! ### TRACK_READ -/

theorem trackRead_badValue {slot axis start count : Nat} (hs : slot < 256) (ha : axis < 256) (hi : start < 65536)
    (hc : count < 256) (h : slot = 0 ∨ 32 < slot ∨ 15 < axis ∨ count = 0 ∨ 64 < count) :
    trackRead tag (u8 slot ++ u8 axis ++ u16 start ++ u8 count) s = refusedWith .badValue := by
  simp only [trackRead, trackReadOperands_bytes _ _ _ _ hs ha hi hc, need_some_bind]
  cases hm : moveSlotOf slot with
  | none => rfl
  | some m =>
    cases hx : axisOf axis with
    | none => rfl
    | some a =>
      have hbad : (decide (1 ≤ count) && decide (count ≤ 64)) = false := by
        rcases h with h | h | h | h
        · rw [moveSlotOf_none (.inl h)] at hm
          cases hm
        · rw [moveSlotOf_none (.inr h)] at hm
          cases hm
        · rw [axisOf_none h] at hx
          cases hx
        · simp only [Bool.and_eq_false_iff, decide_eq_false_iff_not]
          omega
      simp only [need_some_bind, hbad, ensure_false_bind, refusedWith]

section
variable {start count : Nat} (hi : start < 65536) (h1 : 1 ≤ count) (h2 : count ≤ 64)
include hi h1 h2

theorem trackRead_emptySlot (hm : s.store.moves[m] = none) :
    trackRead tag (u8 (m.val + 1) ++ u8 a.val ++ u16 start ++ u8 count) s = refusedWith .noSuch := by
  simp only [trackRead, trackReadOperands_bytes _ _ _ _ (slot_lt m) (axis_lt a) hi (show count < 256 by omega), need_some_bind,
    moveSlotOf_number, axisOf_number, h1, h2, decide_true, Bool.and_self, ensure_true_bind, hm, need_none_bind, refusedWith]

theorem trackRead_absent (hm : s.store.moves[m] = some mv) (ht : mv.tracks[a] = none) :
    trackRead tag (u8 (m.val + 1) ++ u8 a.val ++ u16 start ++ u8 count) s = refusedWith .noSuch := by
  simp only [trackRead, trackReadOperands_bytes _ _ _ _ (slot_lt m) (axis_lt a) hi (show count < 256 by omega), need_some_bind,
    moveSlotOf_number, axisOf_number, h1, h2, decide_true, Bool.and_self, ensure_true_bind, hm, ht, need_none_bind, refusedWith]

theorem trackRead_beyond (hm : s.store.moves[m] = some mv) (ht : mv.tracks[a] = some ks) (h : ks.length ≤ start) :
    trackRead tag (u8 (m.val + 1) ++ u8 a.val ++ u16 start ++ u8 count) s = refusedWith .badValue := by
  simp only [trackRead, trackReadOperands_bytes _ _ _ _ (slot_lt m) (axis_lt a) hi (show count < 256 by omega), need_some_bind,
    moveSlotOf_number, axisOf_number, h1, h2, decide_true, Bool.and_self, ensure_true_bind, hm, ht,
    decide_eq_false (Nat.not_lt.mpr h), ensure_false_bind, refusedWith]

theorem trackRead_accepted (hm : s.store.moves[m] = some mv) (ht : mv.tracks[a] = some ks) (h : start < ks.length) :
    trackRead tag (u8 (m.val + 1) ++ u8 a.val ++ u16 start ++ u8 count) s =
      .ok (s.reply Kind.trackRead tag .ok
        (u16 ks.length ++ u16 start ++ counted keyBytes ((ks.drop start).take count))) := by
  simp only [trackRead, trackReadOperands_bytes _ _ _ _ (slot_lt m) (axis_lt a) hi (show count < 256 by omega), need_some_bind,
    moveSlotOf_number, axisOf_number, h1, h2, decide_true, Bool.and_self, ensure_true_bind, hm, ht, decide_eq_true h]
  rfl

end

/-! ### TRACK_CLEAR -/

theorem trackClear_noSuch (hm : s.store.moves[m] = none) :
    trackClear tag (u8 (m.val + 1) ++ u8 a.val) s = refusedWith .noSuch := by
  simp only [trackClear, twoBytes_bytes _ _ (slot_lt m) (axis_lt a), need_some_bind, moveSlotOf_number, axisOf_number, hm,
    need_none_bind, refusedWith]

theorem trackClear_frozen (hm : s.store.moves[m] = some mv) (hf : s.frozen m = true) :
    trackClear tag (u8 (m.val + 1) ++ u8 a.val) s = refusedWith .inUse := by
  simp only [trackClear, twoBytes_bytes _ _ (slot_lt m) (axis_lt a), need_some_bind, moveSlotOf_number, axisOf_number, hm, hf,
    Bool.not_true, ensure_false_bind, refusedWith]

theorem trackClear_accepted (hm : s.store.moves[m] = some mv) (hf : s.frozen m = false) :
    trackClear tag (u8 (m.val + 1) ++ u8 a.val) s =
      .ok ((s.withStore (replaceTrack s.store m mv a [])).reply Kind.trackClear tag .ok
        (u16 (trackCount mv a) ++ u16 0 ++ u16 (s.store.free + trackCount mv a))) := by
  simp only [trackClear, twoBytes_bytes _ _ (slot_lt m) (axis_lt a), need_some_bind, moveSlotOf_number, axisOf_number, hm, hf,
    Bool.not_false, ensure_true_bind]
  rfl

/-! ### TRACK_COPY -/

section
variable {m' : MoveSlot} {a' : Axis} {src : Move}

/-- The body of a TRACK_COPY from one track position to another. -/
def copyBody (m' : MoveSlot) (a' : Axis) (m : MoveSlot) (a : Axis) : List Byte :=
  u8 (m'.val + 1) ++ u8 a'.val ++ u8 (m.val + 1) ++ u8 a.val

theorem copyBody_operands : trackCopyOperands (copyBody m' a' m a) =
    some { fromSlot := m'.val + 1, fromAxis := a'.val, toSlot := m.val + 1, toAxis := a.val } :=
  trackCopyOperands_bytes _ _ _ _ (slot_lt m') (axis_lt a') (slot_lt m) (axis_lt a)

theorem trackCopy_noSource (hm : s.store.moves[m'] = none) :
    trackCopy tag (copyBody m' a' m a) s = refusedWith .noSuch := by
  simp only [trackCopy, copyBody_operands, need_some_bind, moveSlotOf_number, axisOf_number, hm, need_none_bind, refusedWith]

theorem trackCopy_noDestination (hm : s.store.moves[m] = none) :
    trackCopy tag (copyBody m' a' m a) s = refusedWith .noSuch := by
  simp only [trackCopy, copyBody_operands, need_some_bind, moveSlotOf_number, axisOf_number, hm, need_none_bind]
  cases s.store.moves[m'] with
  | none => rfl
  | some src =>
    simp only [need_some_bind]
    cases src.tracks[a'] with
    | none => rfl
    | some track => rfl

theorem trackCopy_frozen (hs : s.store.moves[m'] = some src) (ht : src.tracks[a'] = some ks)
    (hm : s.store.moves[m] = some mv) (hf : s.frozen m = true) :
    trackCopy tag (copyBody m' a' m a) s = refusedWith .inUse := by
  simp only [trackCopy, copyBody_operands, need_some_bind, moveSlotOf_number, axisOf_number, hs, ht, hm, hf, Bool.not_true,
    ensure_false_bind, refusedWith]

theorem trackCopy_full (hs : s.store.moves[m'] = some src) (ht : src.tracks[a'] = some ks) (hm : s.store.moves[m] = some mv)
    (hf : s.frozen m = false) (hroom : s.store.free + trackCount mv a < ks.length) :
    trackCopy tag (copyBody m' a' m a) s = refusedWith .full := by
  simp only [trackCopy, copyBody_operands, need_some_bind, moveSlotOf_number, axisOf_number, hs, ht, hm, hf, Bool.not_false,
    ensure_true_bind, decide_eq_false (Nat.not_le.mpr hroom), ensure_false_bind, refusedWith]

theorem trackCopy_accepted (hs : s.store.moves[m'] = some src) (ht : src.tracks[a'] = some ks)
    (hm : s.store.moves[m] = some mv) (hf : s.frozen m = false) (hroom : ks.length ≤ s.store.free + trackCount mv a) :
    trackCopy tag (copyBody m' a' m a) s =
      .ok ((s.withStore (replaceTrack s.store m mv a ks)).reply Kind.trackCopy tag .ok
        (trackReply m a ks.length (s.store.free + trackCount mv a - ks.length))) := by
  simp only [trackCopy, copyBody_operands, need_some_bind, moveSlotOf_number, axisOf_number, hs, ht, hm, hf, Bool.not_false,
    ensure_true_bind, decide_eq_true hroom]
  rfl

end

/-! ### TRACK_SHIFT -/

section
variable {dt dv : Int} (ht : fits32 dt = true) (hv : fits32 dv = true)
include ht hv

theorem trackShift_noSuch (hm : s.store.moves[m] = none) :
    trackShift tag (u8 (m.val + 1) ++ u8 a.val ++ i32 dt ++ i32 dv) s = refusedWith .noSuch := by
  simp only [trackShift, trackShiftOperands_bytes _ _ _ _ (slot_lt m) (axis_lt a) ht hv, need_some_bind, moveSlotOf_number,
    axisOf_number, hm, need_none_bind, refusedWith]

theorem trackShift_frozen (hm : s.store.moves[m] = some mv) (hk : mv.tracks[a] = some ks) (hf : s.frozen m = true) :
    trackShift tag (u8 (m.val + 1) ++ u8 a.val ++ i32 dt ++ i32 dv) s = refusedWith .inUse := by
  simp only [trackShift, trackShiftOperands_bytes _ _ _ _ (slot_lt m) (axis_lt a) ht hv, need_some_bind, moveSlotOf_number,
    axisOf_number, hm, hk, hf, Bool.not_true, ensure_false_bind, refusedWith]

theorem trackShift_outside (hm : s.store.moves[m] = some mv) (hk : mv.tracks[a] = some ks) (hf : s.frozen m = false)
    (hs : shiftKeys dt dv ks = none) :
    trackShift tag (u8 (m.val + 1) ++ u8 a.val ++ i32 dt ++ i32 dv) s = refusedWith .badValue := by
  simp only [trackShift, trackShiftOperands_bytes _ _ _ _ (slot_lt m) (axis_lt a) ht hv, need_some_bind, moveSlotOf_number,
    axisOf_number, hm, hk, hf, Bool.not_false, ensure_true_bind, hs, need_none_bind, refusedWith]

theorem trackShift_accepted {moved : List Key} (hm : s.store.moves[m] = some mv) (hk : mv.tracks[a] = some ks)
    (hf : s.frozen m = false) (hs : shiftKeys dt dv ks = some moved) :
    trackShift tag (u8 (m.val + 1) ++ u8 a.val ++ i32 dt ++ i32 dv) s =
      .ok ((s.withStore (replaceTrack s.store m mv a moved)).reply Kind.trackShift tag .ok
        (trackReply m a moved.length (s.store.free + trackCount mv a - moved.length))) := by
  simp only [trackShift, trackShiftOperands_bytes _ _ _ _ (slot_lt m) (axis_lt a) ht hv, need_some_bind, moveSlotOf_number,
    axisOf_number, hm, hk, hf, Bool.not_false, ensure_true_bind, hs]
  rfl

end

/-! ### KEY_EDIT, KEY_INSERT and KEY_DELETE -/

theorem noKeyAt_iff {ks : List Key} {time : Nat} : (!(ks.any fun k => k.time = time)) = true ↔ ∀ k ∈ ks, k.time ≠ time := by
  simp

section
variable {n : Nat} (hn : n < 65536) (hr : keyInRange key = true)

section
include hn

theorem keyDelete_noSuch (hm : s.store.moves[m] = none) :
    keyDelete tag (u8 (m.val + 1) ++ u8 a.val ++ u16 n) s = refusedWith .noSuch := by
  simp only [keyDelete, keyDeleteOperands_bytes _ _ _ (slot_lt m) (axis_lt a) hn, need_some_bind, moveSlotOf_number,
    axisOf_number, hm, need_none_bind, refusedWith]

theorem keyDelete_frozen (hm : s.store.moves[m] = some mv) (hk : mv.tracks[a] = some ks) (hl : n < ks.length)
    (hf : s.frozen m = true) : keyDelete tag (u8 (m.val + 1) ++ u8 a.val ++ u16 n) s = refusedWith .inUse := by
  simp only [keyDelete, keyDeleteOperands_bytes _ _ _ (slot_lt m) (axis_lt a) hn, need_some_bind, moveSlotOf_number,
    axisOf_number, hm, hk, decide_eq_true hl, ensure_true_bind, hf, Bool.not_true, ensure_false_bind, refusedWith]

theorem keyDelete_accepted (hm : s.store.moves[m] = some mv) (hk : mv.tracks[a] = some ks) (hl : n < ks.length)
    (hf : s.frozen m = false) :
    keyDelete tag (u8 (m.val + 1) ++ u8 a.val ++ u16 n) s =
      .ok ((s.withStore (replaceTrack s.store m mv a (ks.eraseIdx n))).reply Kind.keyDelete tag .ok
        (trackReply m a (ks.eraseIdx n).length (s.store.free + trackCount mv a - (ks.eraseIdx n).length))) := by
  simp only [keyDelete, keyDeleteOperands_bytes _ _ _ (slot_lt m) (axis_lt a) hn, need_some_bind, moveSlotOf_number,
    axisOf_number, hm, hk, decide_eq_true hl, ensure_true_bind, hf, Bool.not_false]
  rfl

end

section
include hn hr

theorem keyEdit_noSuch (hm : s.store.moves[m] = none) :
    keyEdit tag (u8 (m.val + 1) ++ u8 a.val ++ u16 n ++ keyBytes key) s = refusedWith .noSuch := by
  simp only [keyEdit, keyEditOperands_bytes _ _ _ key (slot_lt m) (axis_lt a) hn (keyFits_of_inRange hr), need_some_bind,
    moveSlotOf_number, axisOf_number, keyOfRaw_rawOfKey, hm, need_none_bind, refusedWith]

theorem keyEdit_frozen (hm : s.store.moves[m] = some mv) (hk : mv.tracks[a] = some ks) (hl : n < ks.length)
    (hf : s.frozen m = true) :
    keyEdit tag (u8 (m.val + 1) ++ u8 a.val ++ u16 n ++ keyBytes key) s = refusedWith .inUse := by
  simp only [keyEdit, keyEditOperands_bytes _ _ _ key (slot_lt m) (axis_lt a) hn (keyFits_of_inRange hr), need_some_bind,
    moveSlotOf_number, axisOf_number, keyOfRaw_rawOfKey, hm, hk, decide_eq_true hl, ensure_true_bind, hf, Bool.not_true,
    ensure_false_bind, refusedWith]

theorem keyEdit_accepted (hm : s.store.moves[m] = some mv) (hk : mv.tracks[a] = some ks) (hl : n < ks.length)
    (hf : s.frozen m = false) (ho : editInOrder ks n key.time = true) :
    keyEdit tag (u8 (m.val + 1) ++ u8 a.val ++ u16 n ++ keyBytes key) s =
      .ok ((s.withStore (replaceTrack s.store m mv a (ks.set n key))).reply Kind.keyEdit tag .ok
        (trackReply m a (ks.set n key).length (s.store.free + trackCount mv a - (ks.set n key).length))) := by
  simp only [keyEdit, keyEditOperands_bytes _ _ _ key (slot_lt m) (axis_lt a) hn (keyFits_of_inRange hr), need_some_bind,
    moveSlotOf_number, axisOf_number, keyOfRaw_rawOfKey, hm, hk, decide_eq_true hl, ensure_true_bind, hf, Bool.not_false, ho]
  rfl

end

end

section
variable (hr : keyInRange key = true)
include hr

theorem keyInsert_noSuch (hm : s.store.moves[m] = none) :
    keyInsert tag (u8 (m.val + 1) ++ u8 a.val ++ keyBytes key) s = refusedWith .noSuch := by
  simp only [keyInsert, keyInsertOperands_bytes _ _ key (slot_lt m) (axis_lt a) (keyFits_of_inRange hr), need_some_bind,
    moveSlotOf_number, axisOf_number, keyOfRaw_rawOfKey, hm, need_none_bind, refusedWith]

theorem keyInsert_frozen (hm : s.store.moves[m] = some mv) (hf : s.frozen m = true) :
    keyInsert tag (u8 (m.val + 1) ++ u8 a.val ++ keyBytes key) s = refusedWith .inUse := by
  simp only [keyInsert, keyInsertOperands_bytes _ _ key (slot_lt m) (axis_lt a) (keyFits_of_inRange hr), need_some_bind,
    moveSlotOf_number, axisOf_number, keyOfRaw_rawOfKey, hm, hf, Bool.not_true, ensure_false_bind, refusedWith]

theorem keyInsert_full (hm : s.store.moves[m] = some mv) (hf : s.frozen m = false)
    (hne : ∀ k ∈ (mv.tracks[a]).getD [], k.time ≠ key.time)
    (hroom : s.store.free = 0 ∨ 4096 ≤ ((mv.tracks[a]).getD []).length) :
    keyInsert tag (u8 (m.val + 1) ++ u8 a.val ++ keyBytes key) s = refusedWith .full := by
  have hno : (decide (1 ≤ s.store.free) && decide (((mv.tracks[a]).getD []).length < maxTrackKeys)) = false := by
    simp only [Bool.and_eq_false_iff, decide_eq_false_iff_not, maxTrackKeys]
    omega
  simp only [keyInsert, keyInsertOperands_bytes _ _ key (slot_lt m) (axis_lt a) (keyFits_of_inRange hr), need_some_bind,
    moveSlotOf_number, axisOf_number, keyOfRaw_rawOfKey, hm, hf, Bool.not_false, ensure_true_bind, noKeyAt_iff.mpr hne, hno,
    ensure_false_bind, refusedWith]

theorem keyInsert_accepted (hm : s.store.moves[m] = some mv) (hf : s.frozen m = false)
    (hne : ∀ k ∈ (mv.tracks[a]).getD [], k.time ≠ key.time) (hfree : 1 ≤ s.store.free)
    (hroom : ((mv.tracks[a]).getD []).length < 4096) :
    keyInsert tag (u8 (m.val + 1) ++ u8 a.val ++ keyBytes key) s =
      .ok ((s.withStore (replaceTrack s.store m mv a (insertKey key ((mv.tracks[a]).getD [])))).reply Kind.keyInsert tag .ok
        (u16 (placeOf key.time ((mv.tracks[a]).getD [])) ++
          trackReply m a (insertKey key ((mv.tracks[a]).getD [])).length
            (s.store.free + trackCount mv a - (insertKey key ((mv.tracks[a]).getD [])).length))) := by
  simp only [keyInsert, keyInsertOperands_bytes _ _ key (slot_lt m) (axis_lt a) (keyFits_of_inRange hr), need_some_bind,
    moveSlotOf_number, axisOf_number, keyOfRaw_rawOfKey, hm, hf, Bool.not_false, ensure_true_bind, noKeyAt_iff.mpr hne,
    decide_eq_true hfree, decide_eq_true (show _ < maxTrackKeys from hroom), Bool.and_self]
  rfl

end
end
end Sys2Proof.Machine
end

/-! SUPPORT. The statements about the store's requests (R5 to R18), each from the outcomes of its request. -/
section
namespace Sys2Proof.Machine

section
variable {kind tag : Byte} {r : Tested State} {s t : State}

theorem conclude_of_accepted (h : r = .ok t) : conclude s kind tag r = .next t := by rw [h, conclude_ok]

theorem conclude_of_refused {st : Status} (h : r = refusedWith st) :
    conclude s kind tag r = .next (s.reply kind tag st []) := by rw [h, conclude_refusedWith]

end

/-- Settles O5: MOVE_CREATE and MOVE_DELETE by the state of the slot, and by a slot number outside 1 to 32. -/
theorem moveCreateAndDelete : Obligations.MoveCreateAndDelete := by
  intro tag s
  refine ⟨fun m name => ⟨fun hn hm => conclude_of_accepted (moveCreate_accepted hn hm), fun hn hm => ?_,
    fun hn hl => conclude_of_refused (moveCreate_badName (by omega) hn),
    fun hm => conclude_of_refused (moveDelete_noSuch hm),
    fun mv hm => ⟨fun hf => conclude_of_accepted (moveDelete_accepted hm hf),
      fun hf => conclude_of_refused (moveDelete_frozen hm hf)⟩⟩, fun n name hn hout hl => ⟨?_, ?_⟩⟩
  · obtain ⟨mv, hmv⟩ := Option.ne_none_iff_exists'.mp hm
    exact conclude_of_refused (moveCreate_occupied hn hmv)
  · refine conclude_of_refused (kind := Kind.moveCreate) ?_
    simp only [moveCreate, moveCreateOperands_bytes n name (by omega) (by omega), need_some_bind, moveSlotOf_none hout,
      need_none_bind, refusedWith]
  · refine conclude_of_refused (kind := Kind.moveDelete) ?_
    simp only [moveDelete, oneByte_bytes n (by omega), need_some_bind, moveSlotOf_none hout, need_none_bind, refusedWith]

theorem trackOfKeys_of_ne {ks : List Key} (h : ks ≠ []) : trackOfKeys ks = some ks := by rw [trackOfKeys, if_neg h]

/-- R9: an APPEND whose keys follow the track's last key is in order. -/
theorem writeInOrder_append {old : Option Track} {ks : List Key} (ho : ascending ks = true)
    (h : ∀ last ∈ (old.getD []).getLast?, ∀ first ∈ ks.head?, last.time < first.time) :
    writeInOrder 1 old ks = true := by
  simp only [writeInOrder, ho, Bool.true_and]
  refine (Bool.or_eq_true _ _).mpr (.inr ?_)
  split
  · next last first hl hf => exact decide_eq_true (h last hl first hf)
  · rfl

theorem writeInOrder_replace {old : Option Track} {ks : List Key} (ho : ascending ks = true) :
    writeInOrder 0 old ks = true := by simp [writeInOrder, ho]

theorem writeFits_replace {st : Store} {count new : Nat} : writeFits st 0 count new = decide (new ≤ st.free + count) := rfl

theorem writeFits_append {st : Store} {count new : Nat} :
    writeFits st 1 count new = (decide (new ≤ st.free) && decide (count + new ≤ maxTrackKeys)) := rfl

/-- Settles O6. -/
theorem trackWriteReplacesOrAppends : Obligations.TrackWriteReplacesOrAppends := by
  intro m a mv ks tag s hm hf h1 h2 hr ho
  have hk : Carried ks := ⟨h1, h2, hr⟩
  have hne : ks ≠ [] := List.length_pos_iff.mp h1
  refine ⟨fun hroom => ?_, fun old hold hends hfree hsize => ?_⟩
  · have hacc := trackWrite_accepted (tag := tag) hk (mode := 0) (by omega) hm hf (writeInOrder_replace ho)
      (writeFits_replace.trans (decide_eq_true hroom))
    simp only [writtenTrack, if_true, replaceTrack, trackOfKeys_of_ne hne] at hacc
    exact conclude_of_accepted hacc
  · subst hold
    have hcount := trackCount_eq mv a
    have hacc := trackWrite_accepted (tag := tag) hk (mode := 1) (by omega) hm hf (writeInOrder_append ho hends) (by
      rw [writeFits_append, hcount, decide_eq_true hfree, decide_eq_true (show _ ≤ maxTrackKeys from hsize), Bool.and_self])
    have hsum : s.store.free + trackCount mv a - (((mv.tracks[a]).getD []).length + ks.length) = s.store.free - ks.length := by
      omega
    simp only [writtenTrack, Nat.one_ne_zero, if_false, replaceTrack, hsum, List.length_append,
      trackOfKeys_of_ne (List.append_ne_nil_of_right_ne_nil _ hne)] at hacc
    exact conclude_of_accepted hacc

/-- Settles O7. -/
theorem trackClearCopyAndShift : Obligations.TrackClearCopyAndShift := by
  intro m a mv tag s hm hf
  refine ⟨conclude_of_accepted (trackClear_accepted hm hf), fun m' a' src ks hs ht hne hroom => ?_,
    fun ks dt dv hk hne hdt hdv => ⟨fun hin => ?_, fun hout => ?_⟩⟩
  · have hacc := trackCopy_accepted (tag := tag) hs ht hm hf hroom
    simp only [replaceTrack, trackOfKeys_of_ne hne] at hacc
    exact conclude_of_accepted hacc
  · have hsh : shiftKeys dt dv ks = some (ks.map (movedKey dt dv)) := shiftKeys_some.mpr ⟨hin, rfl⟩
    have hsum : s.store.free + trackCount mv a - ks.length = s.store.free := by
      rw [trackCount_some hk]
      omega
    have hacc := trackShift_accepted (tag := tag) hdt hdv hm hk hf hsh
    simp only [replaceTrack, hsum, List.length_map, trackOfKeys_of_ne (mt List.map_eq_nil_iff.mp hne)] at hacc
    exact conclude_of_accepted hacc
  · refine conclude_of_refused (trackShift_outside hdt hdv hm hk hf ?_)
    obtain ⟨k, hmem, hbad⟩ := hout
    refine Option.eq_none_iff_forall_ne_some.mpr fun moved hmoved => ?_
    obtain ⟨h0, h1, h2⟩ := (shiftKeys_some.mp hmoved).1 k hmem
    rcases hbad with h | h | h
    · omega
    · omega
    · rw [h] at h2
      cases h2

/-- R15: the neighbours' times, as the request's test reads them. -/
theorem editInOrder_of_neighbours {ks : Track} {n time : Nat} (hb : n = 0 ∨ ∃ k, ks[n - 1]? = some k ∧ k.time < time)
    (ha : ∀ k, ks[n + 1]? = some k → time < k.time) : editInOrder ks n time = true := by
  refine (Bool.and_eq_true _ _).mpr ⟨?_, ?_⟩
  · rcases hb with rfl | ⟨k, hk, hlt⟩
    · rfl
    · split
      · next before hbefore =>
        split at hbefore
        · cases hbefore
        · rw [hk] at hbefore
          cases hbefore
          exact decide_eq_true hlt
      · rfl
  · split
    · next after hafter => exact decide_eq_true (ha after hafter)
    · rfl

/-- R3: a track of which one key is deleted is absent when that was its only key. -/
theorem trackOfKeys_eraseIdx {ks : List Key} {n : Nat} (hn : n < ks.length) :
    trackOfKeys (ks.eraseIdx n) = if ks.length = 1 then none else some (ks.eraseIdx n) := by
  have hlen := List.length_eraseIdx_of_lt hn
  have hnil : ks.eraseIdx n = [] ↔ ks.length = 1 := by
    rw [← List.length_eq_zero_iff]
    omega
  simp only [trackOfKeys, hnil]

/-- Settles O8. -/
theorem keyEditInsertAndDelete : Obligations.KeyEditInsertAndDelete := by
  intro m a mv key tag s hm hf hr
  refine ⟨fun ks n hk hl hn => ⟨fun hb ha => ?_, ?_⟩, fun hne hfree hroom hord => ?_⟩
  · have hsum : s.store.free + trackCount mv a - ks.length = s.store.free := by
      rw [trackCount_some hk]
      omega
    have hset : ks.set n key ≠ [] := by
      rw [← List.length_pos_iff, List.length_set]
      omega
    have hacc := keyEdit_accepted (tag := tag) hn hr hm hk hl hf (editInOrder_of_neighbours hb ha)
    simp only [replaceTrack, hsum, List.length_set, trackOfKeys_of_ne hset] at hacc
    exact conclude_of_accepted hacc
  · have hlen := List.length_eraseIdx_of_lt hl
    have hsum : s.store.free + trackCount mv a - (ks.length - 1) = s.store.free + 1 := by
      rw [trackCount_some hk]
      omega
    have hacc := keyDelete_accepted (tag := tag) hn hm hk hl hf
    simp only [replaceTrack, trackOfKeys_eraseIdx hl, hlen, hsum] at hacc
    exact conclude_of_accepted hacc
  · obtain ⟨before, after, hsplit, hb, ha, hins, hplace⟩ := insertKey_split key _ hord hne
    refine ⟨before, after, hsplit, hb, ha, ?_⟩
    have hcount := trackCount_eq mv a
    have hlen : (before ++ key :: after).length = before.length + after.length + 1 := by simp [Nat.add_assoc]
    have hsum : s.store.free + trackCount mv a - (before.length + after.length + 1) = s.store.free - 1 := by
      rw [hcount, hsplit, List.length_append]
      omega
    have hacc := keyInsert_accepted (tag := tag) hr hm hf hne hfree (by omega)
    simp only [hins, hplace, replaceTrack, hlen, hsum, trackReply, trackOfKeys_of_ne (List.append_ne_nil_of_right_ne_nil _ (List.cons_ne_nil _ _))]
      at hacc
    exact conclude_of_accepted hacc

/-! ### MOVE_LIST and TRACK_READ -/

/-- R8: the keys in the items of a MOVE_LIST are the keys in tracks. -/
theorem keysInTracks_items (st : Store) :
    keysInTracks st =
      ((allMoveSlots.filterMap fun m => st.moves[m].map fun mv => (m, mv)).map fun p => moveKeys p.2).sum := by
  unfold keysInTracks
  induction allMoveSlots with
  | nil => rfl
  | cons m ms ih =>
    rw [List.map_cons, List.sum_cons, ih]
    cases hm : st.moves[m] with
    | none => rw [List.filterMap_cons_none (by rw [hm]; rfl), Nat.zero_add]
    | some mv => rw [List.filterMap_cons_some (by rw [hm]; rfl), List.map_cons, List.sum_cons]

theorem moveKeys_eq (mv : Move) : moveKeys mv = (allAxes.map fun a => ((mv.tracks[a]).getD []).length).sum :=
  congrArg List.sum (List.map_congr_left fun a _ => trackCount_eq mv a)

/-- Settles O9. -/
theorem moveListAndTrackRead : Obligations.MoveListAndTrackRead := by
  intro tag s items hitems
  subst hitems
  refine ⟨rfl, fun hs => ?_, fun b bs => rfl, fun m a start count hi h1 h2 => ⟨fun mv ks hm hk =>
    ⟨fun hl => conclude_of_accepted (trackRead_accepted hi h1 h2 hm hk hl),
      fun hl => conclude_of_refused (trackRead_beyond hi h1 h2 hm hk hl)⟩, fun habsent => ?_⟩,
    fun slot axis start count hs ha hi hc hbad =>
      conclude_of_refused (trackRead_badValue (by omega) (by omega) hi (by omega) hbad)⟩
  · simp only [← moveKeys_eq, ← keysInTracks_items]
    exact hs.pool
  · cases hm : s.store.moves[m] with
    | none => exact conclude_of_refused (trackRead_emptySlot hi h1 h2 hm)
    | some mv => exact conclude_of_refused (trackRead_absent hi h1 h2 hm (habsent mv hm))

/-! ### Refusals (R5, R18) -/

section
variable {tag : Byte} {body : List Byte} {s t : State} {m : MoveSlot} {mv : Move}

/-- What a request leaves of a slot: its move, unless the request is accepted and changes it. -/
theorem conclude_keeps_move {kind tag : Byte} {r : Tested State} (h : conclude s kind tag r = .next t)
    (hok : ∀ u, r = .ok u → u.store.moves[m] = s.store.moves[m]) : t.store.moves[m] = s.store.moves[m] := by
  rcases conclude_cases h with hr | ⟨e, -, rfl⟩
  · exact hok t hr
  · rfl

theorem moveCreate_keeps_move (hm : s.store.moves[m] = some mv) (h : moveCreate tag body s = .ok t) :
    t.store.moves[m] = s.store.moves[m] := by
  obtain ⟨m', name, fields, hm', rfl⟩ := moveCreate_ok h
  refine put_get_other _ _ fun heq => ?_
  rw [heq, hm] at hm'
  cases hm'

theorem moveDelete_keeps_move (hf : s.frozen m = true) (h : moveDelete tag body s = .ok t) :
    t.store.moves[m] = s.store.moves[m] := by
  obtain ⟨m', mv', fields, -, hf', rfl⟩ := moveDelete_ok h
  refine put_get_other _ _ fun heq => ?_
  rw [heq, hf] at hf'
  cases hf'

/-- R18: no store request changes the move in a frozen slot. -/
theorem storeRequest_keeps_frozen {c : Instr} (hc : isStoreRequest c = true) (hm : s.store.moves[m] = some mv)
    (hf : s.frozen m = true) (h : exec c s = .next t) : t.store.moves[m] = s.store.moves[m] := by
  cases c with
  | moveCreate tag body =>
    exact conclude_keeps_move (kind := Kind.moveCreate) h fun _ hu => moveCreate_keeps_move hm hu
  | moveDelete tag body =>
    exact conclude_keeps_move (kind := Kind.moveDelete) h fun _ hu => moveDelete_keeps_move hf hu
  | moveList tag body =>
    exact conclude_keeps_move (kind := Kind.moveList) h fun _ hu => by
      rw [State.store_of_footing (moveList_ok hu)]
      rfl
  | trackWrite tag body =>
    exact conclude_keeps_move (kind := Kind.trackWrite) h fun _ hu => (trackWrite_replaces hu).frozen_move hf
  | trackRead tag body =>
    exact conclude_keeps_move (kind := Kind.trackRead) h fun _ hu => by
      rw [State.store_of_footing (trackRead_ok hu)]
      rfl
  | trackClear tag body =>
    exact conclude_keeps_move (kind := Kind.trackClear) h fun _ hu => (trackClear_replaces hu).frozen_move hf
  | trackCopy tag body =>
    exact conclude_keeps_move (kind := Kind.trackCopy) h fun _ hu => (trackCopy_replaces hu).frozen_move hf
  | trackShift tag body =>
    exact conclude_keeps_move (kind := Kind.trackShift) h fun _ hu => (trackShift_replaces hu).frozen_move hf
  | keyEdit tag body =>
    exact conclude_keeps_move (kind := Kind.keyEdit) h fun _ hu => (keyEdit_replaces hu).frozen_move hf
  | keyInsert tag body =>
    exact conclude_keeps_move (kind := Kind.keyInsert) h fun _ hu => (keyInsert_replaces hu).frozen_move hf
  | keyDelete tag body =>
    exact conclude_keeps_move (kind := Kind.keyDelete) h fun _ hu => (keyDelete_replaces hu).frozen_move hf
  | _ => cases hc

end

/-- Settles O10: on a frozen move, an empty slot, and where the pool or the track has no room. -/
theorem storeRequestsRefused : Obligations.StoreRequestsRefused := by
  refine ⟨fun c m mv s t hc hm hf h => (storeRequest_keeps_frozen hc hm hf h).trans hm,
    fun m a key ks mode n count dt dv tag s hr h1 h2 hks hmode hn hc1 hc2 hdt hdv => ⟨fun mv hm hf => ?_, fun hm => ?_,
      fun mv old hm hf hold => ?_⟩⟩
  · have hk : Carried ks := ⟨h1, h2, hks⟩
    refine ⟨conclude_of_refused (moveDelete_frozen hm hf), conclude_of_refused (trackWrite_frozen hk hmode hm hf),
      conclude_of_refused (trackClear_frozen hm hf), conclude_of_refused (keyInsert_frozen hr hm hf),
      fun m' a' src hs ht => ?_, fun old hold => ⟨conclude_of_refused (trackShift_frozen hdt hdv hm hold hf), fun hl =>
        ⟨conclude_of_refused (keyEdit_frozen hn hr hm hold hl hf), conclude_of_refused (keyDelete_frozen hn hm hold hl hf)⟩⟩⟩
    obtain ⟨track, htrack⟩ := Option.isSome_iff_exists.mp ht
    exact conclude_of_refused (trackCopy_frozen hs htrack hm hf)
  · have hk : Carried ks := ⟨h1, h2, hks⟩
    exact ⟨conclude_of_refused (moveDelete_noSuch hm), conclude_of_refused (trackWrite_noSuch hk hmode hm),
      conclude_of_refused (trackRead_emptySlot hn hc1 hc2 hm), conclude_of_refused (trackClear_noSuch hm),
      fun m' a' => ⟨conclude_of_refused (trackCopy_noSource hm), conclude_of_refused (trackCopy_noDestination hm)⟩,
      conclude_of_refused (trackShift_noSuch hdt hdv hm), conclude_of_refused (keyEdit_noSuch hn hr hm),
      conclude_of_refused (keyInsert_noSuch hr hm), conclude_of_refused (keyDelete_noSuch hn hm)⟩
  · have hk : Carried ks := ⟨h1, h2, hks⟩
    subst hold
    have hcount := trackCount_eq mv a
    refine ⟨fun hroom hne => conclude_of_refused (keyInsert_full hr hm hf hne hroom), fun hroom ho => ?_,
      fun hroom ho hends => ?_, fun m' a' src track hs ht hroom =>
        conclude_of_refused (trackCopy_full hs ht hm hf (by omega))⟩
    · refine conclude_of_refused (trackWrite_full hk (by omega) hm hf (writeInOrder_replace ho) ?_)
      rw [writeFits_replace, hcount, decide_eq_false_iff_not]
      omega
    · refine conclude_of_refused (trackWrite_full hk (by omega) hm hf (writeInOrder_append ho hends) ?_)
      rw [writeFits_append, hcount, Bool.and_eq_false_iff, decide_eq_false_iff_not, decide_eq_false_iff_not, maxTrackKeys]
      omega

end Sys2Proof.Machine
end

/-! SUPPORT. The messages that wait, in their order (R192 to R194): what a message that becomes due leaves of those before it. -/
section
namespace Sys2Proof.Machine

/-- The messages that await sending, oldest first. -/
def Console.waiting (c : Console) : List Message := c.outQ ++ c.held

/-- A message that no later one removes or updates: neither a FRAME nor a STATE report. -/
def standing (m : Message) : Bool := !isFrameReport m && !isStateReport m

/-- From c to d messages have become due: those that stand keep their order at the front, nothing but the messages changes, and
where no FRAME report waits none is given up. -/
structure Console.Grows (c d : Console) : Prop where
  standing : c.waiting.filter standing <+: d.waiting.filter standing
  inBuf : d.inBuf = c.inBuf
  badFrames : d.badFrames = c.badFrames
  discarded : d.discarded = c.discarded
  interval : d.interval = c.interval
  mask : d.mask = c.mask
  noFrames : c.waiting.all (!isFrameReport ·) = true → d.waiting.all (!isFrameReport ·) = true ∧ d.skipped = c.skipped

namespace Console

variable {c d e : Console}

theorem Grows.refl (c : Console) : Grows c c :=
  ⟨List.prefix_refl _, rfl, rfl, rfl, rfl, rfl, fun h => ⟨h, rfl⟩⟩

theorem Grows.trans (h : Grows c d) (h' : Grows d e) : Grows c e where
  standing := h.standing.trans h'.standing
  inBuf := h'.inBuf.trans h.inBuf
  badFrames := h'.badFrames.trans h.badFrames
  discarded := h'.discarded.trans h.discarded
  interval := h'.interval.trans h.interval
  mask := h'.mask.trans h.mask
  noFrames hc := by
    obtain ⟨hd, hs⟩ := h.noFrames hc
    obtain ⟨he, hs'⟩ := h'.noFrames hd
    exact ⟨he, hs'.trans hs⟩

/-- A message that stands goes on waiting. -/
theorem Grows.mem (h : Grows c d) {m : Message} (hm : m ∈ c.waiting) (hs : Machine.standing m = true) : m ∈ d.waiting :=
  (List.mem_filter.mp (h.standing.subset (List.mem_filter.mpr ⟨hm, hs⟩))).1

/-- A message that becomes due is the last that waits; at most one FRAME report goes. -/
theorem waiting_queueMessage (c : Console) (m : Message) :
    ((queueMessage c m).waiting = c.waiting ++ [m] ∧ (queueMessage c m).skipped = c.skipped) ∨
      ∃ before report after, c.waiting = before ++ report :: after ∧ isFrameReport report = true ∧
        (queueMessage c m).waiting = before ++ after ++ [m] := by
  rcases queueMessage_cases c m with ⟨hh, -, hq⟩ | ⟨-, ⟨-, hq⟩ | ⟨q, hrem, hq⟩⟩
  · refine .inl ?_
    rw [hq]
    simp [waiting, hh]
  · refine .inl ?_
    rw [hq]
    simp [waiting]
  · obtain ⟨before, report, after, h1, h2, -, h4⟩ := removeNewestFrame_some hrem
    refine .inr ⟨before, report, after ++ c.held, by simp [waiting, h1], h2, ?_⟩
    rw [hq, waiting, refill_append, h4]
    simp

theorem queueMessage_settings (c : Console) (m : Message) :
    (queueMessage c m).inBuf = c.inBuf ∧ (queueMessage c m).badFrames = c.badFrames ∧
      (queueMessage c m).discarded = c.discarded ∧ (queueMessage c m).interval = c.interval ∧
      (queueMessage c m).mask = c.mask := by
  rcases queueMessage_cases c m with ⟨-, -, hq⟩ | ⟨-, ⟨-, hq⟩ | ⟨q, -, hq⟩⟩ <;> rw [hq] <;>
    exact ⟨rfl, rfl, rfl, rfl, rfl⟩

theorem getLast?_queueMessage (c : Console) (m : Message) : (queueMessage c m).waiting.getLast? = some m := by
  rcases waiting_queueMessage c m with ⟨h, -⟩ | ⟨_, _, _, -, -, h⟩ <;> rw [h] <;> simp

theorem mem_queueMessage (c : Console) (m : Message) : m ∈ (queueMessage c m).waiting :=
  List.mem_of_getLast? (getLast?_queueMessage c m)

theorem grows_queueMessage (c : Console) {m : Message} (hm : isFrameReport m = false) : Grows c (queueMessage c m) := by
  obtain ⟨h1, h2, h3, h4, h5⟩ := queueMessage_settings c m
  refine ⟨?_, h1, h2, h3, h4, h5, fun hc => ?_⟩
  · rcases waiting_queueMessage c m with ⟨h, -⟩ | ⟨before, report, after, hc, hr, h⟩
    · rw [h, List.filter_append]
      exact List.prefix_append _ _
    · have hgone : Machine.standing report = false := by simp [Machine.standing, hr]
      rw [h, hc, List.filter_append, List.filter_append, List.filter_append, List.filter_cons_of_neg (by simp [hgone])]
      exact List.prefix_append _ _
  · rcases waiting_queueMessage c m with ⟨h, hs⟩ | ⟨before, report, after, hw, hr, -⟩
    · rw [h, List.all_append, hc, hs]
      simp [hm]
    · rw [hw] at hc
      simp [hr] at hc

/-- R193: the waiting STATE report that is updated keeps its place. -/
theorem updateStateReport_some {st : CtrlState} {kind : Option PassKind} {entry : Nat} {q q' : List Message}
    (h : updateStateReport st kind entry q = some q') : ∃ before old new after, q = before ++ old :: after ∧
      q' = before ++ new :: after ∧ isStateReport old = true ∧ isStateReport new = true := by
  induction q generalizing q' with
  | nil => cases h
  | cons m rest ih =>
    have further (hmap : (updateStateReport st kind entry rest).map (m :: ·) = some q') :
        ∃ before old new after, m :: rest = before ++ old :: after ∧ q' = before ++ new :: after ∧
          isStateReport old = true ∧ isStateReport new = true := by
      obtain ⟨r, hr, rfl⟩ := Option.map_eq_some_iff.mp hmap
      obtain ⟨before, old, new, after, h1, h2, h3⟩ := ih hr
      exact ⟨m :: before, old, new, after, by rw [h1]; rfl, by rw [h2]; rfl, h3⟩
    cases m with
    | state a b c d =>
      cases h
      exact ⟨[], _, _, rest, rfl, rfl, rfl, rfl⟩
    | reply | fault | check | pass | frame => exact further h

/-- An updated STATE report changes neither the messages that stand nor whether a FRAME report waits. -/
theorem grows_of_updated {before after : List Message} {old new : Message} (hc : c.waiting = before ++ old :: after)
    (hd : d.waiting = before ++ new :: after) (ho : isStateReport old = true) (hn : isStateReport new = true)
    (hs : { d with outQ := c.outQ, held := c.held } = c) : Grows c d := by
  have same (m : Message) (hm : isStateReport m = true) : Machine.standing m = false ∧ isFrameReport m = false := by
    cases m with
    | state => exact ⟨rfl, rfl⟩
    | _ => cases hm
  rw [← hs] at hc ⊢
  refine ⟨?_, rfl, rfl, rfl, rfl, rfl, fun h => ⟨?_, rfl⟩⟩
  · rw [hc, hd, List.filter_append, List.filter_append, List.filter_cons_of_neg (by simp [same old ho]),
      List.filter_cons_of_neg (by simp [same new hn])]
  · rw [hc] at h
    rw [hd]
    simpa [same old ho, same new hn] using h

theorem grows_queueStateReport (c : Console) (st : CtrlState) (kind : Option PassKind) (entry : Nat) :
    Grows c (queueStateReport c st kind entry) := by
  unfold queueStateReport
  split
  · next q hq =>
    obtain ⟨before, old, new, after, h1, h2, ho, hn⟩ := updateStateReport_some hq
    exact grows_of_updated (before := before) (after := after ++ c.held) (by simp [waiting, h1]) (by simp [waiting, h2]) ho hn
      rfl
  · split
    · next h hh =>
      obtain ⟨before, old, new, after, h1, h2, ho, hn⟩ := updateStateReport_some hh
      exact grows_of_updated (before := c.outQ ++ before) (after := after) (by simp [waiting, h1]) (by simp [waiting, h2]) ho hn
        rfl
    · exact grows_queueMessage c rfl

theorem grows_queueFaultReport (c : Console) : Grows c (queueFaultReport c) := by
  unfold queueFaultReport
  split
  · exact .refl c
  · exact grows_queueMessage c rfl

theorem fault_mem_queueFaultReport (c : Console) : .fault ∈ (queueFaultReport c).waiting := by
  unfold queueFaultReport
  split
  · next h =>
    rw [← List.any_append, List.any_eq_true] at h
    obtain ⟨m, hm, hf⟩ := h
    cases m with
    | fault => exact hm
    | _ => cases hf
  · exact mem_queueMessage c _

/-- R196: RIG_RESET takes every FRAME report out and nothing else. -/
theorem waiting_dropFrameReports (c : Console) : (dropFrameReports c).waiting = c.waiting.filter (!isFrameReport ·) := by
  rw [waiting, dropFrameReports, refill_append, waiting, List.filter_append]

end Console

/-! ### The reports of a state -/

namespace State

variable (s : State)

theorem reply_grows (kind tag : Byte) (st : Status) (fields : List Byte) :
    s.console.Grows (s.reply kind tag st fields).console := Console.grows_queueMessage _ rfl

theorem reportState_grows : s.console.Grows s.reportState.console := Console.grows_queueStateReport _ _ _ _

end State

end Sys2Proof.Machine
end

/-! SUPPORT. How the pass log closes a pass (R154), and what RIG_RESET does block by block (R90, R124, R145, R188, R196). -/
section
namespace Sys2Proof.Machine

/-- From l to l' the pass being recorded, if any, has been closed; every other slot and the order of slots stand. -/
structure PassLog.Closed (l l' : PassLog) : Prop where
  counter : l'.counter = l.counter
  reference : l'.reference = l.reference
  age : l'.age = l.age
  recording : l'.recording = none
  heldSlot : l'.heldSlot = none
  others : ∀ i : PassSlot, l.recording ≠ some i → l'.slots[i] = l.slots[i]

/-- The PASS report of a pass closed in a slot. -/
def closedReport (i : PassSlot) (p : PassRec) (outcome : PassOutcome) : Message :=
  .pass (u8 (i.val + 1) ++ headerBytes (closedPass p outcome).header p.records.length)

theorem recordedPass_eq_some {l : PassLog} {i : PassSlot} {p : PassRec} :
    recordedPass l = some (i, p) ↔ l.recording = some i ∧ l.slots[i] = some p := by
  unfold recordedPass
  cases l.recording with
  | none => simp
  | some j =>
    simp only [Option.map_eq_some_iff, Prod.mk.injEq, Option.some.injEq]
    constructor
    · rintro ⟨q, hq, rfl, rfl⟩
      exact ⟨rfl, hq⟩
    · rintro ⟨rfl, hp⟩
      exact ⟨p, hp, rfl, rfl⟩

namespace State

/-- R154: a pass finalized changes only the log and the console: its header takes the outcome and its PASS report waits. -/
theorem finalizePass_spec (s : State) (outcome : PassOutcome) :
    ∃ c log, s.finalizePass outcome = { s with console := c, log := log } ∧ s.console.Grows c ∧ s.log.Closed log ∧
      ∀ (i : PassSlot) (p : PassRec), s.log.recording = some i → s.log.slots[i] = some p →
        log.slots[i] = some (closedPass p outcome) ∧ closedReport i p outcome ∈ c.waiting := by
  unfold finalizePass
  cases hr : recordedPass s.log with
  | none =>
    refine ⟨_, _, rfl, .refl _, ?_, fun i p hi hp => ?_⟩
    · exact ⟨rfl, rfl, rfl, rfl, rfl, fun _ _ => rfl⟩
    · rw [recordedPass_eq_some.mpr ⟨hi, hp⟩] at hr
      cases hr
  | some q =>
    obtain ⟨hrec, hslot⟩ := recordedPass_eq_some.mp hr
    refine ⟨_, _, rfl, Console.grows_queueMessage _ (m := closedReport q.1 q.2 outcome) rfl, ?_, fun i p hi hp => ?_⟩
    · exact ⟨rfl, rfl, rfl, rfl, rfl, fun i hi => put_get_other _ _ fun h => hi (hrec.trans (congrArg some h))⟩
    · cases (recordedPass_eq_some.mpr ⟨hi, hp⟩).symm.trans hr
      exact ⟨put_get_same .., Console.mem_queueMessage _ _⟩

end State

/-! ### RIG_RESET -/

theorem noFrames_dropFrameReports (c : Console) :
    (dropFrameReports c).waiting.all (!isFrameReport ·) = true ∧ (dropFrameReports c).skipped = 0 := by
  refine ⟨?_, rfl⟩
  rw [Console.waiting_dropFrameReports, List.all_eq_true]
  exact fun m hm => (List.mem_filter.mp hm).2

/-- R196: the messages that stand are not FRAME reports. -/
theorem standing_dropFrameReports (c : Console) :
    (dropFrameReports c).waiting.filter standing = c.waiting.filter standing := by
  rw [Console.waiting_dropFrameReports, List.filter_filter]
  refine List.filter_congr fun m _ => ?_
  cases m <;> rfl

namespace State

/-- A DRIVE_PASS answered changes only the console. -/
theorem foldl_abortPass (s : State) (gone : List Acyclic) :
    ∃ c, gone.foldl abortPass s = { s with console := c } ∧ s.console.Grows c ∧
      ∀ x ∈ gone, .reply 0xB2 x.tag [0x19] ∈ c.waiting := by
  induction gone generalizing s with
  | nil => exact ⟨_, rfl, .refl _, fun _ h => by cases h⟩
  | cons x gone ih =>
    obtain ⟨c, hc, hg, hm⟩ := ih (s.abortPass x)
    refine ⟨c, hc, (s.reply_grows ..).trans hg, fun y hy => ?_⟩
    rcases List.mem_cons.mp hy with rfl | hy
    · exact hg.mem (Console.mem_queueMessage _ _) rfl
    · exact hm y hy

/-- R122: a queue emptied changes only the link's queue and its slot in progress; each transaction is answered. -/
theorem abortQueue_all (s : State) :
    ∃ c period, (s.abortQueue fun _ => true) = { s with console := c, link := { s.link with queue := [], period := period } } ∧
      s.console.Grows c ∧ ∀ x ∈ s.link.queue, .reply 0xB2 x.tag [0x19] ∈ c.waiting := by
  obtain ⟨c, hc, hg, hm⟩ := foldl_abortPass s s.link.queue
  have hall : (s.link.queue.filter fun _ : Acyclic => true) = s.link.queue := List.filter_eq_self.mpr fun _ _ => rfl
  have hnone : (s.link.queue.filter fun _ : Acyclic => !true) = [] := List.filter_eq_nil_iff.mpr fun _ _ => by decide
  refine ⟨c, (s.abortQueue fun _ => true).link.period, ?_, hg, hm⟩
  simp only [abortQueue, hall, hnone, hc]

theorem resetLink_spec (s : State) :
    ∃ c link, s.resetLink = { s with console := c, link := link } ∧ s.console.Grows c ∧
      (∀ a : Axis, link.recs[a] = resetLinkRec s.link.recs[a]) ∧ link.queue = [] := by
  obtain ⟨c, period, hq, hg, -⟩ := abortQueue_all
    { s with link := { s.link with recs := tabulate fun a => resetLinkRec s.link.recs[a], due := fill 16 false } }
  exact ⟨c, _, hq, hg, fun a => tabulate_get _ a, rfl⟩

/-- The pass log and the console as RIG_RESET leaves them for the log of s. -/
structure ResetsLog (s : State) (log : PassLog) (c : Console) : Prop where
  counter : log.counter = s.log.counter
  reference : log.reference = s.log.reference
  age : log.age = s.log.age
  others : ∀ i : PassSlot, s.log.recording ≠ some i → log.slots[i] = s.log.slots[i]
  recording : s.ctrl.pass.isSome = true → log.recording = none
  closed : ∀ (i : PassSlot) (p : PassRec), s.ctrl.pass.isSome = true → s.log.closing = none → s.log.recording = some i →
    s.log.slots[i] = some p →
    log.slots[i] = some (closedPass p .stopped) ∧ log.heldSlot = none ∧ closedReport i p .stopped ∈ c.waiting

theorem ResetsLog.grows {s : State} {log : PassLog} {c d : Console} (h : ResetsLog s log c) (hg : c.Grows d) :
    ResetsLog s log d :=
  { h with
    closed := fun i p h1 h2 h3 h4 => by
      obtain ⟨hs, hh, hm⟩ := h.closed i p h1 h2 h3 h4
      exact ⟨hs, hh, hg.mem hm rfl⟩ }

/-- R90, R154: RIG_RESET closes a pass in progress STOPPED, or as its end has already said. -/
theorem resetLog_spec (s : State) :
    ∃ c log, s.resetLog = { s with console := c, log := log } ∧ s.console.Grows c ∧ ResetsLog s log c := by
  unfold resetLog
  cases hcl : s.log.closing with
  | some outcome =>
    obtain ⟨c, log, h, hg, hl, -⟩ := s.finalizePass_spec outcome
    exact ⟨c, log, h, hg, hl.counter, hl.reference, hl.age, hl.others, fun _ => hl.recording,
      fun _ _ _ h => nomatch hcl.symm.trans h⟩
  | none =>
    cases hp : s.ctrl.pass.isSome with
    | true =>
      obtain ⟨c, log, h, hg, hl, hm⟩ := s.finalizePass_spec .stopped
      refine ⟨c, log, h, hg, hl.counter, hl.reference, hl.age, hl.others, fun _ => hl.recording, fun i p _ _ hr hs => ?_⟩
      obtain ⟨h1, h2⟩ := hm i p hr hs
      exact ⟨h1, hl.heldSlot, h2⟩
    | false =>
      have nopass (h : s.ctrl.pass.isSome = true) : False := by
        rw [hp] at h
        cases h
      exact ⟨_, _, rfl, .refl _, rfl, rfl, rfl, fun _ _ => rfl, fun h => (nopass h).elim, fun _ _ h => (nopass h).elim⟩

theorem reportFaultsIf_spec (s : State) (b : Bool) :
    ∃ c, s.reportFaultsIf b = { s with console := c } ∧ s.console.Grows c := by
  cases b with
  | false => exact ⟨_, rfl, .refl _⟩
  | true => exact ⟨_, rfl, Console.grows_queueFaultReport _⟩

/-- RIG_RESET with its reply: the link's and the log's shares, the blocks' reset values, and the messages. -/
theorem rigReset_spec (s : State) (tag : Byte) :
    ∃ c link log, s.takeRigReset.reply Kind.rigReset tag .ok [] =
        { ({ s with link := link, log := log } : State).resetBlocks with console := c } ∧
      (∀ a : Axis, link.recs[a] = resetLinkRec s.link.recs[a]) ∧ link.queue = [] ∧ ResetsLog s log c ∧
      (dropFrameReports s.console).Grows c ∧ c.waiting.getLast? = some (.reply 0xDF tag [0]) := by
  obtain ⟨c1, link, hlink, hg1, hrecs, hqueue⟩ :=
    ({ s with console := dropFrameReports s.console } : State).resetLink_spec
  obtain ⟨c2, log, hlog, hg2, hresets⟩ := resetLog_spec { s with console := c1, link := link }
  obtain ⟨c3, hfault, hg3⟩ := reportFaultsIf_spec
    ({ s with console := c2, link := link, log := log } : State).resetBlocks (resetChangesFaults s.mon)
  have hreset : ∃ c4, s.takeRigReset = { ({ s with link := link, log := log } : State).resetBlocks with console := c4 } ∧
      c3.Grows c4 := by
    simp only [takeRigReset, hlink, hlog, hfault]
    split
    · exact ⟨c3, rfl, .refl _⟩
    · exact ⟨_, rfl, Console.grows_queueStateReport c3 _ _ _⟩
  obtain ⟨c4, ht, hg4⟩ := hreset
  rw [ht]
  have hg5 : c4.Grows (queueMessage c4 (.reply 0xDF tag [0])) := Console.grows_queueMessage _ rfl
  have hlate := (hg3.trans hg4).trans hg5
  exact ⟨_, link, log, rfl, hrecs, hqueue, { hresets with closed := (hresets.grows hlate).closed }, (hg1.trans hg2).trans hlate,
    Console.getLast?_queueMessage _ _⟩

end State

/-- R196: a pending clear is carried out at once. -/
theorem carryClear_eq (r : RigLine) :
    carryClear r = { r with latch := r.latch && r.pendingClear.isNone, pendingClear := none } := by
  unfold carryClear
  split
  · next h => rw [h]; simp
  · next h => rw [h, Option.isNone_none, Bool.and_true, ← h]

theorem resetMon_setting (m : Mon) (i : CondId) : (resetMon m).settings[i] = m.settings[i] := by simp only [resetMon]

theorem resetMon_inst (m : Mon) (i : CondId) :
    (resetMon m).insts[i] =
      { m.insts[i] with active := false, latched := none, trueRun := 0, falseRun := 0, last := false } :=
  tabulate_get _ i

theorem resetMon_periodCount (m : Mon) : (resetMon m).periodCount = m.periodCount := by simp only [resetMon]

/-- Settles O4: `rigReset_spec`, read block by block. -/
theorem rigResetResult : Obligations.RigResetResult := by
  intro s tag
  refine ⟨?_, fun _ _ => rfl⟩
  obtain ⟨c, link, log, ht, hrecs, hqueue, hlog, hgrows, hlast⟩ := s.rigReset_spec tag
  obtain ⟨hnone, hskipped⟩ := noFrames_dropFrameReports s.console
  obtain ⟨hnoFrames, hskip⟩ := hgrows.noFrames hnone
  have hstand := hgrows.standing
  rw [standing_dropFrameReports] at hstand
  refine ⟨s.takeRigReset.reply Kind.rigReset tag .ok [], rfl, ?_⟩
  rw [ht]
  refine ⟨rfl, rfl, rfl, rfl, rfl, rfl, rfl, rfl, rfl, rfl, rfl, rfl, rfl, rfl, rfl, rfl, rfl, rfl, hrecs, hqueue,
    fun i => ⟨resetMon_setting s.mon i, resetMon_inst s.mon i⟩, fun a => ⟨fill_getElem .., fill_getElem ..⟩,
    resetMon_periodCount s.mon, hlog.counter, hlog.reference, hlog.age,
    hlog.others, hlog.recording, hlog.closed, fun a => ?_, fun l => ?_, rfl, hgrows.inBuf, hgrows.badFrames,
    hgrows.discarded, hgrows.interval, hgrows.mask, hskip.trans hskipped, hnoFrames, hstand, hlast⟩
  · have hgen := tabulate_get (fun a => toIdle s.gen.recs[a]) a
    exact ⟨congrArg GenRec.mode hgen, congrArg GenRec.v hgen, (congrArg GenRec.x hgen :)⟩
  · exact (tabulate_get _ l).trans (carryClear_eq _)

end Sys2Proof.Machine
end

/-! SUPPORT. The path evaluator (R19, R35 to R40): rounding to nearest as a fact about rationals, the segment a move time lies in, the
tangents, and the lens map. -/
section
namespace Sys2Proof.Machine

/-! ### Rounding (R39) -/

theorem isRounded_neg {q : ℚ} {z : Int} (h : IsRounded q z) : IsRounded (-q) (-z) := by
  have hd : |-q - ((-z : Int) : ℚ)| = |q - z| := by
    rw [Int.cast_neg, neg_sub_neg, abs_sub_comm]
  obtain ⟨hle, htie⟩ := h
  refine ⟨hd ▸ hle, fun he => ?_⟩
  rw [Int.cast_neg, abs_neg, abs_neg]
  exact htie (hd ▸ he)

theorem isRounded_roundDiv (n : Int) {d : Nat} (hd : 0 < d) : IsRounded ((n : ℚ) / d) (roundDiv n d) := by
  have nonneg : ∀ n : Int, 0 ≤ n → IsRounded ((n : ℚ) / d) ((2 * n + d) / (2 * d)) := by
    intro n hn
    have hd' : (0 : Int) < 2 * d := by omega
    have h1 := Int.ediv_mul_le (2 * n + d) hd'.ne'
    have h2 := Int.lt_ediv_add_one_mul_self (2 * n + d) hd'
    generalize (2 * n + (d : Int)) / (2 * d) = z at h1 h2
    have hq : (0 : ℚ) < d := by exact_mod_cast hd
    have h1' : ((z * (2 * d) : Int) : ℚ) ≤ ((2 * n + d : Int) : ℚ) := by exact_mod_cast h1
    have h2' : ((2 * n + d : Int) : ℚ) < (((z + 1) * (2 * d) : Int) : ℚ) := by exact_mod_cast h2
    push_cast at h1' h2'
    have hlo : (z : ℚ) - 1 / 2 ≤ (n : ℚ) / d := by
      rw [le_div_iff₀ hq]
      linarith
    have hhi : (n : ℚ) / d < z + 1 / 2 := by
      rw [div_lt_iff₀ hq]
      linarith
    refine ⟨abs_le.mpr ⟨by linarith, by linarith⟩, fun he => ?_⟩
    have h0 : (0 : ℚ) ≤ (n : ℚ) / d := div_nonneg (by exact_mod_cast hn) hq.le
    rcases abs_choice ((n : ℚ) / d - z) with h | h
    · rw [h] at he
      linarith
    · rw [h] at he
      rw [abs_of_nonneg h0, abs_of_nonneg (by linarith)]
      linarith
  unfold roundDiv
  split
  · next h => exact nonneg n h
  · next h =>
    have hneg := isRounded_neg (nonneg (-n) (by omega))
    rwa [Int.cast_neg, neg_div, neg_neg] at hneg

theorem IsRounded.le_of_le {q : ℚ} {z lo : Int} (h : IsRounded q z) (hlo : (lo : ℚ) ≤ q) : lo ≤ z := by
  have := (abs_le.mp h.1).2
  have : ((lo : Int) : ℚ) < ((z + 1 : Int) : ℚ) := by
    push_cast
    linarith
  have : lo < z + 1 := by exact_mod_cast this
  omega

theorem IsRounded.ge_of_ge {q : ℚ} {z hi : Int} (h : IsRounded q z) (hhi : q ≤ (hi : ℚ)) : z ≤ hi := by
  have := (abs_le.mp h.1).1
  have : ((z : Int) : ℚ) < ((hi + 1 : Int) : ℚ) := by
    push_cast
    linarith
  have : z < hi + 1 := by exact_mod_cast this
  omega

theorem IsRounded.eq_of_eq {q : ℚ} {z w : Int} (h : IsRounded q z) (hq : q = w) : z = w :=
  le_antisymm (h.ge_of_ge hq.le) (h.le_of_le hq.ge)

theorem roundDiv_mul (z : Int) {d : Nat} (hd : 0 < d) : roundDiv (z * d) d = z := by
  refine (isRounded_roundDiv (z * d) hd).eq_of_eq ?_
  have : (d : ℚ) ≠ 0 := by exact_mod_cast hd.ne'
  push_cast
  field_simp

theorem fits32_iff {z : Int} : fits32 z = true ↔ -2147483648 ≤ z ∧ z ≤ 2147483647 := by
  simp [fits32, minI32, maxI32]

theorem sat32_of_fits {z : Int} (h : fits32 z = true) : sat32 z = z := by
  rw [fits32_iff] at h
  simp only [sat32, minI32, maxI32]
  omega

theorem roundPosition_whole {z : Int} (h : fits32 z = true) : roundPosition (whole z) = z := by
  have := roundDiv_mul z (d := 1) one_pos
  rw [Nat.cast_one, mul_one] at this
  rw [roundPosition, whole, this, sat32_of_fits h]

/-! ### The segment of a move time (R35) -/

theorem ascending_getElem? {ks : Track} (h : ascending ks = true) {i j : Nat} {x y : Key} (hi : ks[i]? = some x)
    (hj : ks[j]? = some y) (hij : i < j) : x.time < y.time := by
  obtain ⟨_, rfl⟩ := List.getElem?_eq_some_iff.mp hi
  obtain ⟨hlt, rfl⟩ := List.getElem?_eq_some_iff.mp hj
  exact ascending_getElem h hij hlt

theorem ascending_getElem?_le {ks : Track} (h : ascending ks = true) {i j : Nat} {x y : Key} (hi : ks[i]? = some x)
    (hj : ks[j]? = some y) (hij : i ≤ j) : x.time ≤ y.time := by
  rcases Nat.lt_or_eq_of_le hij with hlt | rfl
  · exact (ascending_getElem? h hi hj hlt).le
  · rw [hi] at hj
    cases hj
    exact le_rfl

/-- In a track in order the search finds the one segment the time lies in. -/
theorem findSegment_eq {t : Nat} {a b : Key} (ha : a.time ≤ t) (hb : t < b.time) :
    ∀ (ks : Track) (j start : Nat), ascending ks = true → ks[j]? = some a → ks[j + 1]? = some b →
      findSegment t start ks = some (start + j, a, b)
  | [], j, _, _, h, _ => by simp at h
  | [_], j, _, _, _, h => by simp at h
  | x :: y :: rest, 0, start, _, h1, h2 => by
    cases h1
    cases h2
    rw [findSegment, if_pos hb]
    rfl
  | x :: y :: rest, j + 1, start, hasc, h1, h2 => by
    have hy : y.time ≤ t := (ascending_getElem?_le hasc (i := 1) rfl h1 (by omega)).trans ha
    rw [findSegment, if_neg (by omega)]
    have htail : ascending (y :: rest) = true :=
      ascending_sublist (List.sublist_cons_self x (y :: rest)) hasc
    rw [findSegment_eq ha hb (y :: rest) j (start + 1) htail h1 h2]
    congr 2
    omega

/-- R35 to R38: what stages 2 to 4 give inside segment k of a track, from its keys. -/
def segmentPosition (ks : Track) (k t : Nat) (a b : Key) : TrackPosition :=
  { found := .segment k, frac := some (fraction t a.time b.time)
    tangents := match a.segment with
      | .smooth => some (outTangent ks k, inTangent ks (k + 1))
      | _ => none
    exact := match a.segment with
      | .step => whole a.value
      | .linear => linearPosition (fraction t a.time b.time) a.value b.value
      | .smooth =>
        smoothPosition (fraction t a.time b.time) (b.time - a.time) a.value b.value (outTangent ks k) (inTangent ks (k + 1)) }

section
variable {ks : Track} {k t : Nat} {a b : Key}

theorem trackPosition_segment (hasc : ascending ks = true) (ha : ks[k]? = some a) (hb : ks[k + 1]? = some b)
    (hat : a.time ≤ t) (hbt : t < b.time) : trackPosition ks t = segmentPosition ks k t a b := by
  obtain ⟨hlt, -⟩ := List.getElem?_eq_some_iff.mp hb
  obtain ⟨first, hfirst⟩ : ∃ first, ks[0]? = some first := ⟨ks[0], List.getElem?_eq_getElem (by omega)⟩
  obtain ⟨last, hlast⟩ : ∃ last, ks[ks.length - 1]? = some last := ⟨ks[ks.length - 1], List.getElem?_eq_getElem (by omega)⟩
  have h1 := ascending_getElem?_le hasc hfirst ha (Nat.zero_le k)
  have h2 := ascending_getElem?_le hasc hb hlast (by omega)
  have hseg := findSegment_eq hat hbt ks k 0 hasc ha hb
  rw [Nat.zero_add] at hseg
  unfold trackPosition segmentPosition
  rw [List.head?_eq_getElem?, List.getLast?_eq_getElem?, hfirst, hlast]
  simp only [hseg]
  rw [if_neg (by omega), if_neg (by omega)]
  cases a.segment <;> rfl

theorem trackPosition_beforeFirst {first last : Key} (hf : ks.head? = some first) (hl : ks.getLast? = some last)
    (ht : t < first.time) :
    trackPosition ks t = { found := .beforeFirst, frac := none, tangents := none, exact := whole first.value } := by
  simp only [trackPosition, hf, hl, if_pos ht]

theorem trackPosition_afterLast {first last : Key} (hf : ks.head? = some first) (hl : ks.getLast? = some last)
    (ht : first.time ≤ t) (ht' : last.time ≤ t) :
    trackPosition ks t = { found := .afterLast, frac := none, tangents := none, exact := whole last.value } := by
  simp only [trackPosition, hf, hl, if_neg (Nat.not_lt.mpr ht), if_pos ht']

/-- R37: the linear form. -/
theorem isRounded_linear (u : Nat) (p0 p1 : Int) :
    IsRounded (p0 + u / 65536 * (p1 - p0)) (roundDiv (linearPosition u p0 p1).num (linearPosition u p0 p1).den) := by
  have h := isRounded_roundDiv (linearPosition u p0 p1).num (d := (linearPosition u p0 p1).den)
    (show 0 < 65536 by decide)
  convert h using 1
  simp only [linearPosition]
  push_cast
  ring

/-- R37: the cubic Hermite form. -/
theorem isRounded_smooth (u dt : Nat) (p0 p1 m0 m1 : Int) {x l : ℚ} (hx : x = u / 65536) (hl : l = dt / 65536) :
    IsRounded
      ((2 * x ^ 3 - 3 * x ^ 2 + 1) * p0 + (x ^ 3 - 2 * x ^ 2 + x) * l * (m0 / 65536) + (-2 * x ^ 3 + 3 * x ^ 2) * p1 +
        (x ^ 3 - x ^ 2) * l * (m1 / 65536))
      (roundDiv (smoothPosition u dt p0 p1 m0 m1).num (smoothPosition u dt p0 p1 m0 m1).den) := by
  have h := isRounded_roundDiv (smoothPosition u dt p0 p1 m0 m1).num (d := (smoothPosition u dt p0 p1 m0 m1).den)
    (show 0 < 281474976710656 * 4294967296 by decide)
  convert h using 1
  simp only [smoothPosition, hx, hl]
  push_cast
  ring

/-- R38: the path passes through a key that another follows. -/
theorem roundPosition_atKey (hv : fits32 a.value = true) :
    roundPosition (segmentPosition ks k a.time a b).exact = a.value := by
  have hu : fraction a.time a.time b.time = 0 := by simp [fraction]
  unfold segmentPosition
  simp only [hu]
  cases a.segment with
  | step => exact roundPosition_whole hv
  | linear =>
    rw [roundPosition, (isRounded_linear 0 a.value b.value).eq_of_eq (w := a.value) (by simp), sat32_of_fits hv]
  | smooth =>
    have hround := isRounded_smooth 0 (b.time - a.time) a.value b.value (outTangent ks k) (inTangent ks (k + 1)) rfl rfl
    rw [roundPosition, hround.eq_of_eq (w := a.value) (by simp), sat32_of_fits hv]

/-! ### Tangents (R19) -/

theorem isSlope_slopeTangent (h : a.time < b.time) : IsSlope a b (slopeTangent (b.value - a.value) (b.time - a.time)) := by
  refine ⟨_, ?_, rfl⟩
  have hr := isRounded_roundDiv ((b.value - a.value) * 4294967296) (d := b.time - a.time) (by omega)
  convert hr using 1
  push_cast [Nat.cast_sub h.le]
  ring

theorem autoTangent_first (ha : ks[0]? = some a) (hb : ks[1]? = some b) :
    autoTangent ks 0 = slopeTangent (b.value - a.value) (b.time - a.time) := by
  simp only [autoTangent, if_true, ha, Nat.zero_add, hb]

theorem autoTangent_last (ha : ks[k]? = some a) (hb : ks[k + 1]? = some b) (hn : ks[k + 2]? = none) :
    autoTangent ks (k + 1) = slopeTangent (b.value - a.value) (b.time - a.time) := by
  simp only [autoTangent, Nat.succ_ne_zero, if_false, Nat.add_sub_cancel, ha, hb, hn]

theorem autoTangent_inner {c : Key} (ha : ks[k]? = some a) (hb : ks[k + 1]? = some b) (hc : ks[k + 2]? = some c) :
    autoTangent ks (k + 1) =
      if sameSense (b.value - a.value) (c.value - b.value) = true then
        slopeTangent (c.value - a.value) (c.time - a.time)
      else 0 := by
  simp only [autoTangent, Nat.succ_ne_zero, if_false, Nat.add_sub_cancel, ha, hb, hc]

theorem sameSense_iff {c : Key} : sameSense (b.value - a.value) (c.value - b.value) = true ↔
    (a.value < b.value ∧ b.value < c.value) ∨ (b.value < a.value ∧ c.value < b.value) := by
  simp [sameSense]

end

/-! ### The lens map (R40) -/

section
variable {x : Int} {es : LensMap}

theorem isRounded_mapBetween {a b : Int × Int} (h : a.1 < b.1) :
    IsRounded (a.2 + (x - a.1) * (b.2 - a.2) / (b.1 - a.1)) (mapBetween x a b) := by
  have hd : 0 < (b.1 - a.1).toNat := by omega
  have hr := isRounded_roundDiv (a.2 * (b.1 - a.1) + (x - a.1) * (b.2 - a.2)) hd
  have hcast : (((b.1 - a.1).toNat : Nat) : ℚ) = b.1 - a.1 := by
    have : (((b.1 - a.1).toNat : Nat) : Int) = b.1 - a.1 := by omega
    exact_mod_cast congrArg (Int.cast : Int → ℚ) this
  have hne : (b.1 - a.1 : ℚ) ≠ 0 := by
    have : (a.1 : ℚ) < b.1 := by exact_mod_cast h
    linarith
  rw [hcast] at hr
  have hq : (a.2 + (x - a.1) * (b.2 - a.2) / (b.1 - a.1) : ℚ) =
      ((a.2 * (b.1 - a.1) + (x - a.1) * (b.2 - a.2) : Int) : ℚ) / (b.1 - a.1) := by
    push_cast
    field_simp
  rw [hq]
  exact hr

theorem mapThrough_below {e : Int × Int} (he : es.head? = some e) (hx : x ≤ e.1) : mapThrough x es = e.2 := by
  match es with
  | [] => cases he
  | [a] =>
    cases he
    rfl
  | a :: b :: rest =>
    cases he
    rw [mapThrough, if_pos hx]

theorem risingInputs_tail {a b : Int × Int} {rest : LensMap} (h : risingInputs (a :: b :: rest) = true) :
    a.1 < b.1 ∧ risingInputs (b :: rest) = true := by
  simpa [risingInputs] using h

/-- Beyond its second input a rising map reads as its tail does. -/
theorem mapThrough_tail {a b : Int × Int} {rest : LensMap} (h : a.1 < b.1) (hx : b.1 ≤ x) :
    mapThrough x (a :: b :: rest) = mapThrough x (b :: rest) := by
  rw [mapThrough, if_neg (by omega), if_neg (by omega)]

theorem risingInputs_head_le {a : Int × Int} {rest : LensMap} (h : risingInputs (a :: rest) = true) :
    ∀ e ∈ a :: rest, a.1 ≤ e.1 := by
  induction rest generalizing a with
  | nil => simp
  | cons b rest ih =>
    obtain ⟨hab, htail⟩ := risingInputs_tail h
    intro e he
    rcases List.mem_cons.mp he with rfl | he
    · exact le_rfl
    · exact hab.le.trans (ih htail e he)

theorem mapThrough_above (h : risingInputs es = true) {e : Int × Int} (he : es.getLast? = some e) (hx : e.1 ≤ x) :
    mapThrough x es = e.2 := by
  induction es with
  | nil => cases he
  | cons a rest ih =>
    cases rest with
    | nil =>
      cases he
      rfl
    | cons b rest =>
      obtain ⟨hab, htail⟩ := risingInputs_tail h
      have hlast : (b :: rest).getLast? = some e := by simpa using he
      have hb := risingInputs_head_le htail e (List.mem_of_getLast? hlast)
      rw [mapThrough_tail hab (hb.trans hx), ih htail hlast]

theorem mapThrough_input (h : risingInputs es = true) {y : Int} (hm : (x, y) ∈ es) : mapThrough x es = y := by
  induction es with
  | nil => cases hm
  | cons a rest ih =>
    rcases List.mem_cons.mp hm with rfl | hm
    · exact mapThrough_below (es := (x, y) :: rest) rfl le_rfl
    · cases rest with
      | nil => cases hm
      | cons b rest =>
        obtain ⟨hab, htail⟩ := risingInputs_tail h
        rw [mapThrough_tail hab (risingInputs_head_le htail _ hm), ih htail hm]

theorem mapThrough_between (h : risingInputs es = true) {j : Nat} {e f : Int × Int} (he : es[j]? = some e)
    (hf : es[j + 1]? = some f) (hx : e.1 < x) (hx' : x < f.1) : mapThrough x es = mapBetween x e f := by
  induction es generalizing j with
  | nil => cases he
  | cons a rest ih =>
    cases rest with
    | nil => cases hf
    | cons b rest =>
      obtain ⟨hab, htail⟩ := risingInputs_tail h
      cases j with
      | zero =>
        cases he
        cases hf
        rw [mapThrough, if_neg (by omega), if_pos hx']
      | succ j =>
        have hb := risingInputs_head_le htail e (List.mem_of_getElem? he)
        rw [mapThrough_tail hab (hb.trans hx.le), ih htail he hf]

end

/-- R34: an axis with no track keeps the held value, and so its setpoint, inside its soft limits. -/
theorem evaluateTrack_held (r : AxisRec) (m : Option LensMap) (t : Nat) {setpoint : Int} (hfit : fits32 setpoint = true)
    (hlo : r.softMin ≤ setpoint) (hhi : setpoint ≤ r.softMax) :
    (evaluateTrack r m none t (setpoint - r.origin)).setpoint = setpoint := by
  simp only [evaluateTrack, finishPosition, Int.sub_add_cancel, sat32_of_fits hfit, softClamp]
  omega

/-- R37: a LINEAR segment stays between its keys. -/
theorem linear_between {u : Nat} {p0 p1 : Int} (hu : u ≤ 65535) (h0 : fits32 p0 = true) (h1 : fits32 p1 = true) :
    min p0 p1 ≤ roundPosition (linearPosition u p0 p1) ∧ roundPosition (linearPosition u p0 p1) ≤ max p0 p1 := by
  have hr := isRounded_linear u p0 p1
  have hu0 : (0 : ℚ) ≤ u / 65536 := by positivity
  have hu1 : (u : ℚ) / 65536 ≤ 1 := by
    rw [div_le_one (by norm_num)]
    exact_mod_cast hu.trans (by decide)
  have hlo : ((min p0 p1 : Int) : ℚ) ≤ p0 + u / 65536 * (p1 - p0) := by
    have := min_le_left (p0 : ℚ) p1
    have := min_le_right (p0 : ℚ) p1
    push_cast
    nlinarith
  have hhi : (p0 + u / 65536 * (p1 - p0) : ℚ) ≤ ((max p0 p1 : Int) : ℚ) := by
    have := le_max_left (p0 : ℚ) p1
    have := le_max_right (p0 : ℚ) p1
    push_cast
    nlinarith
  have hz0 := hr.le_of_le hlo
  have hz1 := hr.ge_of_ge hhi
  rw [fits32_iff] at h0 h1
  rw [roundPosition, sat32_of_fits (fits32_iff.mpr ⟨by omega, by omega⟩)]
  exact ⟨hz0, hz1⟩

/-- Settles O14. -/
theorem thePathPassesThroughItsKeys : Obligations.ThePathPassesThroughItsKeys := by
  refine ⟨fun ks n k hasc hk hv => ?_, fun ks first last t hf hl => ⟨fun h => trackPosition_beforeFirst hf hl h,
    fun h h' => trackPosition_afterLast hf hl h h'⟩, fun ks k t a b hasc ha hb hat hbt => ?_, fun ks k key hk => ?_,
    fun ks k a b c hasc ha hb => ?_, fun key => rfl, fun u p0 p1 hu h0 h1 => linear_between hu h0 h1,
    fun es x hes => ?_, fun _ _ _ _ _ => ⟨rfl, rfl⟩, fun r m t setpoint => evaluateTrack_held r m t⟩
  · obtain ⟨hlt, -⟩ := List.getElem?_eq_some_iff.mp hk
    cases hnext : ks[n + 1]? with
    | some b =>
      rw [trackPosition_segment hasc hk hnext le_rfl (ascending_getElem? hasc hk hnext (Nat.lt_succ_self n))]
      exact roundPosition_atKey hv
    | none =>
      have hlen := List.getElem?_eq_none_iff.mp hnext
      have hfirst : ks[0]? = some ks[0] := List.getElem?_eq_getElem (by omega)
      have hlast : ks.getLast? = some k := by rw [List.getLast?_eq_getElem?, show ks.length - 1 = n by omega, hk]
      rw [trackPosition_afterLast (List.head?_eq_getElem?.trans hfirst) hlast
        (ascending_getElem?_le hasc hfirst hk (Nat.zero_le n)) le_rfl]
      exact roundPosition_whole hv
  · have hab := hat.trans hbt.le
    have hl : (b.time - a.time : ℚ) / 65536 = ((b.time - a.time : Nat) : ℚ) / 65536 := by rw [Nat.cast_sub hab]
    rw [trackPosition_segment hasc ha hb hat hbt]
    refine ⟨_, roundDiv (segmentPosition ks k t a b).exact.num (segmentPosition ks k t a b).exact.den, _, _, rfl, rfl, rfl, rfl,
      rfl, rfl, fun hs => ?_, fun hs => ?_, fun hs => ?_⟩
    · simp only [segmentPosition, hs, whole, true_and]
      simpa using roundDiv_mul a.value (d := 1) one_pos
    · simp only [segmentPosition, hs, true_and]
      exact isRounded_linear _ a.value b.value
    · refine ⟨outTangent ks k, inTangent ks (k + 1), ?_, rfl, rfl, ?_⟩
      · simp only [segmentPosition, hs]
      · simp only [segmentPosition, hs]
        exact isRounded_smooth _ (b.time - a.time) a.value b.value _ _ rfl hl
  · refine ⟨fun i o h => ?_, fun h => ?_⟩ <;> simp only [inTangent, outTangent, hk, h, and_self]
  · have hab := ascending_getElem? hasc ha hb (Nat.lt_succ_self k)
    refine ⟨fun h0 => ?_, fun hn => ?_, fun hc => ?_⟩
    · subst h0
      rw [autoTangent_first ha hb]
      exact isSlope_slopeTangent hab
    · rw [autoTangent_last ha hb hn]
      exact isSlope_slopeTangent hab
    · rw [autoTangent_inner ha hb hc]
      split
      · next h =>
        rw [if_pos (sameSense_iff.mpr h)]
        exact isSlope_slopeTangent (ascending_getElem? hasc ha hc (by omega))
      · next h => rw [if_neg (mt sameSense_iff.mp h)]
  · exact ⟨fun e he hx => mapThrough_below he hx.le, fun e he hx => mapThrough_above hes he hx.le,
      fun y hy => mapThrough_input hes hy,
      fun j e f he hf hx hx' => by
        rw [mapPosition, mapThrough_between hes he hf hx hx']
        exact isRounded_mapBetween (hx.trans hx'), rfl⟩

end Sys2Proof.Machine
end

/-! SUPPORT. What the release of detached axes, the end of a pass and a drive turned off change of a state, and what they leave (R80, R115,
R119, R137, R141, R154). -/
section
namespace Sys2Proof.Machine

variable {s t u : State}

/-! ### Releases and fault reports -/

/-- From s to t detached axes may have been released and the fault set reported: nothing else changes, and an axis that was not
detached keeps its generator record. -/
structure SettlesFaults (s t : State) : Prop where
  ctrl : t.ctrl = s.ctrl
  clock : t.clock = s.clock
  store : t.store = s.store
  log : t.log = s.log
  check : t.check = s.check
  link : t.link = s.link
  axes : t.axes = s.axes
  wheels : t.wheels = s.wheels
  lines : t.lines = s.lines
  grows : s.console.Grows t.console
  base : t.gen.captureBase = s.gen.captureBase
  attached : ∀ a : Axis, s.mon.detached[a] = [] → t.gen.recs[a] = s.gen.recs[a] ∧ t.mon.detached[a] = []

namespace SettlesFaults

/-- A change of the console, the generator's records and the detached sets alone. -/
theorem of_eq {c : Console} {recs : Vector GenRec 16} {det : Vector (List CondId) 16}
    (ht : t = { s with
      console := c, gen := { s.gen with recs := recs }, mon := { s.mon with detached := det } })
    (hg : s.console.Grows c)
    (ha : ∀ a : Axis, s.mon.detached[a] = [] → recs[a] = s.gen.recs[a] ∧ det[a] = []) : SettlesFaults s t := by
  subst ht
  exact ⟨rfl, rfl, rfl, rfl, rfl, rfl, rfl, rfl, rfl, hg, rfl, ha⟩

theorem refl (s : State) : SettlesFaults s s := of_eq rfl (.refl _) fun _ h => ⟨rfl, h⟩

theorem trans (h : SettlesFaults s t) (h' : SettlesFaults t u) : SettlesFaults s u where
  ctrl := h'.ctrl.trans h.ctrl
  clock := h'.clock.trans h.clock
  store := h'.store.trans h.store
  log := h'.log.trans h.log
  check := h'.check.trans h.check
  link := h'.link.trans h.link
  axes := h'.axes.trans h.axes
  wheels := h'.wheels.trans h.wheels
  lines := h'.lines.trans h.lines
  grows := h.grows.trans h'.grows
  base := h'.base.trans h.base
  attached a ha := by
    obtain ⟨hg, hd⟩ := h.attached a ha
    obtain ⟨hg', hd'⟩ := h'.attached a hd
    exact ⟨hg'.trans hg, hd'⟩

end SettlesFaults

theorem isDetached_iff {a : Axis} : s.isDetached a = true ↔ s.mon.detached[a] ≠ [] := by
  rw [State.isDetached, Bool.not_eq_true', List.isEmpty_eq_false_iff]

theorem isDetached_false {a : Axis} (h : s.mon.detached[a] = []) : s.isDetached a = false := by
  rw [State.isDetached, h]
  rfl

theorem releaseAxis_settles (s : State) (a : Axis) : SettlesFaults s (s.releaseAxis a) := by
  unfold State.releaseAxis
  split
  · next h =>
    have hdet : s.mon.detached[a] ≠ [] := isDetached_iff.mp (by
      simp only [State.releasable, Bool.and_eq_true] at h
      exact h.1.1.1)
    refine .of_eq rfl (.refl _) fun b hb => ?_
    have hne : a ≠ b := fun heq => hdet (heq ▸ hb)
    exact ⟨put_get_other _ _ hne, (put_get_other _ _ hne).trans hb⟩
  · exact .refl s

theorem releaseAll_settles (s : State) : SettlesFaults s s.releaseAll := by
  have fold : ∀ (as : List Axis) (s : State), SettlesFaults s (as.foldl State.releaseAxis s) := by
    intro as
    induction as with
    | nil => exact SettlesFaults.refl
    | cons a as ih => exact fun s => (releaseAxis_settles s a).trans (ih _)
  exact fold allAxes s

theorem reportFaultsIf_settles (s : State) (b : Bool) : SettlesFaults s (s.reportFaultsIf b) := by
  obtain ⟨c, hc, hg⟩ := s.reportFaultsIf_spec b
  rw [hc]
  exact .of_eq rfl hg fun _ h => ⟨rfl, h⟩

theorem settleFaults_settles (s : State) (b : Bool) : SettlesFaults s (s.settleFaults b) :=
  (releaseAll_settles s).trans (reportFaultsIf_settles _ _)

/-- R142: a change of the fault set is reported. -/
theorem fault_mem_settleFaults (s : State) : .fault ∈ (s.settleFaults true).console.waiting := by
  simp only [State.settleFaults, Bool.true_or, State.reportFaultsIf, if_true, State.reportFaults]
  exact Console.fault_mem_queueFaultReport s.releaseAll.console

theorem passOut_detached (m : Mon) (ids : List CondId) : (passOut m ids).detached = m.detached := by simp only [passOut]

/-! ### The end of a pass (R80, R154) -/

theorem closePass_spec (s : State) (outcome : PassOutcome) :
    ∃ c log, s.closePass outcome = { s with console := c, log := log } ∧ s.console.Grows c ∧
      PassCloses s (s.closePass outcome) outcome := by
  unfold State.closePass
  split
  · next hc =>
    refine ⟨_, _, rfl, .refl _, fun i p _ _ => ⟨fun h => ?_, fun _ => rfl⟩⟩
    rw [h] at hc
    cases hc
  · next hc =>
    obtain ⟨c, log, h, hg, hl, hm⟩ := s.finalizePass_spec outcome
    refine ⟨c, log, h, hg, fun i p hr hs => ⟨fun _ => ?_, fun h => absurd h hc⟩⟩
    rw [h]
    obtain ⟨h1, h2⟩ := hm i p hr hs
    exact ⟨h1, hl.recording, hl.heldSlot, h2⟩

/-- What follows a closing leaves it, while it keeps the log and the messages that stand. -/
theorem PassCloses.later {outcome : PassOutcome} (h : PassCloses s t outcome) (hl : u.log = t.log)
    (hg : t.console.Grows u.console) : PassCloses s u outcome := by
  intro i p hr hs
  obtain ⟨h1, h2⟩ := h i p hr hs
  rw [hl]
  refine ⟨fun hc => ?_, h2⟩
  obtain ⟨hslot, hrec, hheld, hm⟩ := h1 hc
  exact ⟨hslot, hrec, hheld, hg.mem hm rfl⟩

/-- A closing depends on the log it begins from alone. -/
theorem PassCloses.of_log {outcome : PassOutcome} (h : PassCloses s t outcome) (hl : s.log = u.log) :
    PassCloses u t outcome := by
  intro i p hr hs
  rw [← hl] at hr hs ⊢
  exact h i p hr hs

/-- R177: a generator record at the end of a pass of a kind. -/
def endedGen (kind : PassKind) (g : GenRec) : GenRec :=
  match kind with
  | .play => g
  | .capture => if usesPathLimits g then toIdle g else g

/-- R80: the run controller's record at the end of a pass. -/
def endedCtrl (c : Ctrl) : Ctrl :=
  { c with entry := 0, pass := none, landing := false, armSetpoints := none, prerollTargets := none, ret := none }

/-- From s to t a pass of a kind has ended with an outcome. -/
structure EndsPass (s t : State) (kind : PassKind) (outcome : PassOutcome) : Prop where
  ctrl : t.ctrl = endedCtrl s.ctrl
  clock : t.clock = stopClock s.clock
  store : t.store = endStore kind (!(outcome = .faulted)) s.store
  check : t.check = s.check
  link : t.link = s.link
  axes : t.axes = s.axes
  wheels : t.wheels = s.wheels
  lines : t.lines = s.lines
  grows : s.console.Grows t.console
  closes : PassCloses s t outcome
  base : kind = .capture → t.gen.captureBase = []
  attached : ∀ a : Axis, s.mon.detached[a] = [] →
    t.gen.recs[a] = endedGen kind s.gen.recs[a] ∧ t.mon.detached[a] = []

/-- R177: the end of capture, record by record. -/
theorem genEndCapture_rec (s : State) (a : Axis) : s.genEndCapture.gen.recs[a] = endedGen .capture s.gen.recs[a] :=
  tabulate_get _ a

theorem passOutConds_settles (s : State) (ids : List CondId) :
    SettlesFaults { s with mon := passOut s.mon ids } (s.passOutConds ids) :=
  settleFaults_settles _ _

/-- R80, stages 2 to 4, and the instances that pass out of evaluation, before the release is tested. -/
def passEnded (s : State) (kind : PassKind) (keep : Bool) : State :=
  let s1 := s.endCapture kind keep
  let s2 := ({ s1 with clock := stopClock s1.clock } : State).clearPass
  { s2 with mon := passOut s2.mon passEndConds }

theorem endPassAfterLog_settles (s : State) (kind : PassKind) (keep : Bool) :
    SettlesFaults (passEnded s kind keep) (s.endPassAfterLog kind keep) := passOutConds_settles _ _

/-- What stages 2 to 4 change, and what they leave. -/
structure PassEnded (s t : State) (kind : PassKind) (keep : Bool) : Prop where
  ctrl : t.ctrl = endedCtrl s.ctrl
  clock : t.clock = stopClock s.clock
  store : t.store = endStore kind keep s.store
  check : t.check = s.check
  link : t.link = s.link
  axes : t.axes = s.axes
  wheels : t.wheels = s.wheels
  lines : t.lines = s.lines
  log : t.log = s.log
  console : t.console = s.console
  base : kind = .capture → t.gen.captureBase = []
  recs : ∀ a : Axis, t.gen.recs[a] = endedGen kind s.gen.recs[a]
  detached : t.mon.detached = s.mon.detached

theorem passEnded_spec (s : State) (kind : PassKind) (keep : Bool) : PassEnded s (passEnded s kind keep) kind keep := by
  cases kind with
  | play =>
    exact ⟨rfl, rfl, rfl, rfl, rfl, rfl, rfl, rfl, rfl, rfl, fun h => (nomatch h), fun _ => rfl, passOut_detached ..⟩
  | capture =>
    have hgen : (passEnded s .capture keep).gen = s.genEndCapture.gen := by simp [passEnded, State.endCapture]
    have hmon : (passEnded s .capture keep).mon = passOut s.mon passEndConds := by simp [passEnded, State.endCapture]
    refine ⟨?_, ?_, ?_, ?_, ?_, ?_, ?_, ?_, ?_, ?_, fun _ => by rw [hgen]; rfl, fun a => by rw [hgen]; exact genEndCapture_rec s a,
      by rw [hmon, passOut_detached]⟩ <;> simp [passEnded, State.endCapture, endedCtrl, endStore]

theorem endPass_ends (s : State) {kind : PassKind} (outcome : PassOutcome) (hk : s.ctrl.pass = some kind) :
    EndsPass s (s.endPass outcome) kind outcome := by
  obtain ⟨c, log, hclose, hg, hcl⟩ := closePass_spec s outcome
  simp only [State.endPass, hk]
  rw [hclose] at hcl ⊢
  have hs := endPassAfterLog_settles { s with console := c, log := log } kind (!(outcome = .faulted))
  have he := passEnded_spec { s with console := c, log := log } kind (!(outcome = .faulted))
  generalize State.endPassAfterLog _ kind _ = t at hs ⊢
  generalize passEnded _ kind _ = u at hs he
  have hgrows : c.Grows t.console := by
    have := hs.grows
    rwa [he.console] at this
  refine ⟨hs.ctrl.trans he.ctrl, hs.clock.trans he.clock, hs.store.trans he.store, hs.check.trans he.check,
    hs.link.trans he.link, hs.axes.trans he.axes, hs.wheels.trans he.wheels, hs.lines.trans he.lines, hg.trans hgrows,
    hcl.later (hs.log.trans he.log) hgrows, fun h => hs.base.trans (he.base h), fun a ha => ?_⟩
  obtain ⟨hgen, hdet⟩ := hs.attached a (by rw [he.detached]; exact ha)
  exact ⟨hgen.trans (he.recs a), hdet⟩

end Sys2Proof.Machine
end

/-! SUPPORT. The actions that stop a run (R86, R88): a PATH_STOP by the controller's state, a DRIVE_OFF, and the evaluation of an enable
timeout that latches (R132, R139). -/
section
namespace Sys2Proof.Machine

variable {s t u : State}

/-! ### What no action touches -/

/-- The axis table, the wheels and the lines. -/
def State.fittings (s : State) : AxisTable × Wheels × Lines := (s.axes, s.wheels, s.lines)

theorem fittings_congr (ha : t.axes = s.axes) (hw : t.wheels = s.wheels) (hl : t.lines = s.lines) :
    t.fittings = s.fittings := by simp only [State.fittings, ha, hw, hl]

theorem fittings_eq (h : t.fittings = s.fittings) : t.axes = s.axes ∧ t.wheels = s.wheels ∧ t.lines = s.lines := by
  simpa only [State.fittings, Prod.mk.injEq] using h

namespace State

@[simp] theorem enter_fittings (st : CtrlState) : (s.enter st).fittings = s.fittings := rfl

@[simp] theorem enterStop_fittings (st : CtrlState) (form : StopForm) : (s.enterStop st form).fittings = s.fittings := rfl

@[simp] theorem withCtrl_fittings (st : CtrlState) (form : Option StopForm) :
    (s.withCtrl st form).fittings = s.fittings := rfl

@[simp] theorem reportState_fittings : s.reportState.fittings = s.fittings := rfl

@[simp] theorem discardArm_fittings : s.discardArm.fittings = s.fittings := rfl

@[simp] theorem genRestAll_fittings : s.genRestAll.fittings = s.fittings := fittings_congr (by simp) (by simp) (by simp)

@[simp] theorem genEndFollowing_fittings : s.genEndFollowing.fittings = s.fittings :=
  fittings_congr (by simp) (by simp) (by simp)

@[simp] theorem genDropAll_fittings : s.genDropAll.fittings = s.fittings := fittings_congr (by simp) (by simp) (by simp)

@[simp] theorem with_clock_fittings (c : Clock) : ({ s with clock := c } : State).fittings = s.fittings := rfl

@[simp] theorem with_ctrl_fittings (c : Ctrl) : ({ s with ctrl := c } : State).fittings = s.fittings := rfl

@[simp] theorem with_mon_fittings (m : Mon) : ({ s with mon := m } : State).fittings = s.fittings := rfl

@[simp] theorem with_link_fittings (l : Link) : ({ s with link := l } : State).fittings = s.fittings := rfl

end State

theorem SettlesFaults.fittings (h : SettlesFaults s t) : t.fittings = s.fittings := by
  simp only [State.fittings, h.axes, h.wheels, h.lines]

@[simp] theorem settleFaults_fittings (s : State) (b : Bool) : (s.settleFaults b).fittings = s.fittings :=
  (settleFaults_settles s b).fittings

theorem EndsPass.fittings {kind : PassKind} {o : PassOutcome} (h : EndsPass s t kind o) : t.fittings = s.fittings := by
  simp only [State.fittings, h.axes, h.wheels, h.lines]

@[simp] theorem endPass_fittings (s : State) (o : PassOutcome) : (s.endPass o).fittings = s.fittings := by
  cases hk : s.ctrl.pass with
  | none => simp only [State.endPass, hk]
  | some kind => exact (endPass_ends s o hk).fittings

theorem cancelCheck_spec (s : State) :
    ∃ c check n, s.cancelCheck = { s with console := c, check := check, openReads := n } ∧ s.console.Grows c ∧
      check.progress = none ∧
      ∀ p, s.check.progress = some p → ∃ r, check.record = some r ∧ r.outcome = .cancelled := by
  cases hp : s.check.progress with
  | none =>
    refine ⟨s.console, s.check, s.openReads, ?_, .refl _, hp, fun _ h => (nomatch h)⟩
    simp only [State.cancelCheck, State.advanceWalk, hp]
  | some p =>
    simp only [State.cancelCheck, State.advanceWalk, hp]
    exact ⟨_, _, _, rfl, Console.grows_queueMessage _ rfl, rfl, fun _ _ => ⟨_, rfl, rfl⟩⟩

@[simp] theorem cancelCheck_fittings (s : State) : s.cancelCheck.fittings = s.fittings := by
  obtain ⟨c, check, n, h, -⟩ := cancelCheck_spec s
  rw [h]
  rfl

@[simp] theorem takeAtRest_fittings (s : State) : s.takeAtRest.fittings = s.fittings := by
  unfold State.takeAtRest
  split
  · rfl
  all_goals simp

@[simp] theorem atRestIfStill_fittings (s : State) : s.atRestIfStill.fittings = s.fittings := by
  unfold State.atRestIfStill
  split
  · exact takeAtRest_fittings s
  · rfl

@[simp] theorem faultRampStop_fittings (s : State) : s.faultRampStop.fittings = s.fittings := by
  simp [State.faultRampStop]

theorem pathStop_fittings (s : State) : s.pathStop.fittings = s.fittings := by
  unfold State.pathStop
  split
  case h_5 => split <;> simp
  case h_10 => split <;> simp
  case h_11 => split <;> simp
  all_goals simp

/-! ### Drives turned off (R115, R119) -/

/-- From s to t drives have been turned OFF, every axis of a list among them, with what goes with each axis. -/
structure TurnsOff (as : List Axis) (s t : State) : Prop where
  ctrl : t.ctrl = s.ctrl
  clock : t.clock = s.clock
  store : t.store = s.store
  log : t.log = s.log
  check : t.check = s.check
  fittings : t.fittings = s.fittings
  console : t.console = s.console
  queue : t.link.queue = s.link.queue
  drives : ∀ b : Axis, b ∈ as ∨ s.driveOf b = .off → t.driveOf b = .off
  detached : t.mon.detached = s.mon.detached
  idle : ∀ b : Axis, (s.gen.recs[b]).mode = .idle → (t.gen.recs[b]).mode = .idle

theorem TurnsOff.refl (s : State) : TurnsOff [] s s :=
  ⟨rfl, rfl, rfl, rfl, rfl, rfl, rfl, rfl, fun _ h => h.resolve_left List.not_mem_nil, rfl, fun _ h => h⟩

theorem TurnsOff.trans {as bs : List Axis} (h : TurnsOff as s t) (h' : TurnsOff bs t u) : TurnsOff (as ++ bs) s u where
  ctrl := h'.ctrl.trans h.ctrl
  clock := h'.clock.trans h.clock
  store := h'.store.trans h.store
  log := h'.log.trans h.log
  check := h'.check.trans h.check
  fittings := h'.fittings.trans h.fittings
  console := h'.console.trans h.console
  queue := h'.queue.trans h.queue
  drives b hb := by
    rw [List.mem_append, or_assoc] at hb
    rcases hb with hb | hb | hb
    · exact h'.drives b (.inr (h.drives b (.inl hb)))
    · exact h'.drives b (.inl hb)
    · exact h'.drives b (.inr (h.drives b (.inr hb)))
  detached := h'.detached.trans h.detached
  idle b hb := h'.idle b (h.idle b hb)

theorem setLinkRec_driveOf (s : State) (a b : Axis) (l : LinkRec) :
    (s.setLinkRec a l).driveOf b = if a = b then l.drive else s.driveOf b := by
  have h : (s.setLinkRec a l).driveOf b = (if a = b then l else s.link.recs[b]).drive := by
    simp only [State.driveOf, State.setLinkRec, put_get]
  rw [h]
  split <;> rfl

theorem setLinkRec_turnsOff (s : State) (a : Axis) : TurnsOff [a] s (s.setLinkRec a (offRec s.link.recs[a])) := by
  refine ⟨rfl, rfl, rfl, rfl, rfl, rfl, rfl, rfl, fun b hb => ?_, rfl, fun _ h => h⟩
  rw [setLinkRec_driveOf]
  split
  · rfl
  · next hne => exact hb.resolve_left fun hm => hne (List.mem_singleton.mp hm).symm

/-- R163: an axis whose drive leaves ON is IDLE, but in HALT. -/
theorem genDriveLeft_turnsOff (s : State) (a : Axis) : TurnsOff [] s (s.genDriveLeft a) := by
  unfold State.genDriveLeft
  simp only
  split
  · exact .refl s
  · refine ⟨rfl, rfl, rfl, rfl, rfl, rfl, rfl, rfl, fun _ h => h.resolve_left List.not_mem_nil, rfl, fun b hb => ?_⟩
    rw [State.setGen_gen]
    simp only [put_get]
    split
    · rfl
    · exact hb

theorem passOut_turnsOff (s : State) (ids : List CondId) : TurnsOff [] s { s with mon := passOut s.mon ids } :=
  ⟨rfl, rfl, rfl, rfl, rfl, rfl, rfl, rfl, fun _ h => h.resolve_left List.not_mem_nil, passOut_detached .., fun _ h => h⟩

theorem turnOffAxis_turnsOff (s : State) (a : Axis) : TurnsOff [a] s (s.turnOffAxis a) := by
  unfold State.turnOffAxis
  split
  · next h =>
    refine ⟨rfl, rfl, rfl, rfl, rfl, rfl, rfl, rfl, fun b hb => ?_, rfl, fun _ h => h⟩
    rcases hb with hb | hb
    · rw [List.mem_singleton.mp hb, h]
    · exact hb
  · exact setLinkRec_turnsOff s a
  · exact ((setLinkRec_turnsOff s a).trans (genDriveLeft_turnsOff _ a)).trans (passOut_turnsOff _ _)

theorem foldl_turnOffAxis (as : List Axis) : ∀ s : State, TurnsOff as s (as.foldl State.turnOffAxis s) := by
  induction as with
  | nil => exact TurnsOff.refl
  | cons a as ih => exact fun s => (turnOffAxis_turnsOff s a).trans (ih _)

/-- From s to t the axis link has taken a DRIVE_OFF action: every drive OFF, the acyclic queue emptied and answered. -/
structure LinkOff (s t : State) : Prop where
  ctrl : t.ctrl = s.ctrl
  clock : t.clock = s.clock
  store : t.store = s.store
  log : t.log = s.log
  check : t.check = s.check
  fittings : t.fittings = s.fittings
  grows : s.console.Grows t.console
  queue : t.link.queue = []
  replies : ∀ x ∈ s.link.queue, .reply 0xB2 x.tag [0x19] ∈ t.console.waiting
  drives : ∀ b : Axis, t.driveOf b = .off
  attached : ∀ b : Axis, s.mon.detached[b] = [] →
    t.mon.detached[b] = [] ∧ ((s.gen.recs[b]).mode = .idle → (t.gen.recs[b]).mode = .idle)

/-- R119: a DRIVE_OFF action that reaches the axis link when the controller is FAULTED. -/
theorem linkDriveOff_off (s : State) (hs : s.ctrl.state = .faulted) : LinkOff s s.linkDriveOff := by
  have ht := foldl_turnOffAxis allAxes s
  have hleft : (allAxes.foldl State.turnOffAxis s).driveLeftOn = allAxes.foldl State.turnOffAxis s := by
    simp only [State.driveLeftOn, ht.ctrl, hs]
  have hf := settleFaults_settles (allAxes.foldl State.turnOffAxis s)
    (passOutChanges s.mon ((allAxes.filter fun a => s.driveOf a = .on).map (condOn .follow)))
  have hoff : s.turnOff allAxes = (allAxes.foldl State.turnOffAxis s).settleFaults
      (passOutChanges s.mon ((allAxes.filter fun a => s.driveOf a = .on).map (condOn .follow))) := by
    simp only [State.turnOff, hleft, ite_self]
  obtain ⟨c, period, hq, hg, hm⟩ := (s.turnOff allAxes).abortQueue_all
  rw [State.linkDriveOff, hq]
  rw [← hoff] at hf
  generalize allAxes.foldl State.turnOffAxis s = v at ht hf
  generalize s.turnOff allAxes = w at hf hg hm
  refine ⟨hf.ctrl.trans ht.ctrl, hf.clock.trans ht.clock, hf.store.trans ht.store, hf.log.trans ht.log,
    hf.check.trans ht.check, hf.fittings.trans ht.fittings, ?_, rfl, fun x hx => hm x ?_, fun b => ?_, fun b hb => ?_⟩
  · have := hf.grows
    rw [ht.console] at this
    exact this.trans hg
  · rw [hf.link, ht.queue]
    exact hx
  · have := ht.drives b (.inl (mem_allAxes b))
    rw [State.driveOf, ← hf.link] at this
    exact this
  · obtain ⟨hgen, hdet⟩ := hf.attached b (by rw [ht.detached]; exact hb)
    exact ⟨hdet, fun h => (congrArg GenRec.mode hgen).trans (ht.idle b h)⟩

/-! ### DRIVE_OFF (R88) -/

/-- The run, the check and the generator after a DRIVE_OFF action that found the controller not FAULTED. -/
structure StoodDown (s t : State) : Prop where
  clock : t.clock.state = .stopped ∧ t.clock.speed = 0 ∧ t.clock.time = s.clock.time
  check : t.check.progress = none
  arm : t.ctrl.armSetpoints = none ∧ t.ctrl.prerollTargets = none
  pass : s.ctrl.pass.isSome = true → t.ctrl.pass = none ∧ t.ctrl.ret = none ∧ PassCloses s t .faulted
  idle : ∀ b : Axis, s.mon.detached[b] = [] → (t.gen.recs[b]).mode = .idle ∧ t.mon.detached[b] = []

/-- What a DRIVE_OFF action makes of the run controller. -/
structure StandsDown (s t : State) : Prop where
  state : t.ctrl.state = .faulted
  queue : t.link.queue = s.link.queue
  fittings : t.fittings = s.fittings
  grows : s.console.Grows t.console
  down : s.ctrl.state ≠ .faulted → StoodDown s t

theorem genDropAll_rec (s : State) (b : Axis) (h : s.mon.detached[b] = []) :
    (s.genDropAll.gen.recs[b]).mode = .idle := by
  rw [State.genDropAll, State.mapGen_gen]
  simp only [tabulate_get, isDetached_false h, Bool.false_eq_true, if_false]
  rfl

/-- What `endPass` leaves whether a pass exists or none, and what it brings to one that exists. -/
structure EndsAny (s t : State) (o : PassOutcome) : Prop where
  state : t.ctrl.state = s.ctrl.state
  stopForm : t.ctrl.stopForm = s.ctrl.stopForm
  clock : t.clock = s.clock ∨ t.clock = stopClock s.clock
  check : t.check = s.check
  link : t.link = s.link
  fittings : t.fittings = s.fittings
  grows : s.console.Grows t.console
  pass : s.ctrl.pass.isSome = true → t.ctrl.pass = none ∧ t.ctrl.ret = none ∧ PassCloses s t o
  detached : ∀ b : Axis, s.mon.detached[b] = [] → t.mon.detached[b] = []

theorem endPass_any (s : State) (o : PassOutcome) : EndsAny s (s.endPass o) o := by
  cases hk : s.ctrl.pass with
  | none =>
    have h : s.endPass o = s := by simp only [State.endPass, hk]
    rw [h]
    exact ⟨rfl, rfl, .inl rfl, rfl, rfl, rfl, .refl _, fun hp => by simp [hk] at hp, fun _ h => h⟩
  | some kind =>
    have h := endPass_ends s o hk
    refine ⟨?_, ?_, .inr h.clock, h.check, h.link, h.fittings, h.grows, fun _ => ⟨?_, ?_, h.closes⟩,
      fun b hb => (h.attached b hb).2⟩ <;> rw [h.ctrl] <;> rfl

theorem controllerDriveOff_standsDown (s : State) : StandsDown s s.controllerDriveOff := by
  unfold State.controllerDriveOff
  split
  · next h => exact ⟨h, rfl, rfl, .refl _, fun hn => absurd h hn⟩
  · obtain ⟨c, check, n, hc, hg, hprogress, -⟩ := cancelCheck_spec { s with clock := stopClock s.clock }
    rw [hc]
    have he := endPass_any (({ s with
      clock := stopClock s.clock, console := c, check := check, openReads := n } : State).withCtrl .faulted none) .faulted
    simp only
    generalize State.endPass _ _ = v at he ⊢
    have hgrows := (hg.trans he.grows).trans v.discardArm.genDropAll.reportState_grows
    have hclock : v.clock.state = .stopped ∧ v.clock.speed = 0 ∧ v.clock.time = s.clock.time := by
      rcases he.clock with h | h <;> rw [h] <;> exact ⟨rfl, rfl, rfl⟩
    refine ⟨he.state, congrArg Link.queue he.link, he.fittings, hgrows, fun _ => ⟨hclock, ?_, ⟨rfl, rfl⟩, fun hp => ?_,
      fun b hb => ?_⟩⟩
    · exact (congrArg RunCheck.progress he.check).trans hprogress
    · obtain ⟨h1, h2, h3⟩ := he.pass hp
      exact ⟨h1, h2, h3.later rfl v.discardArm.genDropAll.reportState_grows⟩
    · exact ⟨genDropAll_rec v.discardArm b (he.detached b hb), he.detached b hb⟩

/-- A DRIVE_OFF action as a whole. -/
theorem driveOffAction_spec (s : State) : StandsDown s s.controllerDriveOff ∧ LinkOff s.controllerDriveOff s.driveOffAction := by
  have h := controllerDriveOff_standsDown s
  exact ⟨h, linkDriveOff_off _ h.state⟩

end Sys2Proof.Machine
end

/-! SUPPORT. The evaluation of an enable timeout that latches, and the PATH_STOP or DRIVE_OFF that it takes (R86, R88, R132, R139). -/
section
namespace Sys2Proof.Machine

variable {s t u : State}

/-! ### The evaluation -/

theorem endEnabling_spec (s : State) (a : Axis) :
    ∃ link, s.endEnabling a = { s with link := link } ∧ link.queue = s.link.queue := by
  unfold State.endEnabling
  simp only
  split <;> exact ⟨_, rfl, rfl⟩

/-- R132, R138: a forced evaluation of a condition that is not active, in mode LATCHED, activates it and changes the fault set. -/
theorem evaluateAll_forced (m : Mon) (stamp : Stamp) (e : Evidence) (ht : e.truth = true) (hf : e.force = true)
    (hmode : (m.settings[e.id]).mode = .latched) (hact : (m.insts[e.id]).active = false) :
    ∃ insts, evaluateAll m stamp [e] = { mon := { m with insts := insts }, activated := [e.id], changed := true } := by
  have hactivates : activates m.settings[e.id] (countRun m.insts[e.id] true) e = true := by
    simp only [activates, countRun, ht, hf, hact, if_true, Bool.not_false, Bool.and_self, Bool.or_true]
  refine ⟨put m.insts e.id (evaluateInst m.settings[e.id] stamp m.insts[e.id] e), ?_⟩
  simp only [evaluateAll, List.foldl_cons, List.foldl_nil, evaluateOne, hmode, reduceCtorEq, if_false, ht, hactivates, if_true,
    evaluateInst, hact, List.nil_append, Bool.false_or, Bool.true_eq_false, decide_false, Bool.not_false]

/-- A state with the link record and the instances that an evaluation leaves. -/
def State.evaluated (s : State) (link : Link) (insts : Vector CondInst 99) : State :=
  { s with link := link, mon := { s.mon with insts := insts } }

/-- R132, R139: an enable timeout that is due, on a condition in mode LATCHED: its action is taken and the fault set reported. -/
theorem enableTimesOut_spec {a : Axis} {i : CondId} (hi : i = condOn .driveFault a) (hdue : s.link.due[a] = true)
    (hmode : (s.mon.settings[i]).mode = .latched) (hact : (s.mon.insts[i]).active = false) :
    ∃ link insts, s.enableTimesOut a = (s.evaluated link insts).actOn [i] true ∧ link.queue = s.link.queue := by
  subst hi
  obtain ⟨link, hlink, hqueue⟩ := endEnabling_spec s a
  obtain ⟨insts, he⟩ := evaluateAll_forced s.mon ({ s with link := link } : State).stampNow (enableTimeoutEvidence a) rfl rfl
    hmode hact
  refine ⟨link, insts, ?_, hqueue⟩
  simp only [State.enableTimesOut, hdue, if_true, hlink, State.evaluateEvent, he]
  rfl

section
variable {i : CondId} (hmode : (s.mon.settings[i]).mode = .latched)
include hmode

theorem hasAction_latched {now : Action} (ha : (s.mon.settings[i]).action = now) (act : Action) :
    hasAction s.mon act i = decide (now = act) := by
  simp only [hasAction, inForce, hmode, ha, Option.some.injEq]

theorem actOn_pathStop (ha : (s.mon.settings[i]).action = .pathStop) :
    s.actOn [i] true = s.pathStop.settleFaults true := by
  have h := hasAction_latched hmode ha
  simp [State.actOn, h]

theorem actOn_driveOff (ha : (s.mon.settings[i]).action = .driveOff) :
    s.actOn [i] true = s.driveOffAction.settleFaults true := by
  have h := hasAction_latched hmode ha
  simp [State.actOn, h]

theorem actOn_axisHalt (ha : (s.mon.settings[i]).action = .axisHalt) :
    s.actOn [i] true =
      (if (s.detach i).ctrl.state = .armed then (s.detach i).abandonArm else s.detach i).settleFaults true := by
  have h := hasAction_latched hmode ha
  simp [State.actOn, h]

end

theorem detach_fittings (s : State) (i : CondId) : (s.detach i).fittings = s.fittings := by
  unfold State.detach
  simp only
  split <;> rfl

theorem actOn_fittings {i : CondId} (hmode : (s.mon.settings[i]).mode = .latched) :
    (s.actOn [i] true).fittings = s.fittings ∧ .fault ∈ (s.actOn [i] true).console.waiting := by
  cases ha : (s.mon.settings[i]).action with
  | axisHalt =>
    rw [actOn_axisHalt hmode ha]
    refine ⟨?_, fault_mem_settleFaults _⟩
    rw [settleFaults_fittings, ← detach_fittings s i]
    split <;> rfl
  | pathStop =>
    rw [actOn_pathStop hmode ha]
    exact ⟨(settleFaults_fittings _ _).trans (pathStop_fittings s), fault_mem_settleFaults _⟩
  | driveOff =>
    obtain ⟨hc, hl⟩ := driveOffAction_spec s
    rw [actOn_driveOff hmode ha]
    exact ⟨(settleFaults_fittings _ _).trans (hl.fittings.trans hc.fittings), fault_mem_settleFaults _⟩

/-! ### PATH_STOP by the controller's state (Table 4-6) -/

section
variable {kind : PassKind}

theorem pathStop_idle (hst : s.ctrl.state = .idle ∨ s.ctrl.state = .armed) (h : SettlesFaults s.pathStop t) :
    t.ctrl =
        { s.ctrl with state := .faulted, stopForm := none, armSetpoints := none, prerollTargets := none, inPos := 0 } ∧
      t.clock = s.clock ∧ t.store = s.store ∧ t.log = s.log ∧ t.check = s.check := by
  have hp : s.pathStop = s.discardArm.enter .faulted := by rcases hst with hst | hst <;> simp only [State.pathStop, hst]
  rw [hp] at h
  exact ⟨h.ctrl, h.clock, h.store, h.log, h.check⟩

theorem pathStop_checking {p : CheckProgress} (hst : s.ctrl.state = .checking) (hp : s.check.progress = some p)
    (h : SettlesFaults s.pathStop t) :
    t.ctrl.state = .faulted ∧ t.check.progress = none ∧ ∃ r, t.check.record = some r ∧ r.outcome = .cancelled := by
  obtain ⟨c, check, n, hc, -, hprogress, hrecord⟩ := cancelCheck_spec s
  simp only [State.pathStop, hst, hc] at h
  have hcheck : t.check = check := h.check
  rw [hcheck]
  exact ⟨congrArg Ctrl.state h.ctrl, hprogress, hrecord p hp⟩

/-- R165: an axis that the generator may move rests. -/
theorem genRestAll_rec {b : Axis} (hc : s.configured b = true) (hd : s.mon.detached[b] = []) (ho : s.driveOf b ≠ .off)
    (hm : (s.gen.recs[b]).mode ≠ .capture) : (s.genRestAll.gen.recs[b]).mode = .resting := by
  rw [State.genRestAll, State.mapGen_gen]
  simp only [tabulate_get, hc, isDetached_false hd, ho, hm, Bool.not_false, Bool.and_self, decide_false, if_true]
  rfl

theorem pathStop_preroll (hst : s.ctrl.state = .preroll) (h : SettlesFaults s.pathStop t) :
    t.ctrl = { s.ctrl with state := .faultStopping, stopForm := some .generator, inPos := 0 } ∧
      ∀ b : Axis, s.configured b = true → s.mon.detached[b] = [] → t.driveOf b ≠ .off →
        (s.gen.recs[b]).mode ≠ .capture → (t.gen.recs[b]).mode = .resting := by
  simp only [State.pathStop, hst] at h
  refine ⟨h.ctrl, fun b hc hd ho hm => ?_⟩
  rw [State.driveOf, h.link] at ho
  rw [(h.attached b hd).1]
  exact genRestAll_rec (s := { s with ctrl := { s.ctrl with inPos := 0 } }) hc hd ho hm

/-- A pass that a PATH_STOP ends where it stands. -/
theorem endPass_faulted (hp : s.ctrl.pass = some kind)
    (h : SettlesFaults ((s.withCtrl .faulted none).endPass .faulted).reportState t) :
    t.ctrl.state = .faulted ∧ t.ctrl.pass = none ∧ t.ctrl.entry = 0 ∧ t.ctrl.ret = none ∧ t.clock.state = .stopped ∧
      t.clock.time = s.clock.time ∧ t.clock.travel = s.clock.travel ∧ PassCloses s t .faulted ∧
      t.store.moves = s.store.moves ∧
      (kind = .capture → t.store.staging = [] ∧ t.store.free = s.store.free + stagedKeys s.store) := by
  have he := endPass_ends (s.withCtrl .faulted none) .faulted hp
  generalize State.endPass _ _ = v at he h
  have hctrl : t.ctrl = endedCtrl (s.withCtrl .faulted none).ctrl := h.ctrl.trans he.ctrl
  have hclock : t.clock = stopClock s.clock := h.clock.trans he.clock
  have hstore : t.store = endStore kind false s.store := h.store.trans he.store
  rw [hctrl, hclock, hstore]
  refine ⟨rfl, rfl, rfl, rfl, rfl, rfl, rfl, he.closes.later h.log (v.reportState_grows.trans h.grows), ?_, fun hk => ?_⟩
  · cases kind <;> rfl
  · subst hk
    exact ⟨rfl, rfl⟩

theorem pathStop_standing (hst : (s.ctrl.state = .running ∧ s.clock.state = .waiting) ∨ s.ctrl.state = .held)
    (h : SettlesFaults s.pathStop t) :
    SettlesFaults ((s.withCtrl .faulted none).endPass .faulted).reportState t := by
  rcases hst with ⟨hst, hc⟩ | hst
  · simpa only [State.pathStop, hst, hc] using h
  · simpa only [State.pathStop, hst] using h

theorem atRestIfStill_moving (h : s.clock.speed ≠ 0) : s.atRestIfStill = s := by rw [State.atRestIfStill, if_neg h]

theorem genEndFollowing_rec {b : Axis} (hm : (s.gen.recs[b]).mode = .capture) :
    s.genEndFollowing.gen.recs[b] = captureToResting s.gen.recs[b] := by
  rw [State.genEndFollowing, State.mapGen_gen]
  simp only [tabulate_get, hm, if_true]

theorem pathStop_moving
    (hst : (s.ctrl.state = .running ∧ s.clock.state = .advancing) ∨ s.ctrl.state = .holding ∨
      (s.ctrl.state = .stopping ∧ s.ctrl.stopForm = some .path))
    (he : s.clock.speed ≠ 0) (h : SettlesFaults s.pathStop t) :
    t.ctrl = { s.ctrl with state := .faultStopping, stopForm := some .path } ∧
      t.clock =
        { s.clock with
          ramp := .down .fault (max (currentDecrement s.clock.ramp) (ceilDiv s.clock.speed s.clock.cfg.faultRamp))
          lock := none, lostTimer := none, budget := 0 } ∧
      t.store = s.store ∧ t.log = s.log ∧
      ∀ b : Axis, s.mon.detached[b] = [] → (s.gen.recs[b]).mode = .capture →
        (t.gen.recs[b]).mode = .resting ∧ (t.gen.recs[b]).pathLimits = true ∧ (t.gen.recs[b]).v = (s.gen.recs[b]).v := by
  have hp : s.pathStop = s.faultRampStop := by
    rcases hst with ⟨h1, h2⟩ | h1 | ⟨h1, h2⟩
    · simp only [State.pathStop, h1, h2]
    · simp only [State.pathStop, h1]
    · simp only [State.pathStop, h1, h2]
  have hr : s.faultRampStop =
      ({ s with clock := startFaultRamp s.clock } : State).genEndFollowing.enterStop .faultStopping .path :=
    atRestIfStill_moving he
  rw [hp, hr] at h
  refine ⟨h.ctrl, h.clock, h.store, h.log, fun b hd hm => ?_⟩
  rw [(h.attached b hd).1, State.enterStop_gen, genEndFollowing_rec (s := { s with clock := startFaultRamp s.clock }) hm]
  exact ⟨rfl, rfl, rfl⟩

theorem pathStop_faultStopping (hst : s.ctrl.state = .faultStopping) (hform : s.ctrl.stopForm = some .path)
    (he : s.clock.speed ≠ 0) (h : SettlesFaults s.pathStop t) :
    t.ctrl = s.ctrl ∧
      t.clock.ramp =
        .down .fault (max (currentDecrement s.clock.ramp) (ceilDiv s.clock.speed s.clock.cfg.faultRamp)) := by
  simp only [State.pathStop, hst, hform] at h
  rw [atRestIfStill_moving (s := { s with clock := startFaultRamp s.clock }) he] at h
  exact ⟨h.ctrl, congrArg Clock.ramp h.clock⟩

theorem pathStop_stopping (hst : s.ctrl.state = .stopping) (hform : s.ctrl.stopForm = some .generator)
    (h : SettlesFaults s.pathStop t) :
    t.ctrl = { s.ctrl with state := .faultStopping, stopForm := some .generator } ∧ t.clock = s.clock := by
  simp only [State.pathStop, hst, hform] at h
  exact ⟨h.ctrl, h.clock⟩

theorem pathStop_jogging (hst : s.ctrl.state = .jogging ∨ s.ctrl.state = .returning) (h : SettlesFaults s.pathStop t) :
    t.ctrl.state = .faultStopping ∧ t.ctrl.stopForm = some .generator ∧
      (s.ctrl.pass.isSome = true → t.ctrl.pass = none ∧ t.ctrl.ret = none ∧ PassCloses s t .faulted) := by
  have hp : s.pathStop = ((({ s with ctrl := { s.ctrl with inPos := 0 } } : State).withCtrl .faultStopping
      (some .generator)).endPass .faulted).genRestAll.reportState := by
    rcases hst with h1 | h1 <;> simp only [State.pathStop, h1]
  rw [hp] at h
  have he := endPass_any (({ s with ctrl := { s.ctrl with inPos := 0 } } : State).withCtrl .faultStopping
    (some .generator)) .faulted
  generalize State.endPass _ _ = v at he h
  have hctrl : t.ctrl = v.ctrl := h.ctrl.trans (by simp)
  have hlog : t.log = v.log := h.log.trans (by simp)
  have hgrows : v.console.Grows t.console := by
    have := v.genRestAll.reportState_grows.trans h.grows
    rwa [State.genRestAll_console] at this
  rw [hctrl]
  refine ⟨he.state, he.stopForm, fun hpass => ?_⟩
  obtain ⟨h1, h2, h3⟩ := he.pass hpass
  exact ⟨h1, h2, h3.later hlog hgrows⟩

theorem pathStop_faulted
    (hst : s.ctrl.state = .faulted ∨ (s.ctrl.state = .faultStopping ∧ s.ctrl.stopForm = some .generator))
    (h : SettlesFaults s.pathStop t) : t.ctrl = s.ctrl ∧ t.clock = s.clock := by
  have hp : s.pathStop = s := by
    rcases hst with h1 | ⟨h1, h2⟩
    · simp only [State.pathStop, h1]
    · simp only [State.pathStop, h1, h2]
  rw [hp] at h
  exact ⟨h.ctrl, h.clock⟩

end

/-! ### DRIVE_OFF in every state -/

theorem driveOff_spec (h : SettlesFaults s.driveOffAction t) :
    t.ctrl.state = .faulted ∧ (∀ b : Axis, t.driveOf b = .off) ∧ t.link.queue = [] ∧
      (∀ x ∈ s.link.queue, .reply 0xB2 x.tag [0x19] ∈ t.console.outQ ++ t.console.held) ∧
      (s.ctrl.state ≠ .faulted →
        t.clock.state = .stopped ∧ t.clock.speed = 0 ∧ t.clock.time = s.clock.time ∧ t.check.progress = none ∧
        t.ctrl.armSetpoints = none ∧ t.ctrl.prerollTargets = none ∧
        (s.ctrl.pass.isSome = true → t.ctrl.pass = none ∧ t.ctrl.ret = none ∧ PassCloses s t .faulted) ∧
        ∀ b : Axis, s.mon.detached[b] = [] → (t.gen.recs[b]).mode = .idle) := by
  obtain ⟨hc, hl⟩ := driveOffAction_spec s
  have hctrl := h.ctrl.trans hl.ctrl
  have hclock := h.clock.trans hl.clock
  refine ⟨(congrArg Ctrl.state hctrl).trans hc.state, fun b => ?_, (congrArg Link.queue h.link).trans hl.queue,
    fun x hx => h.grows.mem (hl.replies x (by rw [hc.queue]; exact hx)) rfl, fun hn => ?_⟩
  · have := hl.drives b
    rw [State.driveOf, ← h.link] at this
    exact this
  · obtain ⟨⟨h1, h2, h3⟩, h4, ⟨h5, h6⟩, h7, h8⟩ := hc.down hn
    rw [hctrl, hclock, h.check.trans hl.check]
    refine ⟨h1, h2, h3, h4, h5, h6, fun hp => ?_, fun b hb => ?_⟩
    · obtain ⟨p1, p2, p3⟩ := h7 hp
      exact ⟨p1, p2, p3.later (h.log.trans hl.log) (hl.grows.trans h.grows)⟩
    · obtain ⟨hidle, hdet⟩ := h8 b hb
      obtain ⟨hdet', hkeep⟩ := hl.attached b hdet
      exact (congrArg GenRec.mode (h.attached b hdet').1).trans (hkeep hidle)

/-- Settles O39: an enable timeout that latches, by the action of its monitor and the controller's state. -/
theorem actionsStopTheRun : Obligations.ActionsStopTheRun := by
  intro a s i hi hdue hmode hact
  obtain ⟨link, insts, ht, hqueue⟩ := enableTimesOut_spec hi hdue hmode hact
  refine ⟨s.enableTimesOut a, rfl, ?_⟩
  rw [ht]
  have hlatched : ((s.evaluated link insts).mon.settings[i]).mode = .latched := hmode
  obtain ⟨hfit, hfault⟩ := actOn_fittings hlatched
  obtain ⟨haxes, hwheels, hlines⟩ := fittings_eq (s := s) hfit
  refine ⟨haxes, hwheels, hlines, hfault, fun ha => ?_, fun ha => ?_⟩
  · rw [actOn_pathStop hlatched ha]
    have h := settleFaults_settles (s.evaluated link insts).pathStop true
    exact ⟨fun hst => pathStop_idle (s := s.evaluated link insts) hst h,
      fun p hst hp => pathStop_checking (s := s.evaluated link insts) hst hp h,
      fun hst => pathStop_preroll (s := s.evaluated link insts) hst h,
      fun kind hst hp => endPass_faulted (s := s.evaluated link insts) hp (pathStop_standing hst h),
      fun hst he => pathStop_moving (s := s.evaluated link insts) hst he h,
      fun hst hform he => pathStop_faultStopping (s := s.evaluated link insts) hst hform he h,
      fun hst hform => pathStop_stopping (s := s.evaluated link insts) hst hform h,
      fun hst => pathStop_jogging (s := s.evaluated link insts) hst h,
      fun hst => pathStop_faulted (s := s.evaluated link insts) hst h⟩
  · rw [actOn_driveOff hlatched ha, ← hqueue]
    exact driveOff_spec (s := s.evaluated link insts) (settleFaults_settles _ true)

end Sys2Proof.Machine
end

/-! SUPPORT. Capture staging and its commit (R20 to R22, R80, R176, R177): the key handed to a list, the lists committed to their move. -/
section
namespace Sys2Proof.Machine

variable {s t : State}

/-! ### One key handed to a list (R21) -/

section
variable {st : Store} {n : Nat} {key : Key} {l : StagingList} (hl : st.staging[n]? = some l)
include hl

theorem stageKey_passedOver (h : st.poolRefused = true ∨ l.closed = true) : stageKey st n key = (st, false) := by
  simp only [stageKey, hl, Bool.or_eq_true, if_pos h]

theorem stageKey_taken (hr : st.poolRefused = false) (hc : l.closed = false) (hf : 0 < st.free)
    (hk : l.keys.length < 4096) :
    stageKey st n key =
      ({ st with staging := st.staging.set n { l with keys := l.keys ++ [key] }, free := st.free - 1 }, false) := by
  simp only [stageKey, hl, hr, hc, Bool.or_self, Bool.false_eq_true, if_false, if_neg hf.ne', maxTrackKeys,
    if_neg (Nat.not_le.mpr hk)]

theorem stageKey_emptyPool (hr : st.poolRefused = false) (hc : l.closed = false) (hf : st.free = 0) :
    stageKey st n key = ({ st with poolRefused := true }, true) := by
  simp only [stageKey, hl, hr, hc, Bool.or_self, Bool.false_eq_true, if_false, if_pos hf]

theorem stageKey_fullList (hr : st.poolRefused = false) (hc : l.closed = false) (hf : 0 < st.free)
    (hk : 4096 ≤ l.keys.length) :
    stageKey st n key = ({ st with staging := st.staging.set n { l with closed := true } }, true) := by
  simp only [stageKey, hl, hr, hc, Bool.or_self, Bool.false_eq_true, if_false, if_neg hf.ne', maxTrackKeys, if_pos hk]

end

/-! ### The lists committed (R22) -/

/-- The tracks of a move after one list: a list with no keys leaves them. -/
def commitTracks (ts : Vector (Option Track) 16) (l : StagingList) : Vector (Option Track) 16 :=
  if l.keys = [] then ts else put ts l.axis (some l.keys)

/-- The list that becomes the track of an axis: the last one for it that holds keys. -/
def committedList (ls : List StagingList) (a : Axis) : Option StagingList :=
  (ls.filter fun l => l.axis = a && !l.keys.isEmpty).getLast?

theorem foldl_commitTracks (ts : Vector (Option Track) 16) (ls : List StagingList) (a : Axis) :
    (ls.foldl commitTracks ts)[a] =
      match committedList ls a with
      | some l => some l.keys
      | none => ts[a] := by
  induction ls using List.reverseRecOn with
  | nil => rfl
  | append_singleton ls l ih =>
    rw [List.foldl_append, List.foldl_cons, List.foldl_nil, committedList, List.filter_append]
    by_cases hk : l.keys = []
    · have hno : ([l].filter fun l => l.axis = a && !l.keys.isEmpty) = [] := by simp [hk]
      rw [hno, List.append_nil, commitTracks, if_pos hk]
      exact ih
    · rw [commitTracks, if_neg hk, put_get]
      by_cases ha : l.axis = a
      · have hyes : ([l].filter fun l => l.axis = a && !l.keys.isEmpty) = [l] := by simp [hk, ha]
        rw [hyes, List.getLast?_append, if_pos ha]
        rfl
      · have hno : ([l].filter fun l => l.axis = a && !l.keys.isEmpty) = [] := by simp [ha]
        rw [hno, List.append_nil, if_neg ha]
        exact ih

theorem commitList_moves (st : Store) (M : Vector (Option Move) 32) (m : MoveSlot) (mv : Move)
    (ts : Vector (Option Track) 16) (l : StagingList) (h : st.moves = put M m (some { mv with tracks := ts })) :
    (commitList m st l).moves = put M m (some { mv with tracks := commitTracks ts l }) := by
  have hm : st.moves[m] = some { mv with tracks := ts } := by rw [h, put_get_same]
  unfold commitList commitTracks
  cases hk : l.keys with
  | nil =>
    rw [if_pos rfl]
    exact h
  | cons k ks =>
    rw [if_neg (List.cons_ne_nil k ks)]
    simp only [hm]
    rw [h, put_put]

theorem foldl_commitList_moves (M : Vector (Option Move) 32) (m : MoveSlot) (mv : Move) (ls : List StagingList) :
    ∀ (st : Store) (ts : Vector (Option Track) 16), st.moves = put M m (some { mv with tracks := ts }) →
      (ls.foldl (commitList m) st).moves = put M m (some { mv with tracks := ls.foldl commitTracks ts }) := by
  induction ls with
  | nil => exact fun st ts h => h
  | cons l ls ih => exact fun st ts h => ih _ _ (commitList_moves st M m mv ts l h)

/-- R22: the move that a commit leaves. -/
theorem commitStaging_moves {st : Store} {m : MoveSlot} {mv : Move} (ht : st.stagingTarget = some m)
    (hm : st.moves[m] = some mv) :
    (commitStaging st).moves = put st.moves m (some { mv with tracks := st.staging.foldl commitTracks mv.tracks }) := by
  simp only [commitStaging, ht]
  refine foldl_commitList_moves st.moves m mv st.staging st mv.tracks ?_
  rw [show ({ mv with tracks := mv.tracks } : Move) = mv from rfl, ← hm, put_same]

theorem commitStaging_target (st : Store) : (commitStaging st).stagingTarget = none := by
  unfold commitStaging
  split <;> rfl

/-- R177: an axis that was in CAPTURE is IDLE at the end of capture, where it stood. -/
theorem endedGen_capture {g : GenRec} (h : g.mode = .capture) : endedGen .capture g = toIdle g := by
  simp only [endedGen, usesPathLimits, h, decide_true, Bool.true_or, if_true]

/-- R22, R80, R177: STOP in HELD ends a CAPTURE pass and commits its lists. -/
theorem stop_held {m : MoveSlot} {mv : Move} (tag : Byte) (hst : s.ctrl.state = .held) (hp : s.ctrl.pass = some .capture)
    (ht : s.store.stagingTarget = some m) (hm : s.store.moves[m] = some mv) :
    ∃ t mv', exec (.stop tag []) s = .next t ∧ t.ctrl.state = .idle ∧ t.ctrl.pass = none ∧ PassCloses s t .stopped ∧
      t.store.staging = [] ∧ t.store.stagingTarget = none ∧ t.store.moves = put s.store.moves m (some mv') ∧
      mv'.name = mv.name ∧
      (∀ a : Axis,
        mv'.tracks[a] =
          match (s.store.staging.filter fun l => l.axis = a && !l.keys.isEmpty).getLast? with
          | some l => some l.keys
          | none => mv.tracks[a]) ∧
      keysInTracks t.store + t.store.free = keysInTracks s.store + stagedKeys s.store + s.store.free ∧
      t.gen.captureBase = [] ∧
      ∀ a : Axis, s.mon.detached[a] = [] → (s.gen.recs[a]).mode = .capture →
        (t.gen.recs[a]).mode = .idle ∧ (t.gen.recs[a]).v = 0 ∧ (t.gen.recs[a]).x = (s.gen.recs[a]).x := by
  have he := endPass_ends ((s.reply Kind.stop tag .ok []).withCtrl .idle none) .stopped hp
  have hstop : (s.reply Kind.stop tag .ok []).takeStop =
      (((s.reply Kind.stop tag .ok []).withCtrl .idle none).endPass .stopped).reportState := by
    have hst' : (s.reply Kind.stop tag .ok []).ctrl.state = .held := hst
    simp only [State.takeStop, hst']
  refine ⟨(s.reply Kind.stop tag .ok []).takeStop, { mv with tracks := s.store.staging.foldl commitTracks mv.tracks }, rfl, ?_⟩
  rw [hstop]
  generalize State.endPass _ _ = v at he ⊢
  have hstore : v.reportState.store = commitStaging s.store := he.store
  have hctrl : v.reportState.ctrl = endedCtrl _ := he.ctrl
  rw [hstore, hctrl]
  refine ⟨rfl, rfl, (he.closes.later (u := v.reportState) rfl v.reportState_grows).of_log rfl, commitStaging_staging _, commitStaging_target _,
    commitStaging_moves ht hm, rfl, fun a => foldl_commitTracks _ _ a, ?_, he.base rfl, fun a hd hmode => ?_⟩
  · rw [commitStaging_pool]
    omega
  · have hgen : v.gen.recs[a] = toIdle s.gen.recs[a] := (he.attached a hd).1.trans (endedGen_capture hmode)
    exact ⟨congrArg GenRec.mode hgen, congrArg GenRec.v hgen, (congrArg GenRec.x hgen :)⟩

/-! ### The keys of a pass frame (R21, R176) -/

/-- A list with one more key at its end. -/
def withKey (l : StagingList) (key : Key) : StagingList := { l with keys := l.keys ++ [key] }

/-- The staging in which list k is the first that has no key of this pass frame yet. -/
theorem stageFor_taken {e : RunEntry} {n k : Nat} {b : Binding} {done rest : List StagingList} {l : StagingList}
    (hs : s.store.staging = done ++ l :: rest) (hd : done.length = k) (hr : s.store.poolRefused = false)
    (hc : l.closed = false) (hk : l.keys.length < 4096) (hf : 0 < s.store.free) :
    State.stageFor e n s (k, b) =
      s.withStore
        { s.store with
          staging := done ++ withKey l (s.captureKey e n b.axis) :: rest, free := s.store.free - 1 } := by
  have hl : s.store.staging[k]? = some l := by rw [hs, ← hd]; simp
  simp only [State.stageFor, stageKey_taken hl hr hc hf hk, Bool.false_eq_true, if_false]
  rw [hs, ← hd, List.set_append_right _ _ (Nat.le_refl _), Nat.sub_self, List.set_cons_zero]
  rfl

/-- R176: with room in the pool and in every list, each binding's list takes one key. -/
theorem foldl_stageFor_taken (e : RunEntry) (n : Nat) (bs : List Binding) :
    ∀ (s : State) (k : Nat) (done rest : List StagingList), s.store.staging = done ++ rest → done.length = k →
      s.store.poolRefused = false → (∀ l ∈ rest, l.closed = false ∧ l.keys.length < 4096) → rest.length = bs.length →
      bs.length ≤ s.store.free →
      ((List.range' k bs.length).zip bs).foldl (State.stageFor e n) s =
        s.withStore
          { s.store with
            staging := done ++ (rest.zip bs).map fun p => withKey p.1 (s.captureKey e n p.2.axis)
            free := s.store.free - bs.length } := by
  induction bs with
  | nil =>
    intro s k done rest hs _ _ _ hlen _
    have hrest : rest = [] := List.length_eq_zero_iff.mp hlen
    subst hrest
    rw [List.append_nil] at hs
    simp only [List.length_nil, List.range'_zero, List.foldl_nil, List.zip_nil_right, List.map_nil,
      List.append_nil, Nat.sub_zero, ← hs]
    rfl
  | cons b bs ih =>
    intro s k done rest hs hd hr hopen hlen hfree
    obtain ⟨l, rest, rfl⟩ : ∃ l rest', rest = l :: rest' := List.exists_cons_of_length_eq_add_one hlen
    obtain ⟨⟨hc, hk⟩, hopen⟩ := List.forall_mem_cons.mp hopen
    simp only [List.length_cons, Nat.add_right_cancel_iff] at hlen hfree ⊢
    have hlater := ih
      (s.withStore
        { s.store with
          staging := done ++ withKey l (s.captureKey e n b.axis) :: rest, free := s.store.free - 1 })
      (k + 1) (done ++ [withKey l (s.captureKey e n b.axis)]) rest (by simp [State.withStore]) (by simp [hd]) hr hopen hlen
      (by simp only [State.withStore]; omega)
    have hfree' : s.store.free - 1 - bs.length = s.store.free - (bs.length + 1) := by omega
    rw [List.range'_succ, List.zip_cons_cons, List.foldl_cons, stageFor_taken hs hd hr hc hk (by omega), hlater]
    simp only [State.withStore, hfree', List.zip_cons_cons, List.map_cons, List.append_assoc, List.singleton_append]
    rfl

/-- R21, R152: an empty pool refuses the first key of a pass frame, which stops every list. -/
theorem foldl_stageFor_refused (e : RunEntry) (n : Nat) (bs : List Binding) :
    ∀ (s : State) (k : Nat), s.store.poolRefused = true →
      ((List.range' k bs.length).zip bs).foldl (State.stageFor e n) s = s := by
  induction bs with
  | nil => exact fun _ _ _ => rfl
  | cons b bs ih =>
    intro s k hr
    have hone : State.stageFor e n s (k, b) = s := by
      have hkey : stageKey s.store k (s.captureKey e n b.axis) = (s.store, false) := by
        cases hl : s.store.staging[k]? with
        | none => simp only [stageKey, hl]
        | some l => exact stageKey_passedOver hl (.inl hr)
      simp only [State.stageFor, hkey, Bool.false_eq_true, if_false]
      rfl
    rw [List.length_cons, List.range'_succ, List.zip_cons_cons, List.foldl_cons, hone]
    exact ih s (k + 1) hr

theorem stageKeys_eq {e : RunEntry} {n : Nat} (he : s.runEntry? 1 = some e) (hn : n % s.wheels.stride = 0) :
    s.stageKeys n = ((List.range' 0 s.wheels.bindings.length).zip s.wheels.bindings).foldl (State.stageFor e n) s := by
  simp only [State.stageKeys, he, hn, if_true, List.range_eq_range']

end Sys2Proof.Machine
end

/-! SUPPORT. The start of a CAPTURE pass (R75, R149, R150, R153, R174, R176): what stands when capture begins, and what it makes of the
generator, the staging and the log. -/
section
namespace Sys2Proof.Machine

variable {s t v : State}

/-! ### The log at the start of a pass -/

theorem recordedPass_openPass (l : PassLog) (kind : PassKind) (g : BitVec 32) (axes : Vector Bool 16) :
    ∃ q, recordedPass (openPass l kind g axes) = some q :=
  ⟨_, recordedPass_eq_some.mpr ⟨rfl, put_get_same ..⟩⟩

theorem recordedPass_writeRecord {l : PassLog} (r : FrameRec) (h : ∃ q, recordedPass l = some q) :
    ∃ q, recordedPass (writeRecord l r) = some q := by
  obtain ⟨⟨i, p⟩, hq⟩ := h
  let r' := restrictRecord p.header.axes r
  refine ⟨(i, appendRecord p r' (deviations l r')), recordedPass_eq_some.mpr ?_⟩
  simp only [writeRecord, hq]
  exact ⟨(recordedPass_eq_some.mp hq).1, put_get_same ..⟩

/-- R152: a refusal shows in the header of the pass being recorded. -/
theorem markShort_recorded {l : PassLog} (h : ∃ q, recordedPass l = some q) :
    ∃ i p, (markShort l).recording = some i ∧ (markShort l).slots[i] = some p ∧ p.header.captureShort = true := by
  obtain ⟨⟨i, p⟩, hq⟩ := h
  refine ⟨i, { p with header := { p.header with captureShort := true } }, ?_⟩
  simp only [markShort, hq]
  exact ⟨(recordedPass_eq_some.mp hq).1, put_get_same .., trivial⟩

/-- R153: with no reference held there is nothing to compare. -/
theorem repeatEvaluations_nil {l : PassLog} (h : l.heldSlot = none) (mon : Mon) (r : FrameRec) :
    repeatEvaluations l mon r = [] := by
  unfold repeatEvaluations
  split
  · rfl
  · split
    · rfl
    · next p _ _ =>
      have hno (a : Axis) : (deviations l (restrictRecord p.header.axes r))[a] = none := by
        simp only [deviations, referenceRecord, h]
        exact fill_getElem ..
      exact List.filterMap_eq_nil_iff.mpr fun a _ => by rw [hno a]; rfl

theorem finishClosing_spec (s : State) : ∃ c log, s.finishClosing = { s with console := c, log := log } := by
  unfold State.finishClosing
  split
  · obtain ⟨c, log, h, -⟩ := s.finalizePass_spec _
    exact ⟨c, log, h⟩
  · exact ⟨_, _, rfl⟩

/-- R149: the log begins a CAPTURE pass: it records it, and holds no reference. -/
theorem beginPass_capture (s : State) :
    ∃ c log, s.beginPass .capture = { s with console := c, log := log } ∧ (∃ q, recordedPass log = some q) ∧
      log.heldSlot = none := by
  obtain ⟨c, log, h⟩ := finishClosing_spec s
  simp only [State.beginPass, h]
  exact ⟨c, _, rfl, recordedPass_openPass .., rfl⟩

theorem recordFrame_spec (s : State) (c : Crossing) (r : FrameRec) :
    ∃ d, s.recordFrame c r = { s with console := d, log := writeRecord s.log r } := by
  unfold State.recordFrame State.reportFrame
  split <;> exact ⟨_, rfl⟩

theorem fireCues_spec (s : State) (n : Nat) : ∃ ls, s.fireCues n = { s with lines := ls } := by
  unfold State.fireCues
  split <;> exact ⟨_, rfl⟩

/-! ### An event with no evaluations, while a pass exists -/

/-- R141: no axis is released while a pass exists. -/
theorem settleFaults_inPass (h : s.ctrl.pass.isSome = true) : s.settleFaults false = s := by
  have hno (a : Axis) : s.releasable a = false := by
    have : s.ctrl.pass.isNone = false := by simpa using h
    simp only [State.releasable, this, Bool.and_false, Bool.false_and]
  have hall : s.releaseAll = s := foldl_fixed _ s (fun a => by simp [State.releaseAxis, hno a]) _
  have hnone : allAxes.any s.releasable = false := by simp [hno]
  simp only [State.settleFaults, hnone, hall, Bool.or_self]
  rfl

theorem evaluateEvent_nil (h : s.ctrl.pass.isSome = true) : s.evaluateEvent [] = s := by
  have : s.evaluateEvent [] = s.settleFaults false := actOn_nil s false
  rw [this, settleFaults_inPass h]

/-! ### What stands when capture begins -/

/-- The blocks that the beginning of capture reads stand as they stood, a CAPTURE pass exists, and the log records it. -/
structure CaptureOpens (s v : State) : Prop where
  store : v.store = s.store
  axes : v.axes = s.axes
  setpoints : v.ctrl.setpoints = s.ctrl.setpoints
  runList : v.ctrl.runList = s.ctrl.runList
  mon : v.mon = s.mon
  gen : v.gen = s.gen
  wheels : v.wheels = s.wheels
  link : v.link = s.link
  pass : v.ctrl.pass = some .capture
  recorded : ∃ q, recordedPass v.log = some q

theorem CaptureOpens.currentSetpoint (h : CaptureOpens s v) (a : Axis) : v.currentSetpoint a = s.currentSetpoint a := by
  simp only [State.currentSetpoint, h.link, h.setpoints]

/-- The keys of a pass frame touch only the store, less its moves, and the log. -/
theorem stageFor_spec (s : State) (e : RunEntry) (n : Nat) (b : Nat × Binding) :
    ∃ st log, State.stageFor e n s b = { s with store := st, log := log } ∧ st.moves = s.store.moves := by
  have hm : (stageKey s.store b.1 (s.captureKey e n b.2.axis)).1.moves = s.store.moves := by
    rcases stageKey_cases s.store b.1 (s.captureKey e n b.2.axis) with h | ⟨-, h⟩ | ⟨_, _, _, h⟩ | ⟨_, _, _, _, h⟩ <;> rw [h]
  unfold State.stageFor
  simp only
  split <;> exact ⟨_, _, rfl, hm⟩

theorem stageKeys_spec (s : State) (n : Nat) :
    ∃ st log, s.stageKeys n = { s with store := st, log := log } ∧ st.moves = s.store.moves := by
  have fold : ∀ (e : RunEntry) (bs : List (Nat × Binding)) (s : State),
      ∃ st log, bs.foldl (State.stageFor e n) s = { s with store := st, log := log } ∧ st.moves = s.store.moves := by
    intro e bs
    induction bs with
    | nil => exact fun s => ⟨_, _, rfl, rfl⟩
    | cons b bs ih =>
      intro s
      obtain ⟨st, log, h, hm⟩ := stageFor_spec s e n b
      obtain ⟨st', log', h', hm'⟩ := ih (State.stageFor e n s b)
      rw [List.foldl_cons, h']
      rw [h] at hm' ⊢
      exact ⟨st', log', rfl, hm'.trans hm⟩
  unfold State.stageKeys
  split
  · exact ⟨_, _, rfl, rfl⟩
  · split
    · exact fold _ _ s
    · exact ⟨_, _, rfl, rfl⟩

/-- The state in which the keys of pass frame 0 are staged. -/
def State.captureBegun (s : State) (e : RunEntry) : State :=
  s.beginCapture.withStore (openStaging s.store e.slot s.wheels.bindings)

theorem startCapture_eq {e : RunEntry} {es : List RunEntry} (hp : v.ctrl.pass = some .capture)
    (hr : v.ctrl.runList = e :: es) : v.startCapture = (v.captureBegun e).stageKeys 0 := by
  have he : v.beginCapture.runEntry? 1 = some e := by
    have : v.beginCapture.ctrl = v.ctrl := by simp [State.beginCapture]
    simp [State.runEntry?, this, hr]
  have hs : v.beginCapture.store = v.store := by simp [State.beginCapture]
  have hw : v.beginCapture.wheels = v.wheels := by simp [State.beginCapture]
  simp only [State.startCapture, hp, if_true, State.openCaptureStaging, he, State.captureBegun, hs, hw]

end Sys2Proof.Machine
end

/-! SUPPORT. GO of a CAPTURE pass in ARMED (R75, R174, R176): what its log records, what it stages, and what it does with an empty pool. -/
section
namespace Sys2Proof.Machine

variable {s t v : State}

theorem startPassClock_cfg (c : Clock) (e : RunEntry) : (startPassClock c e).cfg = c.cfg := by
  unfold startPassClock
  split <;> rfl

theorem captureBegun_stages (s : State) (e : RunEntry) (n : Nat) (h : s.ctrl.pass = some .capture) :
    (((s.captureBegun e).stageKeys n).ctrl.pass).isSome = true := by
  obtain ⟨st, log, hs, -⟩ := stageKeys_spec (s.captureBegun e) n
  have hc : (s.captureBegun e).ctrl = s.ctrl := by simp [State.captureBegun, State.beginCapture]
  rw [hs, hc, h]
  rfl

theorem fireCues_opens (c : Crossing) (r : FrameRec) (n : Nat) (hp : s.ctrl.pass = some .capture)
    (hq : ∃ q, recordedPass s.log = some q) : CaptureOpens s ((s.recordFrame c r).fireCues n) := by
  obtain ⟨d, hd⟩ := recordFrame_spec s c r
  obtain ⟨ls, hl⟩ := fireCues_spec (s.recordFrame c r) n
  rw [hl, hd]
  exact ⟨rfl, rfl, rfl, rfl, rfl, rfl, rfl, rfl, hp, recordedPass_writeRecord r hq⟩

/-- R75, R150, R153: the start of a pass up to the beginning of capture, for a log that records the pass and holds no reference. -/
theorem passStart_capture {e : RunEntry} {es : List RunEntry} (hp : s.ctrl.pass = some .capture) (hr : s.ctrl.runList = e :: es)
    (hh : s.log.heldSlot = none) (hq : ∃ q, recordedPass s.log = some q) :
    ∃ v, CaptureOpens s v ∧ s.passStart = (v.captureBegun e).stageKeys 0 := by
  have hv := fireCues_opens (s.crossingAt 0) (State.frameRecord (s.crossingAt 0) s.startSample) 0 hp hq
  refine ⟨_, hv, ?_⟩
  simp only [State.passStart, repeatEvaluations_nil hh]
  rw [startCapture_eq hv.pass (hv.runList.trans hr)]
  exact evaluateEvent_nil (captureBegun_stages _ e 0 hv.pass)

theorem CaptureOpens.of_start (h : CaptureOpens t v) (hst : t.store = s.store) (hax : t.axes = s.axes)
    (hsp : t.ctrl.setpoints = s.ctrl.setpoints) (hrl : t.ctrl.runList = s.ctrl.runList) (hm : t.mon = s.mon)
    (hg : t.gen = s.gen) (hw : t.wheels = s.wheels) (hl : t.link = s.link) : CaptureOpens s v :=
  ⟨h.store.trans hst, h.axes.trans hax, h.setpoints.trans hsp, h.runList.trans hrl, h.mon.trans hm, h.gen.trans hg,
    h.wheels.trans hw, h.link.trans hl, h.pass, h.recorded⟩

theorem startPass_capture {e : RunEntry} {es : List RunEntry} (hk : s.purposeKind = .capture) (hr : s.ctrl.runList = e :: es)
    (hsync : s.clock.cfg.sync ≠ .follower) :
    ∃ v, CaptureOpens s v ∧ s.startPass e = (v.captureBegun e).stageKeys 0 := by
  obtain ⟨c, log, hb, hq, hh⟩ :=
    beginPass_capture { s with ctrl := { s.ctrl with entry := 1, landing := false, pass := some .capture } }
  simp only [State.startPass, hk, hb]
  rw [if_neg (by simpa only [State.enter_clock, startPassClock_cfg] using hsync)]
  obtain ⟨v, hv, heq⟩ := passStart_capture
    (s := ({ s with
      ctrl := { s.ctrl with entry := 1, landing := false, pass := some .capture }
      clock := startPassClock s.clock e, console := c, log := log } : State).enter .running) (e := e) (es := es) rfl hr hh hq
  exact ⟨v, hv.of_start rfl rfl rfl rfl rfl rfl rfl rfl, heq⟩

theorem exec_go_armed {e : RunEntry} {es : List RunEntry} (tag : Byte) (hs : s.ctrl.state = .armed)
    (hr : s.ctrl.runList = e :: es) :
    exec (.go tag []) s = .next (((s.reply Kind.go tag .ok []).clearSkipped).startPass e) := by
  have he : s.runEntry? 1 = some e := by simp [State.runEntry?, hr]
  have hgo : go tag [] s = .ok (((s.reply Kind.go tag .ok []).clearSkipped).startPass e) := by
    simp only [go, State.takeGo, hs, he]
    rfl
  exact congrArg (conclude s Kind.go tag) hgo

/-! ### The state in which the keys of pass frame 0 are staged -/

theorem captureBegun_store (s : State) (e : RunEntry) :
    (s.captureBegun e).store = openStaging s.store e.slot s.wheels.bindings := rfl

theorem captureBegun_wheels (s : State) (e : RunEntry) : (s.captureBegun e).wheels = s.wheels := by
  simp [State.captureBegun, State.beginCapture]

theorem captureBegun_ctrl (s : State) (e : RunEntry) : (s.captureBegun e).ctrl = s.ctrl := by
  simp [State.captureBegun, State.beginCapture]

theorem captureBegun_log (s : State) (e : RunEntry) : (s.captureBegun e).log = s.log := by
  simp [State.captureBegun, State.beginCapture]

theorem captureBegun_captureKey (s : State) (e e' : RunEntry) (n : Nat) (a : Axis) :
    (s.captureBegun e).captureKey e' n a = s.captureKey e' n a := by
  have hax : (s.captureBegun e).axes = s.axes := by simp [State.captureBegun, State.beginCapture]
  simp only [State.captureKey, captureBegun_ctrl, hax]

theorem captureBegun_rec (s : State) (e : RunEntry) (a : Axis) :
    (s.captureBegun e).gen.recs[a] =
      if isBound s.wheels.bindings a && !s.isDetached a then toCapture (s.currentSetpoint a) s.gen.recs[a]
      else s.gen.recs[a] := by
  have hg : (s.captureBegun e).gen.recs = tabulate fun a =>
      if isBound s.wheels.bindings a && !s.isDetached a then toCapture (s.currentSetpoint a) s.gen.recs[a]
      else s.gen.recs[a] := by simp only [State.captureBegun, State.beginCapture, State.mapGen, State.withStore]
  rw [hg, tabulate_get]

theorem isBound_iff {bs : List Binding} {a : Axis} : isBound bs a = true ↔ ∃ b ∈ bs, b.axis = a := by
  simp only [isBound, List.any_eq_true, decide_eq_true_eq]

/-- R174: a bound axis that is not detached is in CAPTURE at its setpoint. -/
theorem captureBegun_bound {e : RunEntry} {a : Axis} (hb : ∃ b ∈ s.wheels.bindings, b.axis = a) (hd : s.mon.detached[a] = []) :
    (s.captureBegun e).gen.recs[a] = toCapture (s.currentSetpoint a) s.gen.recs[a] := by
  rw [captureBegun_rec, isBound_iff.mpr hb, isDetached_false hd]
  rfl

/-- R174: every other axis keeps its generator record. -/
theorem captureBegun_unbound {e : RunEntry} {a : Axis} (h : (∀ b ∈ s.wheels.bindings, b.axis ≠ a) ∨ s.mon.detached[a] ≠ []) :
    (s.captureBegun e).gen.recs[a] = s.gen.recs[a] := by
  rw [captureBegun_rec, if_neg]
  rw [Bool.and_eq_true, Bool.not_eq_true', isBound_iff]
  rintro ⟨⟨b, hb, ha⟩, hd⟩
  rcases h with h | h
  · exact h b hb ha
  · rw [isDetached_iff.mpr h] at hd
    cases hd

/-! ### The keys of pass frame 0 -/

theorem zip_map_self {α β γ : Type} (f : α → β) (g : β × α → γ) (l : List α) :
    ((l.map f).zip l).map g = l.map fun x => g (f x, x) := by
  induction l with
  | nil => rfl
  | cons x l ih => rw [List.map_cons, List.zip_cons_cons, List.map_cons, List.map_cons, ih]

theorem stagedKeys_nil {st : Store} (h : st.staging = []) : stagedKeys st = 0 := by
  simp [stagedKeys, h]

theorem captureBegun_entry {e : RunEntry} {es : List RunEntry} (hr : s.ctrl.runList = e :: es) :
    (s.captureBegun e).runEntry? 1 = some e := by
  simp [State.runEntry?, captureBegun_ctrl, hr]

theorem captureBegun_stageKeys {e : RunEntry} {es : List RunEntry} (hr : s.ctrl.runList = e :: es) :
    (s.captureBegun e).stageKeys 0 =
      ((List.range' 0 s.wheels.bindings.length).zip s.wheels.bindings).foldl (State.stageFor e 0) (s.captureBegun e) := by
  have h := stageKeys_eq (n := 0) (captureBegun_entry hr) (Nat.zero_mod _)
  rwa [captureBegun_wheels] at h

/-- R174, R176: with a free key for each binding, each list opens with its key of pass frame 0. -/
theorem captureBegun_staged {e : RunEntry} {es : List RunEntry} (hr : s.ctrl.runList = e :: es) (hs : s.store.staging = [])
    (hf : s.wheels.bindings.length ≤ s.store.free) :
    ((s.captureBegun e).stageKeys 0).store =
      { s.store with
        staging := s.wheels.bindings.map fun b : Binding =>
          { axis := b.axis, closed := false, keys := [s.captureKey e 0 b.axis] }
        free := s.store.free - s.wheels.bindings.length, stagingTarget := some e.slot, poolRefused := false } := by
  have hfree : (s.captureBegun e).store.free = s.store.free := by
    rw [captureBegun_store]
    exact congrArg (s.store.free + ·) (stagedKeys_nil hs)
  have hopen : ∀ l ∈ (openStaging s.store e.slot s.wheels.bindings).staging, l.closed = false ∧ l.keys.length < 4096 := by
    intro l hl
    obtain ⟨b, -, rfl⟩ := List.mem_map.mp hl
    exact ⟨rfl, Nat.zero_lt_succ 4095⟩
  rw [captureBegun_stageKeys hr, foldl_stageFor_taken e 0 _ _ 0 [] (openStaging s.store e.slot s.wheels.bindings).staging rfl rfl rfl hopen
    (List.length_map _) (hfree ▸ hf)]
  simp only [State.withStore, captureBegun_captureKey, hfree, List.nil_append]
  simp only [captureBegun_store, openStaging, zip_map_self, withKey, List.nil_append]

/-- R21, R152: an empty pool refuses the first key, stages none and shows in the log. -/
theorem captureBegun_refused {e : RunEntry} {es : List RunEntry} (hr : s.ctrl.runList = e :: es) (hs : s.store.staging = [])
    (hf : s.store.free = 0) (hb : s.wheels.bindings ≠ []) :
    ((s.captureBegun e).stageKeys 0).store = { openStaging s.store e.slot s.wheels.bindings with poolRefused := true } ∧
      ((s.captureBegun e).stageKeys 0).log = markShort s.log := by
  obtain ⟨b, bs, hbs⟩ := List.exists_cons_of_ne_nil hb
  have hl : (s.captureBegun e).store.staging[0]? = some { axis := b.axis, keys := [], closed := false } := by
    rw [captureBegun_store, openStaging, hbs]
    rfl
  have hfree : (s.captureBegun e).store.free = 0 := by
    rw [captureBegun_store, openStaging]
    simp only [hf, stagedKeys_nil hs]
  have hfirst : State.stageFor e 0 (s.captureBegun e) (0, b) =
      { (s.captureBegun e).withStore { (s.captureBegun e).store with poolRefused := true } with
        log := markShort (s.captureBegun e).log } := by
    simp only [State.stageFor, stageKey_emptyPool hl rfl rfl hfree, if_true, State.withStore]
  rw [captureBegun_stageKeys hr, hbs, List.length_cons, List.range'_succ, List.zip_cons_cons, List.foldl_cons, hfirst,
    foldl_stageFor_refused e 0 bs _ _ rfl]
  exact ⟨by rw [← hbs, ← captureBegun_store]; rfl, by rw [captureBegun_log]⟩

/-- R174 to R176: GO in ARMED for a CAPTURE pass. -/
theorem go_capture {e : RunEntry} {es : List RunEntry} (tag : Byte) (hst : s.ctrl.state = .armed) (hr : s.ctrl.runList = e :: es)
    (hp : s.ctrl.purpose = some (.arm .capture)) (hsync : s.clock.cfg.sync ≠ .follower) :
    ∃ v, CaptureOpens s v ∧ exec (.go tag []) s = .next ((v.captureBegun e).stageKeys 0) := by
  have hk : ((s.reply Kind.go tag .ok []).clearSkipped).purposeKind = .capture := by
    have : ((s.reply Kind.go tag .ok []).clearSkipped).ctrl.purpose = some (.arm .capture) := hp
    simp only [State.purposeKind, this]
  obtain ⟨v, hv, heq⟩ := startPass_capture (e := e) (es := es) hk hr hsync
  rw [exec_go_armed tag hst hr, heq]
  exact ⟨v, hv.of_start rfl rfl rfl rfl rfl rfl rfl rfl, rfl⟩

end Sys2Proof.Machine
end

/-! SUPPORT. A servo period in RUNNING (R29, R48, R162, R176): what its opening leaves, and the keys that its crossing stages. -/
section
namespace Sys2Proof.Machine

variable {s t u : State}

/-! ### The opening of a period -/

theorem fallTimers_spec (s : State) :
    ∃ gen check n, s.fallTimers =
      { s with
        clock := { s.clock with lostTimer := fallTimer s.clock.period s.clock.lostTimer }
        gen := gen, check := check, openReads := n } := by
  unfold State.fallTimers State.advanceWalk
  split <;> exact ⟨_, _, _, rfl⟩

theorem sampleFilter_spec (s : State) (l : Line) :
    ∃ ls, s.sampleFilter l = { s with lines := ls } ∧ ls.filterL1.active = s.lines.filterL1.active := by
  unfold State.sampleFilter
  split
  · next f hf =>
    split
    · refine ⟨_, rfl, ?_⟩
      have hstep (x : Bool) : (stepFilter f x).active = f.active := by
        unfold stepFilter
        split <;> rfl
      by_cases hl : l = 1
      · subst hl
        cases hf
        exact hstep _
      · simp only [putFilter, if_neg hl]
        split
        · rfl
        · split <;> rfl
    · exact ⟨_, rfl, rfl⟩
  · exact ⟨_, rfl, rfl⟩

/-- R183: a sample flips no filter; the edges wait to be taken. -/
theorem samplePins_spec (s : State) (pins : BitVec 12) :
    ∃ ls, s.samplePins pins = { s with lines := ls } ∧ ls.filterL1.active = s.lines.filterL1.active := by
  have fold : ∀ (ks : List Line) (s : State),
      ∃ ls, ks.foldl State.sampleFilter s = { s with lines := ls } ∧ ls.filterL1.active = s.lines.filterL1.active := by
    intro ks
    induction ks with
    | nil => exact fun s => ⟨_, rfl, rfl⟩
    | cons k ks ih =>
      intro s
      obtain ⟨ls, h, ha⟩ := sampleFilter_spec s k
      obtain ⟨ls', h', ha'⟩ := ih (s.sampleFilter k)
      rw [List.foldl_cons, h']
      rw [h] at ha' ⊢
      exact ⟨ls', rfl, ha'.trans ha⟩
  obtain ⟨ls, h, ha⟩ := fold [1, 2, 3] (s.seePins pins)
  unfold State.samplePins State.armDetector
  rw [h]
  split <;> exact ⟨_, rfl, ha⟩

/-- R182: with L1 inactive the expiry's e-stop evaluation brings no action. -/
theorem estopAtExpiry_settles (h : s.lines.filterL1.active = false) :
    ∃ mon, SettlesFaults { s with mon := mon } s.estopAtExpiry := by
  unfold State.estopAtExpiry
  split
  · exact ⟨s.mon, .refl s⟩
  · rw [State.evaluateEstop, evaluateEvent_false _ _ h]
    exact ⟨_, settleFaults_settles _ _⟩

/-- The clock once its timers have fallen by a period. -/
def fallenClock (c : Clock) : Clock :=
  { c with lostTimer := c.lostTimer.map (· - c.period), trigger := c.trigger.map (· - 1) }

/-- From s to t a period has been opened: of these blocks only the clock's timers have changed. -/
structure Ticks (s t : State) : Prop where
  store : t.store = s.store
  axes : t.axes = s.axes
  ctrl : t.ctrl = s.ctrl
  wheels : t.wheels = s.wheels
  clock : t.clock = fallenClock s.clock

theorem tick_ticks (pins : BitVec 12) (hl : s.lines.filterL1.active = false)
    (hT : s.clock.period = periodOf s.clock.cfg.servoRate) : Ticks s (s.tick pins) := by
  obtain ⟨gen, check, k, hf⟩ := fallTimers_spec s
  have hp : s.fallTimers.takePeriod = s.fallTimers := by
    rw [hf]
    exact if_pos hT.symm
  obtain ⟨ls, hs, ha⟩ := samplePins_spec s.fallTimers.countPeriod pins
  have hl' : s.fallTimers.countPeriod.lines.filterL1.active = false := by
    rw [hf]
    exact hl
  obtain ⟨mon, h⟩ := estopAtExpiry_settles (s := s.fallTimers.countPeriod.samplePins pins) (by rw [hs]; exact ha.trans hl')
  rw [State.tick, hp]
  generalize State.estopAtExpiry _ = t at h ⊢
  rw [hs, hf] at h
  exact ⟨h.store, h.axes, h.ctrl, h.wheels, h.clock⟩

/-! ### The crossing -/

theorem takeCrossing_capture (n : Nat) (hp : s.ctrl.pass = some .capture) :
    (s.takeCrossing n).store = (s.stageKeys n).store ∧ (s.takeCrossing n).ctrl = s.ctrl := by
  obtain ⟨st, log, hs, -⟩ := stageKeys_spec s n
  obtain ⟨ls, hl⟩ := fireCues_spec (s.stageKeys n) n
  simp only [State.takeCrossing, State.stageCrossing, if_pos hp, hl]
  rw [hs]
  exact ⟨trivial, rfl⟩

theorem afterSteps_running (hs : s.ctrl.state = .running) (hp : s.ctrl.pass.isSome = true) : s.afterSteps = s := by
  have hrest : s.takeAllAtRest = s := by simp only [State.takeAllAtRest, hs]
  rw [State.afterSteps, hrest, ite_self, settleFaults_inPass hp]

/-- R162, R108: the state in which the period's crossing is taken: the clock advanced, the generator stepped, the setpoints formed. -/
structure Advances (s t : State) : Prop where
  store : t.store = s.store
  axes : t.axes = s.axes
  wheels : t.wheels = s.wheels
  state : t.ctrl.state = s.ctrl.state
  pass : t.ctrl.pass = s.ctrl.pass
  runList : t.ctrl.runList = s.ctrl.runList

theorem runPeriod_running {e : RunEntry} {c' : Clock} {h : HandOver} {n : Nat} (hadv : s.clock.state = .advancing)
    (hst : s.ctrl.state = .running) (hp : s.ctrl.pass = some .capture) (hentry : s.ctrl.entry = 1) (hr : s.ctrl.runList = [e])
    (hclock : advanceClock s.clock 1 e none = (c', h)) (hland : h.landed = false) (hx : h.crossing = some n) :
    ∃ x, Advances s x ∧ s.runPeriod = x.takeCrossing n := by
  have he : s.currentEntry? = some e := by simp [State.currentEntry?, State.runEntry?, hentry, hr]
  have hnext : s.runEntry? (1 + 1) = none := by simp [State.runEntry?, hr]
  have hadvance : s.advance = ({ s with clock := c', ctrl := { s.ctrl with entry := h.entry } }, some h) := by
    simp only [State.advance, hadv, he, hentry, hnext, hclock]
  simp only [State.runPeriod, hadvance]
  generalize hx' : State.formSetpoints _ _ = x
  have hA : Advances s x := by
    subst hx'
    constructor <;> simp [State.formSetpoints, State.stepGen]
  refine ⟨x, hA, ?_⟩
  have hpx : x.ctrl.pass = some .capture := hA.pass.trans hp
  have hk := (takeCrossing_capture n hpx).2
  simp only [State.takeHandOver, hx, hland, Bool.false_eq_true, if_false]
  exact afterSteps_running (by rw [hk]; exact hA.state.trans hst) (by rw [hk, hpx]; rfl)

theorem sendSetpoint_ctrl (s : State) (a : Axis) : (s.sendSetpoint a).ctrl = s.ctrl := by
  unfold State.sendSetpoint
  simp only
  split <;> rfl

theorem sendAcyclic_ctrl (s : State) (p : LinkPeriod) : (s.sendAcyclic p).ctrl = s.ctrl := by
  unfold State.sendAcyclic
  split <;> rfl

theorem startPeriod_ctrl (s : State) : s.startPeriod.ctrl = s.ctrl := by
  simp only [State.startPeriod, State.grantSlot]
  split
  · exact sendSetpoint_ctrl ..
  · exact sendSetpoint_ctrl ..
  · exact sendAcyclic_ctrl ..
  · exact sendAcyclic_ctrl ..
  · rfl

/-- R176: with room everywhere, a crossing at a multiple of the stride stages one key for each binding. -/
theorem stageKeys_open {e : RunEntry} {n : Nat} (he : s.runEntry? 1 = some e) (hn : n % s.wheels.stride = 0)
    (hr : s.store.poolRefused = false) (hopen : ∀ l ∈ s.store.staging, l.closed = false ∧ l.keys.length < 4096)
    (hlen : s.store.staging.length = s.wheels.bindings.length) (hf : s.wheels.bindings.length ≤ s.store.free) :
    (s.stageKeys n).store =
      { s.store with
        staging := (s.store.staging.zip s.wheels.bindings).map fun p => withKey p.1 (s.captureKey e n p.2.axis)
        free := s.store.free - s.wheels.bindings.length } := by
  rw [stageKeys_eq he hn, foldl_stageFor_taken e n _ s 0 [] s.store.staging rfl rfl hr hopen hlen hf]
  rfl

/-- R176: a crossing between the multiples of the stride stages no key. -/
theorem stageKeys_between {n : Nat} (hn : n % s.wheels.stride ≠ 0) : s.stageKeys n = s := by
  unfold State.stageKeys
  split
  · rfl
  · exact if_neg hn

/-- A servo period in RUNNING with a crossing: the store and the setpoints that it leaves. -/
theorem servoPeriod_crossing {e : RunEntry} {c' : Clock} {h : HandOver} {n : Nat} (pins : BitVec 12) (hq : Quiet s)
    (hlink : s.link.period = none) (hl1 : s.lines.filterL1.active = false)
    (hT : s.clock.period = 1000000 / s.clock.cfg.servoRate) (hadv : s.clock.state = .advancing)
    (hst : s.ctrl.state = .running) (hp : s.ctrl.pass = some .capture) (hentry : s.ctrl.entry = 1) (hr : s.ctrl.runList = [e])
    (hclock : advanceClock (fallenClock s.clock) 1 e none = (c', h)) (hland : h.landed = false) (hx : h.crossing = some n) :
    ∃ x, Advances s x ∧ (s.servoPeriod pins).store = (x.stageKeys n).store ∧ (s.servoPeriod pins).ctrl = x.ctrl := by
  have hT' := tick_ticks pins hl1 hT
  rw [State.servoPeriod, hq.finishBefore hlink]
  generalize s.tick pins = u at hT' ⊢
  obtain ⟨hs, ha, hc, hw, hk⟩ := hT'
  obtain ⟨x, hA, hrun⟩ := runPeriod_running (s := u) (e := e) (c' := c') (h := h) (n := n) (by rw [hk]; exact hadv)
    (by rw [hc]; exact hst) (by rw [hc]; exact hp) (by rw [hc]; exact hentry) (by rw [hc]; exact hr) (by rw [hk]; exact hclock)
    hland hx
  obtain ⟨h1, h2⟩ := takeCrossing_capture (s := x) n (by rw [hA.pass, hc]; exact hp)
  refine ⟨x, ?_, ?_, ?_⟩
  · exact ⟨hA.store.trans hs, hA.axes.trans ha, hA.wheels.trans hw, by rw [hA.state, hc], by rw [hA.pass, hc],
      by rw [hA.runList, hc]⟩
  · rw [hrun, State.store_of_footing (State.startPeriod_footing (s := x.takeCrossing n))]
    exact h1
  · rw [hrun, startPeriod_ctrl]
    exact h2

end Sys2Proof.Machine
end

/-! Capture staging and its commit, in a pass: O50. -/
section
namespace Sys2Proof.Machine

/-- R176: in CAPTURE an axis goes toward the setpoint that it started at and its wheel's term. -/
theorem stepRecord_capture (r : AxisRec) (w : Wheels) (b : Binding) (base : BitVec 32) (period : Nat) (x : Int) (g : GenRec)
    (start : Int) (hw : w.bindings = [b]) (hm : g.mode = .capture) (hg : g.captureStart = some start) :
    (stepRecord r w [base] period .on x b.axis g).target =
      some (softClamp r (start + roundDiv (b.ratio * (w.counters[b.wheel] - base).toInt) 65536)) := by
  have hterm : captureTerms w.counters b.axis w.bindings [base] = wheelTerm b.ratio w.counters[b.wheel] base := by
    simp [captureTerms, hw]
  simp only [stepRecord, hm, stepMoving, stepTarget, hterm, hg, Option.getD_some]
  rfl

/-- Settles O50: one key, the start of a pass, a crossing, a step in CAPTURE, and the commit. -/
theorem captureStagesAndCommits : Obligations.CaptureStagesAndCommits := by
  refine ⟨fun st n key l hl => ⟨stageKey_passedOver hl, fun hr hc => ⟨stageKey_emptyPool hl hr hc, stageKey_fullList hl hr hc,
    stageKey_taken hl hr hc⟩⟩, fun tag s e es hst hr hp hsync hs => ?_, ?_, stepRecord_capture,
    fun tag s m mv hst hp ht hm => stop_held tag hst hp ht hm⟩
  · obtain ⟨v, hv, hgo⟩ := go_capture tag hst hr hp hsync
    have hrun : v.ctrl.runList = e :: es := hv.runList.trans hr
    have hstaging : v.store.staging = [] := by rw [hv.store, hs]
    obtain ⟨st, log, ht, hmoves⟩ := stageKeys_spec (v.captureBegun e) 0
    have hgen : ((v.captureBegun e).stageKeys 0).gen = (v.captureBegun e).gen := by rw [ht]
    refine ⟨_, hgo, fun hf => ?_, fun hf hb => ?_, ?_, ?_, fun a => ⟨fun hb hd => ?_, fun h => ?_⟩⟩
    · rw [captureBegun_staged hrun hstaging (by rwa [hv.wheels, hv.store]), hv.store, hv.wheels]
      simp only [State.captureKey, hv.setpoints, hv.axes, Nat.add_zero]
    · obtain ⟨hstore, hlog⟩ := captureBegun_refused hrun hstaging (by rwa [hv.store]) (by rwa [hv.wheels])
      rw [hstore, hlog, hv.store]
      refine ⟨rfl, ?_, fun l hl => ?_, markShort_recorded hv.recorded⟩
      · exact (congrArg (s.store.free + ·) (stagedKeys_nil hs)).trans hf
      · obtain ⟨b, -, rfl⟩ := List.mem_map.mp hl
        rfl
    · rw [ht, ← hv.store]
      exact hmoves
    · rw [hgen, ← hv.wheels]
      rfl
    · rw [hgen, captureBegun_bound (by rwa [hv.wheels]) (by rwa [hv.mon]), hv.currentSetpoint]
      exact ⟨rfl, rfl⟩
    · rw [hgen, captureBegun_unbound (by rwa [hv.wheels, hv.mon]), hv.gen]
  · intro pins s c e c' h n hc hq hlink hl1 hT hadv hst hp hentry hr hclock hland hx
    subst hc
    obtain ⟨x, hA, hstore, hctrl⟩ := servoPeriod_crossing pins hq hlink hl1 hT hadv hst hp hentry hr hclock hland hx
    refine ⟨s.servoPeriod pins, rfl, fun hn => ?_, fun hn hpool hopen hlen hf => ?_⟩
    · rw [hstore, stageKeys_between (by rwa [hA.wheels]), hA.store]
    · have he : x.runEntry? 1 = some e := by simp [State.runEntry?, hA.runList, hr]
      rw [hstore, hctrl, stageKeys_open he (by rwa [hA.wheels]) (by rwa [hA.store]) (by rwa [hA.store])
        (by rwa [hA.store, hA.wheels]) (by rwa [hA.store, hA.wheels]), hA.store, hA.wheels]
      simp only [State.captureKey, withKey, hA.axes]

end Sys2Proof.Machine
end

/-! SUPPORT. The end of an evaluation (R41): what the soft clamp gives below, between and above the soft limits, and when it is marked. -/
section
namespace Sys2Proof.Machine

section
variable {r : AxisRec} {z : Int}

theorem softClamp_below (h : z < r.softMin) : softClamp r z = r.softMin := if_pos h

theorem softClamp_above (hr : r.softMin ≤ r.softMax) (h : r.softMax < z) : softClamp r z = r.softMax := by
  rw [softClamp, if_neg (by omega), if_pos h]

theorem softClamp_inside (hlo : r.softMin ≤ z) (hhi : z ≤ r.softMax) : softClamp r z = z := by
  rw [softClamp, if_neg (by omega), if_neg (by omega)]

theorem softClamp_mem (hr : r.softMin ≤ r.softMax) (z : Int) : r.softMin ≤ softClamp r z ∧ softClamp r z ≤ r.softMax := by
  rcases lt_or_ge z r.softMin with hlo | hlo
  · rw [softClamp_below hlo]
    exact ⟨le_rfl, hr⟩
  · rcases lt_or_ge r.softMax z with hhi | hhi
    · rw [softClamp_above hr hhi]
      exact ⟨hr, le_rfl⟩
    · rw [softClamp_inside hlo hhi]
      exact ⟨hlo, hhi⟩

theorem isClamped_iff : isClamped r z = true ↔ z < r.softMin ∨ r.softMax < z := by simp [isClamped]

theorem isClamped_eq_false : isClamped r z = false ↔ r.softMin ≤ z ∧ z ≤ r.softMax := by simp [isClamped]

end

/-- R41: with a track or without, an evaluation ends in stages 7 and 8. -/
theorem evaluateTrack_stages (r : AxisRec) (m : Option LensMap) (track : Option Track) (t : Nat) (held : Int) :
    (evaluateTrack r m track t held).sum = sat32 ((evaluateTrack r m track t held).mapped + r.origin) ∧
      (evaluateTrack r m track t held).setpoint = softClamp r (evaluateTrack r m track t held).sum ∧
      (evaluateTrack r m track t held).clamped = isClamped r (evaluateTrack r m track t held).sum := by
  cases track with
  | none => exact ⟨rfl, rfl, rfl⟩
  | some ks => exact ⟨rfl, rfl, rfl⟩

/-- Settles O13, from the soft clamp of the sum. -/
theorem setpointsStayInsideTheSoftLimits : Obligations.SetpointsStayInsideTheSoftLimits := by
  intro r m track t held hr
  obtain ⟨hsum, hset, hclamped⟩ := evaluateTrack_stages r m track t held
  rw [hset, hclamped]
  obtain ⟨hlo, hhi⟩ := softClamp_mem hr (evaluateTrack r m track t held).sum
  refine ⟨hsum, hlo, hhi, isClamped_iff, softClamp_below, softClamp_above hr, fun h => ?_⟩
  obtain ⟨hlo, hhi⟩ := isClamped_eq_false.mp h
  exact softClamp_inside hlo hhi

end Sys2Proof.Machine
end

/-! SUPPORT. How a request about lens maps or a probe with a well-formed body is answered (R31, R32, R42, R43), one lemma per outcome. -/
section
namespace Sys2Proof.Machine

/-! ### Map entries -/

theorem readMapEntry_bytes (e : Int × Int) (rest : List Byte) (h : fits32 e.1 = true ∧ fits32 e.2 = true) :
    readMapEntry (mapEntryBytes e ++ rest) = some (e, rest) := by
  obtain ⟨hi, ho⟩ := h
  simp only [readMapEntry, mapEntryBytes, List.append_assoc, readI32_i32 e.1 _ hi, readI32_i32 e.2 _ ho]

theorem mapEntryBytes_ne_nil (e : Int × Int) : mapEntryBytes e ≠ [] := by simp [mapEntryBytes, i32, beBytes]

/-- Map entries in range, laid one after another, read back as the map. -/
theorem readAll_mapEntries (es : LensMap) (h : ∀ e ∈ es, fits32 e.1 = true ∧ fits32 e.2 = true) (fuel : Nat)
    (hf : es.length ≤ fuel) : readAll readMapEntry fuel (es.flatMap mapEntryBytes) = some es := by
  have hread := readAll_flatMap readMapEntry (fun e : { e : Int × Int // fits32 e.1 = true ∧ fits32 e.2 = true } =>
    mapEntryBytes e.1) Subtype.val (fun e rest => readMapEntry_bytes e.1 rest e.2) (fun e => mapEntryBytes_ne_nil e.1)
    (es.attachWith _ h) fuel (by rwa [List.length_attachWith])
  rwa [← List.flatMap_map, List.attachWith_map_subtype_val] at hread

section
variable {m : MoveSlot} {a : Axis} {es : LensMap} {tag : Byte} {s : State}

/-- The body of a MAP_LOAD. -/
def mapBody (a : Axis) (es : LensMap) : List Byte := u8 a.val ++ u16 es.length ++ es.flatMap mapEntryBytes

theorem mapLoadOperands_bytes (h : mapInRange es = true) : mapLoadOperands (mapBody a es) = some (a.val, es) := by
  simp only [mapInRange, Bool.and_eq_true, decide_eq_true_eq, List.all_eq_true] at h
  obtain ⟨⟨⟨h2, h64⟩, hfit⟩, -⟩ := h
  simp only [mapBody, u8_eq, u16_eq, List.cons_append, List.nil_append, mapLoadOperands,
    readAll_mapEntries es hfit _ (length_le_flatMap mapEntryBytes mapEntryBytes_ne_nil es), beNat_u16 es.length (by omega),
    axis_byte]
  exact if_pos ⟨h2, h64, trivial⟩

theorem risingInputs_of_inRange (h : mapInRange es = true) : risingInputs es = true := by
  rw [mapInRange, Bool.and_eq_true] at h
  exact h.2

/-! ### MAP_LOAD and MAP_CLEAR -/

theorem mapLoad_pending (h : mapInRange es = true) (hp : s.runPending = true) :
    mapLoad tag (mapBody a es) s = refusedWith .inUse := by
  simp only [mapLoad, mapLoadOperands_bytes h, need_some_bind, axisOf_number, hp, Bool.not_true, ensure_false_bind,
    refusedWith]

theorem mapLoad_accepted (h : mapInRange es = true) (hp : s.runPending = false) :
    mapLoad tag (mapBody a es) s = .ok ((storeMap s a (some es)).reply Kind.mapLoad tag .ok (u8 es.length)) := by
  simp only [mapLoad, mapLoadOperands_bytes h, need_some_bind, axisOf_number, hp, Bool.not_false, ensure_true_bind,
    risingInputs_of_inRange h]
  rfl

theorem mapClear_pending (hp : s.runPending = true) : mapClear tag (u8 a.val) s = refusedWith .inUse := by
  simp only [mapClear, oneByte_bytes _ (axis_lt a), need_some_bind, axisOf_number, hp, Bool.not_true, ensure_false_bind,
    refusedWith]

theorem mapClear_accepted (hp : s.runPending = false) :
    mapClear tag (u8 a.val) s = .ok ((storeMap s a none).reply Kind.mapClear tag .ok []) := by
  simp only [mapClear, oneByte_bytes _ (axis_lt a), need_some_bind, axisOf_number, hp, Bool.not_false, ensure_true_bind]
  rfl

/-! ### EVAL_PROBE -/

/-- The body of an EVAL_PROBE. -/
def probeBody (m : MoveSlot) (a : Axis) (time : Nat) : List Byte := u8 (m.val + 1) ++ u8 a.val ++ u32 time

theorem evalProbeOperands_bytes {time : Nat} (h : time ≤ maxU32) :
    evalProbeOperands (probeBody m a time) = some { slot := m.val + 1, axis := a.val, time } := by
  simp only [maxU32] at h
  simp only [probeBody, u8_eq, u32_eq, List.cons_append, List.nil_append, evalProbeOperands,
    beNat_u32 time (by omega), slot_byte, axis_byte]

theorem evalProbe_emptySlot {time : Nat} (h : time ≤ maxU32) (hm : s.store.moves[m] = none) :
    evalProbe tag (probeBody m a time) s = refusedWith .noSuch := by
  simp only [evalProbe, evalProbeOperands_bytes h, need_some_bind, moveSlotOf_number, axisOf_number, hm, Option.isSome_none,
    ensure_false_bind, refusedWith]

theorem evalProbe_noAxis {time : Nat} (h : time ≤ maxU32) (hm : s.store.moves[m].isSome = true)
    (hc : s.configured a = false) (ht : s.trackOf m a = none) :
    evalProbe tag (probeBody m a time) s = refusedWith .noSuch := by
  simp only [evalProbe, evalProbeOperands_bytes h, need_some_bind, moveSlotOf_number, axisOf_number, hm, ensure_true_bind,
    hc, ht, Option.isSome_none, Bool.or_self, ensure_false_bind, refusedWith]

theorem evalProbe_accepted {time : Nat} (h : time ≤ maxU32) (hm : s.store.moves[m].isSome = true)
    (ha : s.configured a = true ∨ (s.trackOf m a).isSome = true) :
    evalProbe tag (probeBody m a time) s =
      .ok (s.reply Kind.evalProbe tag .ok
        (probeBytes (s.evaluate m a time (s.heldValue a (s.currentSetpoint a))))) := by
  simp only [evalProbe, evalProbeOperands_bytes h, need_some_bind, moveSlotOf_number, axisOf_number, hm, ensure_true_bind,
    (Bool.or_eq_true _ _).mpr ha]
  rfl

end

/-- Settles O16, from the outcomes of each request. -/
theorem lensMapsAndTheProbe : Obligations.LensMapsAndTheProbe := by
  refine ⟨fun a es tag s h => ⟨fun hp => ⟨conclude_of_accepted (mapLoad_accepted h hp),
      conclude_of_accepted (mapClear_accepted hp)⟩,
    fun hp => ⟨conclude_of_refused (mapLoad_pending h hp), conclude_of_refused (mapClear_pending hp)⟩⟩,
    fun m a time tag s h => ⟨fun hm ha => conclude_of_accepted (evalProbe_accepted h hm ha), fun habsent => ?_⟩⟩
  cases hm : s.store.moves[m] with
  | none => exact conclude_of_refused (evalProbe_emptySlot h hm)
  | some mv =>
    obtain ⟨hc, ht⟩ := habsent.resolve_left (by rw [hm]; exact Option.some_ne_none mv)
    exact conclude_of_refused (evalProbe_noAxis h (by rw [hm]; rfl) hc ht)

end Sys2Proof.Machine
end

/-! SUPPORT. The axis table (R26, R27, R29): what un-configuring an axis leaves of its instances and of the acyclic queue (R122, R137), and how
an AXIS_SET with a well-formed body is answered, one lemma per outcome. -/
section
namespace Sys2Proof.Machine

/-! ### Instances that pass out of evaluation (R137) -/

theorem passOutInst_idem (i : CondInst) : passOutInst (passOutInst i) = passOutInst i := rfl

/-- R137: what is named passes out, and nothing else changes. -/
theorem passOut_inst (m : Mon) (ids : List CondId) (j : CondId) :
    (passOut m ids).insts[j] = if j ∈ ids then passOutInst m.insts[j] else m.insts[j] := by
  have fold : ∀ (ids : List CondId) (v : Vector CondInst 99),
      (ids.foldl (fun v i => put v i (passOutInst v[i])) v)[j] = if j ∈ ids then passOutInst v[j] else v[j] := by
    intro ids
    induction ids with
    | nil => exact fun v => (if_neg List.not_mem_nil).symm
    | cons i ids ih =>
      intro v
      rw [List.foldl_cons, ih, put_get]
      by_cases hij : i = j
      · subst hij
        simp [passOutInst_idem]
      · simp [hij, Ne.symm hij]
  exact fold ids m.insts

theorem condOn_mem_axisConds (c : AxisCond) (a : Axis) : condOn c a ∈ axisConds a := by
  cases c <;> simp [axisConds]

namespace State

theorem releaseAxis_insts (s : State) (a : Axis) : (s.releaseAxis a).mon.insts = s.mon.insts := by
  unfold releaseAxis
  split <;> rfl

theorem releaseAll_insts (s : State) : s.releaseAll.mon.insts = s.mon.insts := by
  have fold : ∀ (as : List Axis) (s : State), (as.foldl releaseAxis s).mon.insts = s.mon.insts := by
    intro as
    induction as with
    | nil => exact fun _ => rfl
    | cons a as ih => exact fun s => (ih _).trans (releaseAxis_insts s a)
  rw [releaseAll]
  exact fold allAxes s

theorem settleFaults_insts (s : State) (b : Bool) : (s.settleFaults b).mon.insts = s.mon.insts := by
  obtain ⟨c, hc, -⟩ := s.releaseAll.reportFaultsIf_spec (b || allAxes.any s.releasable)
  simp only [settleFaults, hc, releaseAll_insts]

theorem passOutConds_insts (s : State) (ids : List CondId) : (s.passOutConds ids).mon.insts = (passOut s.mon ids).insts :=
  settleFaults_insts _ _

/-! ### An axis un-configured (R122, R137) -/

/-- R122: transactions that leave the queue change only the link's queue, its slot in progress and the console. -/
theorem abortQueue_spec (s : State) (drop : Acyclic → Bool) :
    ∃ c period, s.abortQueue drop =
      { s with
        console := c
        link := { s.link with queue := s.link.queue.filter fun x => !drop x, period := period } } := by
  obtain ⟨c, hc, -⟩ := foldl_abortPass s (s.link.queue.filter drop)
  exact ⟨c, (s.abortQueue drop).link.period, by simp only [abortQueue, hc]⟩

end State

/-- From s to t an axis has passed out of the link's queue and out of evaluation. -/
structure Unconfigures (s t : State) (a : Axis) : Prop where
  axes : t.axes = s.axes
  store : t.store = s.store
  clock : t.clock = s.clock
  ctrl : t.ctrl = s.ctrl
  check : t.check = s.check
  log : t.log = s.log
  wheels : t.wheels = s.wheels
  lines : t.lines = s.lines
  queue : t.link.queue = s.link.queue.filter fun x => !(x.axis = a)
  insts : ∀ c, t.mon.insts[condOn c a] = passOutInst s.mon.insts[condOn c a]

/-- R122, R137: an axis un-configured with no enable timeout of it due. -/
theorem unconfigureAxis_unconfigures {s : State} {a : Axis} (hdue : s.link.due[a] = false) :
    Unconfigures s (s.unconfigureAxis a) a := by
  have htimeout : s.enableTimesOut a = s := if_neg (by rw [hdue]; decide)
  obtain ⟨c, period, hq⟩ := s.abortQueue_spec fun x => x.axis = a
  have ht : s.unconfigureAxis a = (s.abortQueue fun x => x.axis = a).passOutConds (axisConds a) := by
    rw [State.unconfigureAxis, htimeout]
  rw [hq] at ht
  have h := passOutConds_settles { s with
    console := c
    link := { s.link with queue := s.link.queue.filter fun x => !(x.axis = a), period := period } } (axisConds a)
  rw [← ht] at h
  exact {
    axes := h.axes
    store := h.store
    clock := h.clock
    ctrl := h.ctrl
    check := h.check
    log := h.log
    wheels := h.wheels
    lines := h.lines
    queue := by rw [h.link]
    insts := fun c => by rw [ht, State.passOutConds_insts, passOut_inst, if_pos (condOn_mem_axisConds c a)] }

/-! ### The record in a body (Table 2-1) -/

/-- The fields that an AXIS_SET of a record carries. -/
def axisSetFields (a : Axis) (r : AxisRec) : AxisSetOperands :=
  { axis := a.val, configured := if r.configured then 1 else 0, softMin := r.softMin, softMax := r.softMax, origin := r.origin
    velLimit := r.velLimit, accLimit := r.accLimit, jogVel := r.jogVel, jogAcc := r.jogAcc, window := r.window }

theorem readNat_u32 (v : Nat) (rest : List Byte) (h : v ≤ 2147483647) : readNat 4 (u32 v ++ rest) = some (v, rest) :=
  readNat_beBytes 4 v rest (by omega)

theorem readNat_u16_end (v : Nat) (h : v ≤ 65535) : readNat 2 (u16 v) = some (v, []) := by
  rw [← List.append_nil (u16 v)]
  exact readNat_beBytes 2 v [] (by omega)

theorem flag_eq (b : Bool) : flag b = [if b then 1 else 0] := rfl

section
variable {a : Axis} {r : AxisRec} {tag : Byte} {s : State}

theorem axisSetOperands_bytes (h : axisRecInRange r = true) :
    axisSetOperands (u8 a.val ++ axisRecBytes r) = some (axisSetFields a r) := by
  simp only [axisRecInRange, Bool.and_eq_true, decide_eq_true_eq] at h
  obtain ⟨⟨⟨⟨⟨⟨⟨⟨⟨⟨⟨⟨hmin, hmax⟩, -⟩, horigin⟩, -⟩, hvel⟩, -⟩, hacc⟩, -⟩, hjogVel⟩, -⟩, hjogAcc⟩, hwindow⟩ := h
  have hflag : (if r.configured then 1 else 0 : Byte).toNat = if r.configured then 1 else 0 := by cases r.configured <;> rfl
  simp only [axisRecBytes, u8_eq, flag_eq, List.append_assoc, List.cons_append, List.nil_append, axisSetOperands,
    readI32_i32 _ _ hmin, readI32_i32 _ _ hmax, readI32_i32 _ _ horigin, readNat_u32 _ _ hvel, readNat_u32 _ _ hacc,
    readNat_u32 _ _ hjogVel, readNat_u32 _ _ hjogAcc, readNat_u16_end _ hwindow, atEnd, if_true, axis_byte, hflag,
    axisSetFields]

theorem axisRecOf_fields (h : axisRecInRange r = true) : axisRecOf (axisSetFields a r) = some r := by
  simp only [axisRecInRange, Bool.and_eq_true, decide_eq_true_eq] at h
  simp only [axisRecOf, axisSetFields, boolOf_flag]
  exact if_pos (by omega)

theorem axisSetFields_axis : axisOf (axisSetFields a r).axis = some a := axisOf_number a

/-! ### The outcomes of AXIS_SET -/

theorem setpointInside_iff :
    s.setpointInside a r = true ↔ s.driveOf a = .off ∨ (r.softMin ≤ s.currentSetpoint a ∧ s.currentSetpoint a ≤ r.softMax) := by
  simp only [State.setpointInside, Bool.or_eq_true, Bool.and_eq_true, decide_eq_true_eq]

theorem slotsSuffice_iff :
    s.slotsSuffice a r = true ↔ (r.configured = true → s.configured a = false →
      s.configuredAxes.length + 1 ≤ 1000000 / s.clock.cfg.servoRate / 25) := by
  cases hr : r.configured <;> cases hs : s.configured a <;> simp [State.slotsSuffice, hr, hs, slotsOf, periodOf]

/-- The record stored and the reply given, before the axis link and the monitor unit learn of the axis (entry 24). -/
def axisStored (tag : Byte) (a : Axis) (r : AxisRec) (s : State) : State :=
  (s.storeAxis a r).reply Kind.axisSet tag .ok (axisRecBytes r)

/-- The state that an accepted AXIS_SET leaves. -/
def axisSetResult (tag : Byte) (a : Axis) (r : AxisRec) (s : State) : State :=
  if r.configured && !s.configured a then (axisStored tag a r s).configureLink a
  else if !r.configured && s.configured a then (axisStored tag a r s).unconfigureAxis a
  else axisStored tag a r s

theorem axisSet_pending (h : axisRecInRange r = true) (hp : s.runPending = true) :
    axisSet tag (u8 a.val ++ axisRecBytes r) s = refusedWith .inUse := by
  simp only [axisSet, axisSetOperands_bytes h, need_some_bind, axisSetFields_axis, axisRecOf_fields h, hp, Bool.not_true,
    ensure_false_bind, refusedWith]

theorem axisSet_driveInUse (h : axisRecInRange r = true) (hp : s.runPending = false) (hc : r.configured = false)
    (hd : s.driveOf a ≠ .off) : axisSet tag (u8 a.val ++ axisRecBytes r) s = refusedWith .wrongState := by
  simp only [axisSet, axisSetOperands_bytes h, need_some_bind, axisSetFields_axis, axisRecOf_fields h, hp, Bool.not_false,
    ensure_true_bind, hc, hd, decide_false, Bool.or_self, ensure_false_bind, refusedWith]

theorem axisSet_setpointOutside (h : axisRecInRange r = true) (hp : s.runPending = false) (hc : r.configured = true)
    (hin : s.setpointInside a r = false) : axisSet tag (u8 a.val ++ axisRecBytes r) s = refusedWith .badValue := by
  simp only [axisSet, axisSetOperands_bytes h, need_some_bind, axisSetFields_axis, axisRecOf_fields h, hp, Bool.not_false,
    ensure_true_bind, hc, Bool.true_or, hin, ensure_false_bind, refusedWith]

theorem axisSet_slotsWanting (h : axisRecInRange r = true) (hp : s.runPending = false) (hc : r.configured = true)
    (hin : s.setpointInside a r = true) (hs : s.slotsSuffice a r = false) :
    axisSet tag (u8 a.val ++ axisRecBytes r) s = refusedWith .badValue := by
  simp only [axisSet, axisSetOperands_bytes h, need_some_bind, axisSetFields_axis, axisRecOf_fields h, hp, Bool.not_false,
    ensure_true_bind, hc, Bool.true_or, hin, hs, ensure_false_bind, refusedWith]

theorem axisSet_accepted (h : axisRecInRange r = true) (hp : s.runPending = false)
    (hd : r.configured = true ∨ s.driveOf a = .off) (hin : s.setpointInside a r = true)
    (hs : s.slotsSuffice a r = true) :
    axisSet tag (u8 a.val ++ axisRecBytes r) s = .ok (axisSetResult tag a r s) := by
  have hdrive : (r.configured || decide (s.driveOf a = .off)) = true := by simpa using hd
  simp only [axisSet, axisSetOperands_bytes h, need_some_bind, axisSetFields_axis, axisRecOf_fields h, hp, Bool.not_false,
    ensure_true_bind, hdrive, hin, hs]
  rfl

theorem axisGet_answer :
    axisGet tag (u8 a.val) s =
      .ok (s.reply Kind.axisGet tag .ok
        (axisRecBytes s.axes.recs[a] ++ flag s.axes.maps[a].isSome ++ optional (counted mapEntryBytes) s.axes.maps[a])) := by
  simp only [axisGet, oneByte_bytes _ (axis_lt a), need_some_bind, axisOf_number]
  rfl

/-! ### The state after an accepted AXIS_SET -/

theorem axisSetResult_configures (hr : r.configured = true) (hs : s.configured a = false) :
    axisSetResult tag a r s = (axisStored tag a r s).configureLink a := by
  rw [axisSetResult, hr, hs]
  rfl

theorem axisSetResult_unconfigures (hr : r.configured = false) (hs : s.configured a = true) :
    axisSetResult tag a r s = (axisStored tag a r s).unconfigureAxis a := by
  rw [axisSetResult, hr, hs]
  rfl

theorem axisSetResult_stores (h : r.configured = s.configured a) : axisSetResult tag a r s = axisStored tag a r s := by
  rw [axisSetResult, h, Bool.and_not_self, Bool.not_and_self]
  rfl

end

/-- Settles O15: an accepted AXIS_SET by the axis's configured flag before and after, then each refusal. -/
theorem axisSetAndGet : Obligations.AxisSetAndGet := by
  intro a r tag s
  refine ⟨fun h hp hd hin hslots hdue => ⟨axisSetResult tag a r s, conclude_of_accepted (axisSet_accepted h hp hd
      (setpointInside_iff.mpr hin) (slotsSuffice_iff.mpr hslots)), ?_⟩,
    fun h hp hc hd => conclude_of_refused (axisSet_driveInUse h hp hc hd), fun h hp hc hbad => ?_,
    fun h hp => conclude_of_refused (axisSet_pending h hp), ?_⟩
  · cases hr : r.configured with
    | true =>
      cases hs : s.configured a with
      | true =>
        rw [axisSetResult_stores (hr.trans hs.symm)]
        exact ⟨rfl, fun _ h => (nomatch h), fun _ => rfl, fun h => (nomatch h), rfl, rfl, rfl, rfl, rfl, rfl, rfl⟩
      | false =>
        rw [axisSetResult_configures hr hs]
        exact ⟨rfl, fun _ _ => ⟨put_get_same .., fun b hb => put_get_other _ _ hb.symm, rfl⟩, fun h => (nomatch h),
          fun h => (nomatch h), rfl, rfl, rfl, rfl, rfl, rfl, rfl⟩
    | false =>
      cases hs : s.configured a with
      | true =>
        rw [axisSetResult_unconfigures hr hs]
        have u := unconfigureAxis_unconfigures (s := axisStored tag a r s) (a := a) (hdue hr hs)
        exact ⟨u.axes, fun h => (nomatch h), fun h => (nomatch h), fun _ _ => ⟨u.queue, fun c => by
          rw [u.insts c]
          exact ⟨rfl, rfl⟩⟩, u.store, u.clock, u.ctrl, u.check, u.log, u.wheels, u.lines⟩
      | false =>
        rw [axisSetResult_stores (hr.trans hs.symm)]
        exact ⟨rfl, fun h => (nomatch h), fun _ => rfl, fun _ h => (nomatch h), rfl, rfl, rfl, rfl, rfl, rfl, rfl⟩
  · cases hin : s.setpointInside a r with
    | false => exact conclude_of_refused (axisSet_setpointOutside h hp hc hin)
    | true =>
      have hslots : ¬ s.slotsSuffice a r = true := by
        rw [slotsSuffice_iff]
        rw [setpointInside_iff] at hin
        intro hfit
        rcases hbad with ⟨hd, hout⟩ | ⟨hs, hmany⟩
        · have := hin.resolve_left hd
          omega
        · have := hfit hc hs
          omega
      exact conclude_of_refused (axisSet_slotsWanting h hp hc hin (Bool.eq_false_of_not_eq_true hslots))
  · refine (conclude_of_accepted axisGet_answer).trans ?_
    rw [List.append_assoc]
    cases s.axes.maps[a] <;> rfl

end Sys2Proof.Machine
end

/-! SUPPORT. What one advance of the move clock can do (R49, R50, R55, R56, R60): its increment, its crossing, and its three ways to go
on. -/
section
namespace Sys2Proof.Machine

/-! ### The increment -/

/-- R49, stages 2 and 3: the increment with no trim. -/
def untrimmed (c : Clock) : Nat := (nominal c.cfg c.period c.speed + c.rem) / 1000000000000000

theorem takeIncrement_plain {c : Clock} (h : ¬(c.cfg.sync = .follower ∧ c.lock.isSome = true)) :
    takeIncrement c =
      ({ c with rem := (nominal c.cfg c.period c.speed + c.rem) % 1000000000000000 }, untrimmed c) := by
  simp only [takeIncrement, if_neg h, untrimmed]

theorem takeIncrement_locked {c : Clock} (h : c.cfg.sync = .follower ∧ c.lock.isSome = true) :
    takeIncrement c =
      ({ c with rem := (nominal c.cfg c.period c.speed + c.rem) % 1000000000000000, budget := c.budget - trimOf c },
        ((untrimmed c : Int) + trimOf c).toNat) := by
  simp only [takeIncrement, if_pos h, untrimmed]

/-- R60: the trim stays within its bound on both sides. -/
theorem trimOf_bounds (c : Clock) :
    -(trimBound c.cfg c.period : Int) ≤ trimOf c ∧ trimOf c ≤ trimBound c.cfg c.period := by
  simp only [trimOf]
  omega

/-- R49, R60: an increment is the untrimmed one but for the bound of the trim. -/
theorem takeIncrement_near (c : Clock) :
    (((takeIncrement c).2 : Int) - untrimmed c).natAbs ≤ trimBound c.cfg c.period := by
  by_cases h : c.cfg.sync = .follower ∧ c.lock.isSome = true
  · obtain ⟨h1, h2⟩ := trimOf_bounds c
    rw [takeIncrement_locked h]
    simp only
    omega
  · rw [takeIncrement_plain h]
    simp

/-- R49: what an increment leaves of the clock. -/
theorem takeIncrement_clock (c : Clock) :
    (takeIncrement c).1 = { c with rem := (takeIncrement c).1.rem, budget := (takeIncrement c).1.budget } ∧
      (takeIncrement c).1.rem = (nominal c.cfg c.period c.speed + c.rem) % 1000000000000000 := by
  by_cases h : c.cfg.sync = .follower ∧ c.lock.isSome = true
  · rw [takeIncrement_locked h]
    exact ⟨rfl, rfl⟩
  · rw [takeIncrement_plain h]
    exact ⟨rfl, rfl⟩

/-- R49: what the ramp step leaves of the clock. -/
theorem rampStep_clock (c : Clock) (target : Nat) :
    rampStep c target = { c with speed := (rampStep c target).speed, ramp := (rampStep c target).ramp } := by
  unfold rampStep
  split <;> rfl

/-- R49: one period's increment and remainder together are the nominal value and the remainder before. -/
theorem increment_exact {c : Clock} (h : c.cfg.sync ≠ .follower) :
    (takeIncrement c).2 * 1000000000000000 + (takeIncrement c).1.rem = nominal c.cfg c.period c.speed + c.rem := by
  rw [takeIncrement_plain fun hc => h hc.1]
  exact Nat.div_add_mod' _ _

/-- The clock with the increments it has taken added up. -/
def addIncrement (p : Clock × Nat) : Clock × Nat := ((takeIncrement p.1).1, p.2 + (takeIncrement p.1).2)

/-- R49: over n periods at one speed no rounding is lost. -/
theorem increments_exact (n : Nat) (c : Clock) (sum : Nat) (h : c.cfg.sync ≠ .follower) :
    (addIncrement^[n] (c, sum)).2 * 1000000000000000 + (addIncrement^[n] (c, sum)).1.rem =
      n * nominal c.cfg c.period c.speed + c.rem + sum * 1000000000000000 := by
  induction n generalizing c sum with
  | zero => simp [Nat.add_comm]
  | succ n ih =>
    have hone := increment_exact h
    obtain ⟨hc, -⟩ := takeIncrement_clock c
    have hnext := ih (takeIncrement c).1 (sum + (takeIncrement c).2) (by rw [hc]; exact h)
    rw [Function.iterate_succ_apply, addIncrement, hnext, hc]
    simp only
    rw [Nat.succ_mul, Nat.add_mul]
    omega

/-! ### The crossing -/

/-- R49, stage 5: after the crossing the pass frame is the whole frames of E, and the crossing names it exactly when it has risen. -/
theorem crossFrame_spec {c : Clock} (h : c.passFrame ≤ c.travel / subframes) :
    (crossFrame c).1 = { c with passFrame := c.travel / subframes } ∧
      (crossFrame c).2 = if c.passFrame < c.travel / subframes then some (c.travel / subframes) else none := by
  simp only [crossFrame]
  split
  · exact ⟨rfl, rfl⟩
  · next hlt =>
    have heq : c.passFrame = c.travel / subframes := Nat.le_antisymm h (Nat.le_of_not_lt hlt)
    refine ⟨?_, rfl⟩
    rw [← heq]

/-! ### The three ways of an advance -/

/-- The clock as an advance moves it, after the ramp step and the increment. -/
def steppedClock (c : Clock) (e : RunEntry) : Clock := (takeIncrement (rampStep c (targetSpeed c.cfg e))).1

/-- The increment of an advance. -/
def incrementOf (c : Clock) (e : RunEntry) : Nat := (takeIncrement (rampStep c (targetSpeed c.cfg e))).2

theorem steppedClock_eq (c : Clock) (e : RunEntry) :
    steppedClock c e =
      { c with
        rem := (steppedClock c e).rem, budget := (steppedClock c e).budget
        speed := (rampStep c (targetSpeed c.cfg e)).speed, ramp := (rampStep c (targetSpeed c.cfg e)).ramp } := by
  obtain ⟨h, -⟩ := takeIncrement_clock (rampStep c (targetSpeed c.cfg e))
  have hr := rampStep_clock c (targetSpeed c.cfg e)
  unfold steppedClock
  generalize rampStep c (targetSpeed c.cfg e) = c1 at h hr ⊢
  rw [h, hr]

/-- The subframes left to the end of the entry are not touched by the ramp step and the increment. -/
theorem toEntryEnd_steppedClock (c : Clock) (e : RunEntry) : toEntryEnd (steppedClock c e) e = toEntryEnd c e := by
  rw [steppedClock_eq c e]
  rfl

/-- The clock that has gone on inside its entry. -/
def goneOnClock (c : Clock) (e : RunEntry) : Clock :=
  addTravel
    { steppedClock c e with time := moveTime (steppedClock c e).dir (steppedClock c e).time (incrementOf c e) }
    (incrementOf c e)

/-- The clock carried into entry e'. -/
def carriedClock (c : Clock) (e e' : RunEntry) : Clock :=
  carryClock (steppedClock c e) e' (incrementOf c e - toEntryEnd c e) (incrementOf c e)

/-- The clock landed on the end frame of its entry. -/
def landedClock (c : Clock) (e : RunEntry) : Clock := landClock (steppedClock c e) e (toEntryEnd c e)

/-- R49, R55, R56: an advance goes on inside its entry, carries into the next, or lands. -/
theorem advanceClock_cases (c : Clock) (n : Nat) (e : RunEntry) (next : Option RunEntry) :
    (incrementOf c e < toEntryEnd c e ∧
      advanceClock c n e next =
        ((crossFrame (goneOnClock c e)).1,
          { entry := n, carried := false, landed := false, crossing := (crossFrame (goneOnClock c e)).2 })) ∨
    (toEntryEnd c e ≤ incrementOf c e ∧ ∃ e', next = some e' ∧ e.holdAtEnd = false ∧
      advanceClock c n e next =
        ((crossFrame (carriedClock c e e')).1,
          { entry := n + 1, carried := true, landed := false, crossing := (crossFrame (carriedClock c e e')).2 })) ∨
    (toEntryEnd c e ≤ incrementOf c e ∧ (next = none ∨ e.holdAtEnd = true) ∧
      advanceClock c n e next =
        ((crossFrame (landedClock c e)).1,
          { entry := n, carried := false, landed := true, crossing := (crossFrame (landedClock c e)).2 })) := by
  have hleft := toEntryEnd_steppedClock c e
  simp only [steppedClock] at hleft
  simp only [advanceClock, hleft]
  split
  · next h => exact .inl ⟨h, rfl⟩
  · next h =>
    have hle : toEntryEnd c e ≤ incrementOf c e := Nat.le_of_not_lt h
    cases next with
    | none => exact .inr (.inr ⟨hle, .inl rfl, by simp only [landedClock, steppedClock]⟩)
    | some e' =>
      cases hh : e.holdAtEnd with
      | true => exact .inr (.inr ⟨hle, .inr rfl, by simp only [landedClock, steppedClock, if_true]⟩)
      | false =>
        refine .inr (.inl ⟨hle, e', rfl, rfl, ?_⟩)
        simp only [carriedClock, steppedClock, incrementOf, Bool.false_eq_true, if_false]

/-! ### What each way leaves -/

/-- R49: E with n subframes more, as it saturates. -/
theorem addTravel_le {c : Clock} (h : c.travel ≤ maxU32) (n : Nat) : c.travel ≤ min maxU32 (c.travel + n) := by omega

theorem goneOnClock_eq (c : Clock) (e : RunEntry) :
    goneOnClock c e =
      { c with
        rem := (steppedClock c e).rem, budget := (steppedClock c e).budget, speed := (steppedClock c e).speed
        ramp := (steppedClock c e).ramp, time := moveTime c.dir c.time (incrementOf c e)
        travel := min maxU32 (c.travel + incrementOf c e) } := by
  unfold goneOnClock
  rw [steppedClock_eq c e]
  rfl

theorem carriedClock_eq (c : Clock) (e e' : RunEntry) :
    carriedClock c e e' =
      { c with
        rem := (steppedClock c e).rem, budget := (steppedClock c e).budget, speed := (steppedClock c e).speed
        ramp := carryRamp c.cfg e' (steppedClock c e).ramp, dir := entryDirection e'
        time := moveTime (entryDirection e') (e'.startFrame * subframes) (incrementOf c e - toEntryEnd c e)
        travel := min maxU32 (c.travel + incrementOf c e) } := by
  unfold carriedClock
  rw [steppedClock_eq c e]
  rfl

theorem landedClock_eq (c : Clock) (e : RunEntry) :
    landedClock c e =
      { c with
        rem := 0, budget := 0, speed := 0, ramp := .none, lock := none, lostTimer := none, state := .atRest
        time := e.endFrame * subframes, travel := min maxU32 (c.travel + toEntryEnd c e) } := by
  unfold landedClock
  rw [steppedClock_eq c e]
  rfl

/-- R49, stage 5: the pass frame and the crossing of a clock whose E has grown from c's. -/
theorem crossFrame_grown {c d : Clock} (hc : c.passFrame = c.travel / subframes) (hf : d.passFrame = c.passFrame)
    (ht : c.travel ≤ d.travel) :
    (crossFrame d).1 = { d with passFrame := d.travel / subframes } ∧
      (crossFrame d).2 =
        if c.travel / subframes < d.travel / subframes then some (d.travel / subframes) else none := by
  have hle : d.passFrame ≤ d.travel / subframes := by
    rw [hf, hc]
    exact Nat.div_le_div_right ht
  obtain ⟨h1, h2⟩ := crossFrame_spec hle
  rw [hf, hc] at h2
  exact ⟨h1, h2⟩

/-- Settles O18: the increments by induction on the periods, the trim by its bounds, and one advance by its three ways. -/
theorem advanceCarriesOrLands : Obligations.AdvanceCarriesOrLands := by
  refine ⟨fun n c h => ?_, ?_, ?_⟩
  · have := increments_exact n c 0 h
    rw [Nat.zero_mul, Nat.add_zero] at this
    exact this
  · rintro c u b trim rfl rfl rfl
    refine ⟨takeIncrement_near c, fun hs hl hb => ?_, fun h => ?_⟩
    · have hbound : trimBound c.cfg c.period ≤ untrimmed c := hb
      obtain ⟨hlow, -⟩ := trimOf_bounds c
      rw [takeIncrement_locked ⟨hs, hl⟩]
      exact ⟨Int.toNat_of_nonneg (by omega), rfl⟩
    · have hno : ¬(c.cfg.sync = .follower ∧ c.lock.isSome = true) := by
        rintro ⟨hs, hl⟩
        rcases h with h | h
        · exact h hs
        · rw [h] at hl
          cases hl
      rw [takeIncrement_plain hno]
      exact ⟨rfl, rfl⟩
  · rintro c n e next c' h inc left hadv rfl rfl hpf htr
    obtain ⟨hlt, heq⟩ | ⟨hle, e', rfl, hh, heq⟩ | ⟨hle, hstop, heq⟩ := advanceClock_cases c n e next
    · have hgo := goneOnClock_eq c e
      obtain ⟨h1, h2⟩ := crossFrame_grown (d := goneOnClock c e) hpf (by rw [hgo]) (by rw [hgo]; exact addTravel_le htr _)
      rw [heq, h1, h2] at hadv
      cases hadv
      rw [hgo]
      exact ⟨rfl, rfl, fun _ => ⟨rfl, rfl, rfl, rfl, rfl, rfl, rfl⟩, fun hle => absurd hle (Nat.not_le_of_lt hlt),
        fun hle => absurd hle (Nat.not_le_of_lt hlt)⟩
    · have hca := carriedClock_eq c e e'
      obtain ⟨h1, h2⟩ := crossFrame_grown (d := carriedClock c e e') hpf (by rw [hca]) (by rw [hca]; exact addTravel_le htr _)
      rw [heq, h1, h2] at hadv
      cases hadv
      rw [hca]
      refine ⟨rfl, rfl, fun hlt => absurd hlt (Nat.not_lt_of_le hle), fun _ e'' he'' _ => ?_, fun _ hstop => ?_⟩
      · cases he''
        exact ⟨rfl, rfl, rfl, rfl, rfl, rfl, rfl⟩
      · rcases hstop with hstop | hstop
        · cases hstop
        · rw [hh] at hstop
          cases hstop
    · have hla := landedClock_eq c e
      obtain ⟨h1, h2⟩ := crossFrame_grown (d := landedClock c e) hpf (by rw [hla]) (by rw [hla]; exact addTravel_le htr _)
      rw [heq, h1, h2] at hadv
      cases hadv
      rw [hla]
      refine ⟨rfl, rfl, fun hlt => absurd hlt (Nat.not_lt_of_le hle), fun _ e' he' hh => ?_,
        fun _ _ => ⟨rfl, rfl, rfl, rfl, rfl, rfl, rfl, rfl, rfl, rfl, rfl, rfl⟩⟩
      rcases hstop with hstop | hstop
      · rw [hstop] at he'
        cases he'
      · rw [hh] at hstop
        cases hstop

end Sys2Proof.Machine
end

/-! SUPPORT. The course of the run: the items of the run controller, the clock, the check and the log on which the laws of the controller
and of the clock rest (R44, R47, R66, R91, Tables 3-2 and 4-2). -/
section
namespace Sys2Proof.Machine

/-- The clock without the items that no law is about: the lock, its budget, the timers and the marks. -/
def Clock.bare (c : Clock) : Clock :=
  { c with lock := none, budget := 0, lostTimer := none, lost := false, trigger := none }

/-- The items that the laws of the controller and the clock rest on. `walked` says that a check under way has walked no more check
frames than it has. -/
structure Course where
  state : CtrlState
  stopForm : Option StopForm
  pass : Option PassKind
  entry : Nat
  ret : Option ReturnRec
  runList : List RunEntry
  clock : Clock
  checking : Bool
  walked : Bool
  counter : Nat

/-- A walk that is none, or that has walked no more check frames than there are. -/
def walkInRange (p : Option CheckProgress) : Bool := p.all fun p => p.taken ≤ p.total + 1

def State.course (s : State) : Course :=
  { state := s.ctrl.state, stopForm := s.ctrl.stopForm, pass := s.ctrl.pass, entry := s.ctrl.entry, ret := s.ctrl.ret
    runList := s.ctrl.runList, clock := s.clock.bare, checking := s.check.progress.isSome
    walked := walkInRange s.check.progress, counter := s.log.counter }

theorem State.course_congr {s t : State} (hk : t.ctrl = s.ctrl) (hc : t.clock = s.clock) (hp : t.check = s.check)
    (hl : t.log = s.log) : t.course = s.course := by simp only [State.course, hk, hc, hp, hl]

theorem State.state_of_course {s : State} {f : Course} (h : s.course = f) : s.ctrl.state = f.state :=
  congrArg Course.state h

theorem State.pass_of_course {s : State} {f : Course} (h : s.course = f) : s.ctrl.pass = f.pass :=
  congrArg Course.pass h

theorem State.ret_of_course {s : State} {f : Course} (h : s.course = f) : s.ctrl.ret = f.ret :=
  congrArg Course.ret h

theorem State.clock_of_course {s : State} {f : Course} (h : s.course = f) : s.clock.state = f.clock.state :=
  congrArg (fun f : Course => f.clock.state) h

/-! ### The controller's law -/

/-- The kind of a down ramp. -/
def Ramp.kind : Ramp → Option RampKind
  | .down k _ => .some k
  | _ => .none

/-- R51: the kind of down ramp that a state on the path goes with. -/
def rideKind : CtrlState → Option RampKind
  | .holding => some .hold
  | .stopping => some .stop
  | .faultStopping => some .fault
  | _ => none

/-- The clock of a path that does not go on: it neither advances nor waits, and no down ramp is under way. -/
def Clock.idles (c : Clock) : Bool := !(c.state = .advancing) && !(c.state = .waiting) && c.ramp.kind.isNone

/-- The states in which a pass stands. -/
def standsStill (cs : CtrlState) : Bool := cs = .held || cs = .jogging || cs = .returning

open Footing (parked riding)

namespace Course

/-- No pass exists. -/
structure Parked (f : Course) : Prop where
  place : parked f.state f.stopForm = true
  idles : f.clock.idles = true
  pass : f.pass = none
  ret : f.ret = none
  entry : f.entry = 0

/-- The path governs a pass that goes on, or that waits for the camera. -/
structure Riding (f : Course) : Prop where
  place : riding f.state f.stopForm = true
  clock : f.clock.state = .advancing ∨
    (f.clock.state = .waiting ∧ f.state = .running ∧ f.clock.cfg.sync = .follower ∧ f.clock.speed = 0)
  ramp : f.clock.ramp.kind = rideKind f.state
  pass : f.pass.isSome = true
  ret : f.ret = none
  entry : 1 ≤ f.entry ∧ f.entry ≤ f.runList.length

/-- A pass stands in HELD, or away from its place with a return record. -/
structure Standing (f : Course) : Prop where
  place : standsStill f.state = true
  stopForm : f.stopForm = none
  idles : f.clock.idles = true
  pass : f.pass.isSome = true
  away : f.state ≠ .held → f.ret.isSome = true
  entry : 1 ≤ f.entry ∧ f.entry ≤ f.runList.length
  recorded : ∀ r ∈ f.ret, 1 ≤ r.entry ∧ r.entry ≤ f.runList.length

/-- R66, Table 4-2: the controller's law, by the three ways a run can stand. -/
structure Fits (f : Course) : Prop where
  checking : f.checking = decide (f.state = .checking)
  walked : f.walked = true
  mode : f.Parked ∨ f.Riding ∨ f.Standing

variable {f g : Course}

theorem Parked.state_ne (h : f.Parked) :
    f.state ≠ .running ∧ f.state ≠ .holding ∧ f.state ≠ .held ∧ f.state ≠ .returning := by
  have := h.place
  refine ⟨?_, ?_, ?_, ?_⟩ <;> intro hs <;> simp [hs, parked] at this

theorem Riding.state_cases (h : f.Riding) :
    (f.state = .running ∧ f.stopForm = none) ∨ (f.state = .holding ∧ f.stopForm = none) ∨
      (f.state = .stopping ∧ f.stopForm = some .path) ∨ (f.state = .faultStopping ∧ f.stopForm = some .path) := by
  have := h.place
  unfold riding at this
  split at this <;> simp_all

theorem Standing.state_cases (h : f.Standing) : f.state = .held ∨ f.state = .jogging ∨ f.state = .returning := by
  simpa [standsStill, or_assoc] using h.place

end Course

/-- Where the path governs, with a stop form only of a stop, the state is one of those on the path. -/
theorem riding_of_clockRuns {s : State} (h : clockRuns s = true)
    (hf : s.ctrl.stopForm.isSome = (s.ctrl.state = .stopping || s.ctrl.state = .faultStopping)) :
    riding s.ctrl.state s.ctrl.stopForm = true := by
  cases hst : s.ctrl.state <;> cases hfm : s.ctrl.stopForm with
  | none => simp_all [clockRuns, riding]
  | some form => cases form <;> simp_all [clockRuns, riding]

theorem clockRuns_of_riding {s : State} (h : riding s.ctrl.state s.ctrl.stopForm = true) : clockRuns s = true := by
  unfold riding at h
  unfold clockRuns
  split at h <;> simp_all

theorem walkInRange_iff (p : Option CheckProgress) : walkInRange p = true ↔ ∀ q ∈ p, q.taken ≤ q.total + 1 := by
  cases p <;> simp [walkInRange]

theorem idles_iff (c : Clock) : c.idles = true ↔ c.state ≠ .advancing ∧ c.state ≠ .waiting ∧ c.ramp.kind = none := by
  simp [Clock.idles, and_assoc]

/-- The ramp's share of the controller's law, by the kind of down ramp. -/
theorem rampFits_iff (s : State) : rampFits s = true ↔
    match s.clock.ramp.kind with
    | some .hold => s.ctrl.state = .holding
    | some .stop => s.ctrl.state = .stopping ∧ s.ctrl.stopForm = some .path
    | some .fault => s.ctrl.state = .faultStopping ∧ s.ctrl.stopForm = some .path
    | none => s.ctrl.state ≠ .holding ∧ s.ctrl.stopForm ≠ some .path := by
  unfold rampFits
  cases hr : s.clock.ramp with
  | none => simp [Ramp.kind]
  | up t d => simp [Ramp.kind]
  | down k d => cases k <;> simp [Ramp.kind]

theorem clockRuns_of_parked {s : State} (h : parked s.ctrl.state s.ctrl.stopForm = true) : clockRuns s = false := by
  unfold parked at h
  unfold clockRuns
  split at h <;> simp_all

section

variable {s : State}

theorem ctrlLaw_of_parked (hc : s.course.checking = decide (s.course.state = .checking)) (hw : s.course.walked = true)
    (h : s.course.Parked) : CtrlLaw s := by
  obtain ⟨hrun, hhold, hheld, hret⟩ := h.state_ne
  obtain ⟨hplace, hidle, hpass, hnone, hentry⟩ := h
  simp only [State.course] at hc hw hrun hhold hheld hret hplace hpass hnone hentry
  obtain ⟨h1, h2, h3⟩ := (idles_iff s.clock).mp hidle
  have hruns : clockRuns s = false := clockRuns_of_parked hplace
  have hpath : s.ctrl.stopForm ≠ some .path := by
    intro hf
    rw [hf] at hplace
    unfold parked at hplace
    split at hplace <;> simp_all
  exact
    { stopForm := Footing.parked_stopForm hplace
      clock := by simp [hruns, h1, h2]
      waiting := fun hw => absurd hw h2
      follower := fun hw => absurd hw h2
      ramp := by rw [rampFits_iff, h3]; exact ⟨hhold, hpath⟩
      pass := by simp [passExists, hruns, hpass, hnone, hheld, hret]
      returning := fun hr => absurd hr hret
      record := by simp [hnone]
      progress := hc
      walked := (walkInRange_iff _).mp hw
      entry := by simp [hpass, hentry]
      inList := by simp [hentry]
      recorded := by simp [hnone] }

theorem ctrlLaw_of_riding (hc : s.course.checking = decide (s.course.state = .checking)) (hw : s.course.walked = true)
    (h : s.course.Riding) : CtrlLaw s := by
  have hcases := h.state_cases
  obtain ⟨hplace, hclock, hramp, hpass, hnone, hone, hlen⟩ := h
  simp only [State.course, Clock.bare] at hc hw hcases hplace hclock hramp hpass hnone hone hlen
  have hruns : clockRuns s = true := clockRuns_of_riding hplace
  exact
    { stopForm := Footing.riding_stopForm hplace
      clock := by
        rw [hruns]
        rcases hclock with h | ⟨h, -⟩ <;> simp [h]
      waiting := fun hwait => by
        rcases hclock with h | ⟨-, h, -⟩
        · rw [hwait] at h
          cases h
        · exact h
      follower := fun hwait => by
        rcases hclock with h | ⟨-, -, h⟩
        · rw [hwait] at h
          cases h
        · exact h
      ramp := by
        rw [rampFits_iff, hramp]
        obtain ⟨h, hf⟩ | ⟨h, hf⟩ | ⟨h, hf⟩ | ⟨h, hf⟩ := hcases <;> simp [h, hf, rideKind]
      pass := by simp [passExists, hruns, hpass]
      returning := fun hr => by rw [hr] at hcases; simp at hcases
      record := by simp [hnone]
      progress := hc
      walked := (walkInRange_iff _).mp hw
      entry := by simp [hpass, hone]
      inList := hlen
      recorded := by simp [hnone] }

theorem ctrlLaw_of_standing (hc : s.course.checking = decide (s.course.state = .checking)) (hw : s.course.walked = true)
    (h : s.course.Standing) : CtrlLaw s := by
  have hcases := h.state_cases
  obtain ⟨-, hform, hidle, hpass, haway, ⟨hone, hlen⟩, hrec⟩ := h
  simp only [State.course] at hc hw hcases hform hpass haway hone hlen hrec
  obtain ⟨h1, h2, h3⟩ := (idles_iff s.clock).mp hidle
  have hruns : clockRuns s = false := by
    obtain h | h | h := hcases <;> simp [clockRuns, h]
  exact
    { stopForm := by obtain h | h | h := hcases <;> simp [hform, h]
      clock := by simp [hruns, h1, h2]
      waiting := fun hw => absurd hw h2
      follower := fun hw => absurd hw h2
      ramp := by
        rw [rampFits_iff, h3]
        obtain h | h | h := hcases <;> simp [hform, h]
      pass := by
        rw [hpass]
        obtain h | h | h := hcases
        · simp [passExists, h]
        · simp [passExists, h, haway (by simp [h])]
        · simp [passExists, h]
      returning := fun hr => haway (by simp [hr])
      record := fun _ => hcases
      progress := hc
      walked := (walkInRange_iff _).mp hw
      entry := by simp [hpass, hone]
      inList := hlen
      recorded := hrec }

theorem riding_of_ctrlLaw (h : CtrlLaw s) (hc : clockRuns s = true) : s.course.Riding := by
  have hplace := riding_of_clockRuns hc h.stopForm
  have hcases : (s.ctrl.state = .running ∧ s.ctrl.stopForm = none) ∨ (s.ctrl.state = .holding ∧ s.ctrl.stopForm = none) ∨
      (s.ctrl.state = .stopping ∧ s.ctrl.stopForm = some .path) ∨
      (s.ctrl.state = .faultStopping ∧ s.ctrl.stopForm = some .path) := by
    unfold riding at hplace
    split at hplace <;> simp_all
  have hpass : s.ctrl.pass.isSome = true := by rw [h.pass, passExists, hc]; rfl
  have hentry := h.entry
  rw [hpass] at hentry
  refine ⟨hplace, ?_, ?_, hpass, ?_, of_decide_eq_true hentry.symm, h.inList⟩
  · have hclock := h.clock
    rw [hc] at hclock
    simp only [Bool.or_eq_true, decide_eq_true_eq] at hclock
    exact hclock.imp id fun hw => ⟨hw, h.waiting hw, h.follower hw⟩
  · have hramp := (rampFits_iff s).mp h.ramp
    change s.clock.ramp.kind = rideKind s.ctrl.state
    split at hramp
    · next hk => rw [hk, hramp]; rfl
    · next hk => rw [hk, hramp.1]; rfl
    · next hk => rw [hk, hramp.1]; rfl
    · next hk =>
      rw [hk]
      obtain ⟨hs, hf⟩ | ⟨hs, hf⟩ | ⟨hs, hf⟩ | ⟨hs, hf⟩ := hcases
      · rw [hs]; rfl
      · exact absurd hs hramp.1
      · exact absurd hf hramp.2
      · exact absurd hf hramp.2
  · refine Option.not_isSome_iff_eq_none.mp fun hr => ?_
    have := h.record hr
    obtain ⟨hs, -⟩ | ⟨hs, -⟩ | ⟨hs, -⟩ | ⟨hs, -⟩ := hcases <;> simp [hs] at this

theorem idles_of_ctrlLaw (h : CtrlLaw s) (hc : clockRuns s = false) : s.clock.idles = true := by
  have hclock := h.clock
  rw [hc] at hclock
  simp only [Bool.or_eq_false_iff, decide_eq_false_iff_not] at hclock
  refine (idles_iff _).mpr ⟨hclock.1, hclock.2, ?_⟩
  have hramp := (rampFits_iff s).mp h.ramp
  split at hramp
  · simp [clockRuns, hramp] at hc
  · simp [clockRuns, hramp] at hc
  · simp [clockRuns, hramp] at hc
  · next hk => exact hk

theorem parked_of_ctrlLaw (h : CtrlLaw s) (hc : clockRuns s = false) (hp : s.ctrl.pass = none) : s.course.Parked := by
  have hexists := h.pass
  rw [hp] at hexists
  simp only [passExists, hc, Option.isSome_none, Bool.false_or, Bool.or_eq_false_iff, Bool.and_eq_false_iff,
    decide_eq_false_iff_not, eq_comm (a := false)] at hexists
  obtain ⟨⟨hheld, hreturning⟩, hjog⟩ := hexists
  have hret : s.ctrl.ret = none := by
    refine Option.not_isSome_iff_eq_none.mp fun hr => ?_
    obtain hs | hs | hs := h.record hr
    · exact hheld hs
    · simp [hs, hr] at hjog
    · exact hreturning hs
  have hentry := h.entry
  rw [hp] at hentry
  refine ⟨?_, idles_of_ctrlLaw h hc, hp, hret, ?_⟩
  · have hform := h.stopForm
    change parked s.ctrl.state s.ctrl.stopForm = true
    cases hst : s.ctrl.state <;> cases hfm : s.ctrl.stopForm with
    | none => simp_all [clockRuns, parked]
    | some form => cases form <;> simp_all [clockRuns, parked]
  · change s.ctrl.entry = 0
    simpa using hentry

theorem standing_of_ctrlLaw (h : CtrlLaw s) (hc : clockRuns s = false) (hp : s.ctrl.pass.isSome = true) :
    s.course.Standing := by
  have hexists := h.pass
  rw [hp] at hexists
  simp only [passExists, hc, Bool.false_or, Bool.or_eq_true, Bool.and_eq_true, decide_eq_true_eq,
    eq_comm (a := true)] at hexists
  have hentry := h.entry
  rw [hp] at hentry
  refine ⟨?_, ?_, idles_of_ctrlLaw h hc, hp, fun hne => ?_, ⟨of_decide_eq_true hentry.symm, h.inList⟩, h.recorded⟩
  · change standsStill s.ctrl.state = true
    obtain (hs | hs) | ⟨hs, -⟩ := hexists <;> simp [standsStill, hs]
  · have hform := h.stopForm
    refine Option.not_isSome_iff_eq_none.mp fun hf => ?_
    change s.ctrl.stopForm.isSome = true at hf
    rw [hf] at hform
    obtain (hs | hs) | ⟨hs, -⟩ := hexists <;> simp [hs] at hform
  · obtain (hs | hs) | ⟨-, hr⟩ := hexists
    · exact absurd hs hne
    · exact h.returning hs
    · exact hr

theorem fits_of_ctrlLaw (h : CtrlLaw s) : s.course.Fits := by
  refine ⟨h.progress, (walkInRange_iff _).mpr h.walked, ?_⟩
  cases hc : clockRuns s with
  | true => exact .inr (.inl (riding_of_ctrlLaw h hc))
  | false =>
    cases hp : s.ctrl.pass with
    | none => exact .inl (parked_of_ctrlLaw h hc hp)
    | some kind => exact .inr (.inr (standing_of_ctrlLaw h hc (by rw [hp]; rfl)))

theorem ctrlLaw_iff (s : State) : CtrlLaw s ↔ s.course.Fits := by
  refine ⟨fits_of_ctrlLaw, fun ⟨hc, hw, hm⟩ => ?_⟩
  obtain h | h | h := hm
  · exact ctrlLaw_of_parked hc hw h
  · exact ctrlLaw_of_riding hc hw h
  · exact ctrlLaw_of_standing hc hw h

end

end Sys2Proof.Machine
end

/-! SUPPORT. From one course to the next: what keeps the laws of the controller and of the clock, and what becomes of the pass and its
pass frame (R47, R49, R63, R82). -/
section
namespace Sys2Proof.Machine

open Footing (parked riding)

/-! ### The clock's law -/

/-- R44, R47, Table 3-2: every item of the clock in its range, the pass frame the whole frames of E. -/
structure Clock.Ranged (c : Clock) : Prop where
  settings : settingsInRange c.cfg = true
  period : c.period = 1000 ∨ c.period = 500 ∨ c.period = 250
  time : c.time ≤ maxU32
  travel : c.travel ≤ maxU32
  passFrame : c.passFrame = c.travel / subframes
  rem : c.rem < 1000000000000000
  speed : c.speed ≤ 1000000
  ramp : rampInRange c.ramp = true

namespace Course

/-- R63: the run entry numbered from 1. -/
def entry? (f : Course) (n : Nat) : Option RunEntry := if n = 0 then none else f.runList[n - 1]?

/-- R82: the clock stands at the recorded place. -/
def StandsAt (f : Course) (r : ReturnRec) : Prop :=
  f.clock.time = r.time ∧ f.clock.dir = r.dir ∧ f.clock.travel = r.travel ∧ f.clock.passFrame = r.passFrame ∧
    f.entry = r.entry

/-- R44, R47, R48, R63, R82: the clock's law, of a course. -/
structure ClockFits (f : Course) : Prop where
  ranged : f.clock.Ranged
  inside : f.pass.isSome = true → ∀ e ∈ f.entry? f.entry,
    insideEntry e f.clock.time = true ∧ f.clock.dir = entryDirection e
  listLength : f.runList.length ≤ 20
  list : ∀ e ∈ f.runList, entryInRange e = true
  record : ∀ r ∈ f.ret, recordInRange r = true ∧ f.StandsAt r

end Course

theorem standsAt_iff (s : State) (r : ReturnRec) : standsAt s r = true ↔ s.course.StandsAt r := by
  simp [standsAt, Course.StandsAt, State.course, Clock.bare, and_assoc]

theorem clockLaw_iff (s : State) : ClockLaw s ↔ s.course.ClockFits := by
  constructor
  · rintro ⟨h1, h2, h3, h4, h5, h6, h7, h8, h9, h10, h11, h12⟩
    exact ⟨⟨h1, h2, h3, h4, h5, h7, h8, h9⟩, h6, h10, h11, fun r hr => (h12 r hr).imp_right (standsAt_iff s r).mp⟩
  · rintro ⟨⟨h1, h2, h3, h4, h5, h7, h8, h9⟩, h6, h10, h11, h12⟩
    exact ⟨h1, h2, h3, h4, h5, h6, h7, h8, h9, h10, h11, fun r hr => (h12 r hr).imp_right (standsAt_iff s r).mpr⟩

/-- The clock changes in nothing but its state, its speed and its ramp. -/
theorem Clock.Ranged.move {c : Clock} (h : c.Ranged) {st : ClockState} {v : Nat} {ramp : Ramp} (hv : v ≤ 1000000)
    (hr : rampInRange ramp = true) : ({ c with state := st, speed := v, ramp := ramp } : Clock).Ranged :=
  { h with speed := hv, ramp := hr }

/-- The run moves in nothing but its states, speed and ramp; the pass may end. -/
theorem Course.ClockFits.move {f : Course} (h : f.ClockFits) {cs : CtrlState} {form : Option StopForm}
    {pass : Option PassKind} {n : Nat} {ret : Option ReturnRec} {st : ClockState} {v : Nat} {ramp : Ramp} {b w : Bool}
    (hv : v ≤ 1000000) (hr : rampInRange ramp = true) (hpass : pass.isSome = true → f.pass.isSome = true ∧ n = f.entry)
    (hret : ∀ r ∈ ret, r ∈ f.ret ∧ n = f.entry) :
    ({ f with
        state := cs, stopForm := form, pass := pass, entry := n, ret := ret
        clock := { f.clock with state := st, speed := v, ramp := ramp }, checking := b, walked := w } : Course).ClockFits :=
  { ranged := h.ranged.move hv hr
    inside := fun hp e he => by
      obtain ⟨hp', rfl⟩ := hpass hp
      exact h.inside hp' e he
    listLength := h.listLength
    list := h.list
    record := fun r hr => by
      obtain ⟨hr', rfl⟩ := hret r hr
      exact h.record r hr' }

/-! ### From course to course -/

/-- The states that the way to a new pass does not lead through: not CHECKING, PREROLL or ARMED. -/
def farFromPass (cs : CtrlState) : Bool := !(cs = .checking) && !(cs = .preroll) && !(cs = .armed)

namespace Course

/-- The pass is over, and no new one begins but by a new check. -/
def Over (f : Course) : Prop := f.pass = none ∧ farFromPass f.state = true

/-- A pass goes on as the same pass, its pass frame rising by n at most, or is over; and a pass that is over stays so. -/
def Onward (n : Nat) (f g : Course) : Prop :=
  (f.pass.isSome = true →
    (g.pass.isSome = true ∧ g.counter = f.counter ∧ f.clock.passFrame ≤ g.clock.passFrame ∧
      g.clock.passFrame ≤ f.clock.passFrame + n) ∨ g.Over) ∧
  (f.Over → g.Over)

/-- From f to g both laws are kept, and the pass goes onward. -/
structure Follows (n : Nat) (f g : Course) : Prop where
  fits : f.Fits → g.Fits
  clock : f.Fits → f.ClockFits → g.ClockFits
  onward : f.Fits → f.ClockFits → Onward n f g

variable {f g h : Course} {n : Nat}

theorem Onward.refl (f : Course) : Onward n f f :=
  ⟨fun hp => .inl ⟨hp, rfl, le_rfl, Nat.le_add_right ..⟩, id⟩

theorem Onward.trans {m : Nat} (h1 : Onward n f g) (h2 : Onward m g h) : Onward (n + m) f h := by
  refine ⟨fun hp => ?_, h2.2 ∘ h1.2⟩
  obtain ⟨hp1, hc1, hlo1, hhi1⟩ | ho := h1.1 hp
  · obtain ⟨hp2, hc2, hlo2, hhi2⟩ | ho := h2.1 hp1
    · exact .inl ⟨hp2, hc2.trans hc1, hlo1.trans hlo2, by omega⟩
    · exact .inr ho
  · exact .inr (h2.2 ho)

theorem Follows.refl (f : Course) : Follows n f f := ⟨id, fun _ => id, fun _ _ => .refl f⟩

theorem Follows.of_eq (h : g = f) : Follows n f g := by rw [h]; exact .refl f

theorem Follows.add {m : Nat} (h1 : Follows n f g) (h2 : Follows m g h) : Follows (n + m) f h :=
  ⟨h2.fits ∘ h1.fits, fun hf hc => h2.clock (h1.fits hf) (h1.clock hf hc),
    fun hf hc => (h1.onward hf hc).trans (h2.onward (h1.fits hf) (h1.clock hf hc))⟩

/-- After a step in which the pass frame may rise, one in which it stands. -/
theorem Follows.trans (h1 : Follows n f g) (h2 : Follows 0 g h) : Follows n f h := h1.add h2

/-- Before a step in which the pass frame may rise, one in which it stands. -/
theorem Follows.before (h1 : Follows 0 f g) (h2 : Follows n g h) : Follows n f h := by
  have := h1.add h2
  rwa [Nat.zero_add] at this

/-- What holds of the first course by the controller's law may be assumed. -/
theorem Follows.of (h : f.Fits → Follows n f g) : Follows n f g :=
  ⟨fun hf => (h hf).fits hf, fun hf => (h hf).clock hf, fun hf => (h hf).onward hf⟩

/-- What holds of the first course by both laws may be assumed, where the controller's law is kept anyway. -/
theorem Follows.of_clock (hfit : f.Fits → g.Fits) (h : f.Fits → f.ClockFits → Follows n f g) : Follows n f g :=
  ⟨hfit, fun hf hc => (h hf hc).clock hf hc, fun hf hc => (h hf hc).onward hf hc⟩

/-! ### No pass exists -/

theorem Fits.parked_of_state (h : f.Fits)
    (hs : f.state = .idle ∨ f.state = .checking ∨ f.state = .preroll ∨ f.state = .armed ∨ f.state = .faulted) :
    f.Parked := by
  obtain hp | hr | hst := h.mode
  · exact hp
  · obtain ⟨h1, -⟩ | ⟨h1, -⟩ | ⟨h1, -⟩ | ⟨h1, -⟩ := hr.state_cases <;> simp [h1] at hs
  · obtain h1 | h1 | h1 := hst.state_cases <;> simp [h1] at hs

theorem Fits.parked_of_pass (h : f.Fits) (hp : f.pass = none) : f.Parked := by
  obtain hk | hr | hst := h.mode
  · exact hk
  · have := hr.pass
    rw [hp] at this
    cases this
  · have := hst.pass
    rw [hp] at this
    cases this

theorem Fits.parked_of_generator (h : f.Fits) (hg : f.stopForm = some .generator) : f.Parked := by
  obtain hp | hr | hst := h.mode
  · exact hp
  · obtain ⟨-, h1⟩ | ⟨-, h1⟩ | ⟨-, h1⟩ | ⟨-, h1⟩ := hr.state_cases <;> simp [hg] at h1
  · rw [hst.stopForm] at hg
    cases hg

theorem Fits.parked_of_jogging (h : f.Fits) (hs : f.state = .jogging) (hr : f.ret = none) : f.Parked := by
  obtain hp | hr' | hst := h.mode
  · exact hp
  · obtain ⟨h1, -⟩ | ⟨h1, -⟩ | ⟨h1, -⟩ | ⟨h1, -⟩ := hr'.state_cases <;> simp [h1] at hs
  · have := hst.away (by simp [hs])
    rw [hr] at this
    cases this

theorem Fits.riding_of_state (h : f.Fits) (hs : f.state = .running ∨ f.state = .holding) : f.Riding := by
  obtain hp | hr | hst := h.mode
  · obtain ⟨h1, h2, -⟩ := hp.state_ne
    rcases hs with hs | hs
    · exact absurd hs h1
    · exact absurd hs h2
  · exact hr
  · obtain h1 | h1 | h1 := hst.state_cases <;> simp [h1] at hs

/-- A stop that is not the generator's is on the path. -/
theorem Fits.riding_of_stop (h : f.Fits) (hs : f.state = .stopping ∨ f.state = .faultStopping)
    (hg : f.stopForm ≠ some .generator) : f.Riding := by
  obtain hp | hr | hst := h.mode
  · have := hp.place
    unfold Footing.parked at this
    split at this <;> simp_all
  · exact hr
  · obtain h1 | h1 | h1 := hst.state_cases <;> simp [h1] at hs

/-- A clock that advances or waits governs the run. -/
theorem Fits.riding_of_clock (h : f.Fits) (hc : f.clock.state = .advancing ∨ f.clock.state = .waiting) : f.Riding := by
  obtain hp | hr | hst := h.mode
  · obtain ⟨h1, h2, -⟩ := (idles_iff _).mp hp.idles
    rcases hc with hc | hc
    · exact absurd hc h1
    · exact absurd hc h2
  · exact hr
  · obtain ⟨h1, h2, -⟩ := (idles_iff _).mp hst.idles
    rcases hc with hc | hc
    · exact absurd hc h1
    · exact absurd hc h2

theorem Fits.standing_of_state (h : f.Fits) (hs : f.state = .held ∨ f.state = .returning) : f.Standing := by
  obtain hp | hr | hst := h.mode
  · obtain ⟨-, -, h1, h2⟩ := hp.state_ne
    rcases hs with hs | hs
    · exact absurd hs h1
    · exact absurd hs h2
  · obtain ⟨h1, -⟩ | ⟨h1, -⟩ | ⟨h1, -⟩ | ⟨h1, -⟩ := hr.state_cases <;> simp [h1] at hs
  · exact hst

theorem Fits.standing_of_ret (h : f.Fits) (hr : f.ret.isSome = true) : f.Standing := by
  obtain hp | hrd | hst := h.mode
  · rw [hp.ret] at hr
    cases hr
  · rw [hrd.ret] at hr
    cases hr
  · exact hst

theorem Fits.not_checking (h : f.Fits) (hs : f.state ≠ .checking) : f.checking = false := by
  rw [h.checking, decide_eq_false hs]

theorem Riding.not_checking (h : f.Riding) : f.state ≠ .checking := by
  obtain ⟨h1, -⟩ | ⟨h1, -⟩ | ⟨h1, -⟩ | ⟨h1, -⟩ := h.state_cases <;> simp [h1]

theorem Standing.not_checking (h : f.Standing) : f.state ≠ .checking := by
  obtain h1 | h1 | h1 := h.state_cases <;> simp [h1]

/-- A state with no pass is left for another. -/
theorem Parked.move (h : f.Parked) {cs : CtrlState} {form : Option StopForm} (hp : parked cs form = true) (b w : Bool) :
    ({ f with state := cs, stopForm := form, checking := b, walked := w } : Course).Parked :=
  ⟨hp, h.idles, h.pass, h.ret, h.entry⟩

theorem Parked.follows (h : f.Parked) {cs : CtrlState} {form : Option StopForm} {b w : Bool}
    (hp : parked cs form = true) (hb : f.Fits → b = decide (cs = .checking)) (hw : f.walked = true → w = true)
    (ho : farFromPass f.state = true → farFromPass cs = true) :
    Follows n f { f with state := cs, stopForm := form, checking := b, walked := w } where
  fits hf := ⟨hb hf, hw hf.walked, .inl (h.move hp b w)⟩
  clock _ hc := hc.move hc.ranged.speed hc.ranged.ramp (fun hp => ⟨hp, rfl⟩) fun _ hr => ⟨hr, rfl⟩
  onward _ _ := ⟨fun hpass => absurd h.pass (Option.isSome_iff_ne_none.mp hpass), fun ⟨h1, h2⟩ => ⟨h1, ho h2⟩⟩

/-- A pass has ended in a state with none. -/
theorem ended_follows {cs : CtrlState} {form : Option StopForm} {st : ClockState} {v : Nat} {ramp : Ramp} {b : Bool}
    (hp : parked cs form = true) (ho : farFromPass cs = true) (hb : f.Fits → b = false)
    (hi : ({ f.clock with state := st, speed := v, ramp := ramp } : Clock).idles = true)
    (hv : f.clock.speed ≤ 1000000 → v ≤ 1000000)
    (hr : rampInRange f.clock.ramp = true → rampInRange ramp = true) :
    Follows n f
      { f with
        state := cs, stopForm := form, pass := none, entry := 0, ret := none
        clock := { f.clock with state := st, speed := v, ramp := ramp }, checking := b } where
  fits hf :=
    { checking := by
        rw [hb hf]
        simp only [farFromPass, Bool.and_eq_true, Bool.not_eq_true', decide_eq_false_iff_not] at ho
        exact (decide_eq_false ho.1.1).symm
      walked := hf.walked
      mode := .inl ⟨hp, hi, rfl, rfl, rfl⟩ }
  clock _ hc := hc.move (hv hc.ranged.speed) (hr hc.ranged.ramp) (by simp) (by simp)
  onward _ _ := ⟨fun _ => .inr ⟨rfl, ho⟩, fun _ => ⟨rfl, ho⟩⟩

/-! ### A pass goes on -/

/-- A pass goes on where it stands, by what its course becomes. -/
theorem pass_follows (hpass : f.pass.isSome = true) (hp : g.pass = f.pass) (hn : g.counter = f.counter)
    (hplace : g.clock.passFrame = f.clock.passFrame) (hfit : f.Fits → g.Fits) (hc : f.Fits → f.ClockFits → g.ClockFits) :
    Follows n f g where
  fits := hfit
  clock := hc
  onward _ _ := by
    refine ⟨fun _ => .inl ⟨hp ▸ hpass, hn, hplace.ge, ?_⟩, fun ho => ?_⟩
    · rw [hplace]
      exact Nat.le_add_right ..
    · rw [ho.1] at hpass
      cases hpass

/-- The pass comes under the path, or stays under it. -/
theorem ride_follows {cs : CtrlState} {form : Option StopForm} {st : ClockState} {v : Nat} {ramp : Ramp}
    (hpass : f.pass.isSome = true) (hret : f.ret = none) (hchk : f.state ≠ .checking) (hplace : riding cs form = true)
    (hst : st = .advancing ∨ (st = .waiting ∧ cs = .running ∧ f.clock.cfg.sync = .follower ∧ v = 0))
    (hk : ramp.kind = rideKind cs) (hv : f.clock.speed ≤ 1000000 → v ≤ 1000000)
    (hr : f.ClockFits → rampInRange ramp = true) :
    Follows n f
      { f with state := cs, stopForm := form, clock := { f.clock with state := st, speed := v, ramp := ramp } } := by
  refine pass_follows hpass rfl rfl rfl (fun hf => ?_) fun _ hc =>
    hc.move (hv hc.ranged.speed) (hr hc) (fun hp => ⟨hp, rfl⟩) fun _ hr => ⟨hr, rfl⟩
  have hentry : 1 ≤ f.entry ∧ f.entry ≤ f.runList.length := by
    obtain hp | hr | hs := hf.mode
    · rw [hp.pass] at hpass
      cases hpass
    · exact hr.entry
    · exact hs.entry
  have hriding : ({ f with
      state := cs, stopForm := form, clock := { f.clock with state := st, speed := v, ramp := ramp } } : Course).Riding :=
    ⟨hplace, hst, hk, hpass, hret, hentry⟩
  exact ⟨(hf.not_checking hchk).trans (decide_eq_false hriding.not_checking).symm, hf.walked, .inr (.inl hriding)⟩

/-- The pass comes to stand, or stands on. -/
theorem stand_follows {cs : CtrlState} {ret : Option ReturnRec} {st : ClockState} {v : Nat} {ramp : Ramp}
    (hpass : f.pass.isSome = true) (hchk : f.state ≠ .checking) (hplace : standsStill cs = true)
    (hi : ({ f.clock with state := st, speed := v, ramp := ramp } : Clock).idles = true)
    (haway : cs ≠ .held → ret.isSome = true)
    (hrec : f.Fits → ∀ r ∈ ret, r ∈ f.ret ∨ (r.entry = f.entry ∧
      (f.ClockFits → recordInRange r = true ∧ f.StandsAt r)))
    (hv : f.ClockFits → v ≤ 1000000) (hr : rampInRange f.clock.ramp = true → rampInRange ramp = true) :
    Follows n f
      { f with
        state := cs, stopForm := none, ret := ret, clock := { f.clock with state := st, speed := v, ramp := ramp } } := by
  refine pass_follows hpass rfl rfl rfl (fun hf => ?_) fun hf hc => ?_
  · have hentry : 1 ≤ f.entry ∧ f.entry ≤ f.runList.length := by
      obtain hp | hr | hs := hf.mode
      · rw [hp.pass] at hpass
        cases hpass
      · exact hr.entry
      · exact hs.entry
    have hstand : ({ f with
        state := cs, stopForm := none, ret := ret
        clock := { f.clock with state := st, speed := v, ramp := ramp } } : Course).Standing := by
      refine ⟨hplace, rfl, hi, hpass, haway, hentry, fun r hrr => ?_⟩
      obtain hold | ⟨heq, -⟩ := hrec hf r hrr
      · exact (hf.standing_of_ret (Option.isSome_iff_exists.mpr ⟨r, hold⟩)).recorded r hold
      · rw [heq]
        exact hentry
    exact ⟨(hf.not_checking hchk).trans (decide_eq_false hstand.not_checking).symm, hf.walked, .inr (.inr hstand)⟩
  · refine ⟨hc.ranged.move (hv hc) (hr hc.ranged.ramp), hc.inside, hc.listLength, hc.list, fun r hrr => ?_⟩
    obtain hold | ⟨-, hnew⟩ := hrec hf r hrr
    · exact hc.record r hold
    · exact hnew hc

end Course

/-- From state s to state t both laws are kept, and the pass goes onward by n pass frames at most. -/
abbrev Runs (n : Nat) (s t : State) : Prop := s.course.Follows n t.course

variable {n : Nat}

theorem Course.Follows.of_course {t : State} {f g : Course} (h : t.course = g) (hg : f.Follows n g) :
    f.Follows n t.course := by rwa [h]

theorem foldl_course {α : Type} {f : State → α → State} (h : ∀ s x, (f s x).course = s.course) (xs : List α) (s : State) :
    (xs.foldl f s).course = s.course := by
  induction xs generalizing s with
  | nil => rfl
  | cons x xs ih => exact (ih _).trans (h s x)

theorem foldl_runs {α : Type} {f : State → α → State} (h : ∀ s x, Runs 0 s (f s x)) (xs : List α) (s : State) :
    Runs 0 s (xs.foldl f s) := by
  induction xs generalizing s with
  | nil => exact .refl _
  | cons x xs ih => exact (h s x).trans (ih _)

end Sys2Proof.Machine
end

/-! SUPPORT. The operations that leave the course of the run as it stands. -/
section
namespace Sys2Proof.Machine

namespace State

variable (s : State)

/-! ### Messages, one block's records -/

@[simp] theorem reply_course (kind tag : Byte) (st : Status) (fields : List Byte) :
    (s.reply kind tag st fields).course = s.course := rfl
@[simp] theorem reportState_course : s.reportState.course = s.course := rfl
@[simp] theorem reportFaultsIf_course (b : Bool) : (s.reportFaultsIf b).course = s.course := by cases b <;> rfl
@[simp] theorem setGen_course (a : Axis) (g : GenRec) : (s.setGen a g).course = s.course := rfl
@[simp] theorem mapGen_course (f : Axis → GenRec → GenRec) : (s.mapGen f).course = s.course := rfl
@[simp] theorem genReleaseAll_course : s.genReleaseAll.course = s.course := rfl
@[simp] theorem genRestAll_course : s.genRestAll.course = s.course := rfl
@[simp] theorem genTargetAll_course (ts : Vector Int 16) : (s.genTargetAll ts).course = s.course := rfl
@[simp] theorem genEndFollowing_course : s.genEndFollowing.course = s.course := rfl
@[simp] theorem genDropAll_course : s.genDropAll.course = s.course := rfl
@[simp] theorem stepGen_course : s.stepGen.course = s.course := rfl
@[simp] theorem takeUpAll_course : s.takeUpAll.course = s.course := rfl
@[simp] theorem discardArm_course : s.discardArm.course = s.course := rfl
@[simp] theorem clearSkipped_course : s.clearSkipped.course = s.course := rfl
@[simp] theorem formSetpoints_course (path : Option RunEntry) : (s.formSetpoints path).course = s.course := rfl
@[simp] theorem withCtrl_course (st : CtrlState) (form : Option StopForm) :
    (s.withCtrl st form).course = { s.course with state := st, stopForm := form } := rfl
@[simp] theorem enter_course (st : CtrlState) :
    (s.enter st).course = { s.course with state := st, stopForm := none } := rfl
@[simp] theorem enterStop_course (st : CtrlState) (form : StopForm) :
    (s.enterStop st form).course = { s.course with state := st, stopForm := some form } := rfl

/-! ### The monitor unit -/

@[simp] theorem detach_course (i : CondId) : (s.detach i).course = s.course := by
  simp only [detach]
  split <;> rfl

@[simp] theorem releaseAxis_course (a : Axis) : (s.releaseAxis a).course = s.course := by
  obtain ⟨-, h⟩ | ⟨-, h⟩ := releaseAxis_cases s a <;> rw [h]
  rfl

@[simp] theorem settleFaults_course (b : Bool) : (s.settleFaults b).course = s.course := by
  simp only [settleFaults, reportFaultsIf_course, releaseAll]
  exact foldl_course releaseAxis_course _ s

@[simp] theorem passOutConds_course (ids : List CondId) : (s.passOutConds ids).course = s.course := by
  rw [passOutConds, settleFaults_course]
  rfl

/-! ### The pass log and the cues -/

@[simp] theorem finalizePass_course (o : PassOutcome) : (s.finalizePass o).course = s.course := by
  unfold finalizePass
  simp only
  split <;> rfl

@[simp] theorem closePass_course (o : PassOutcome) : (s.closePass o).course = s.course := by
  unfold closePass
  split
  · rfl
  · exact s.finalizePass_course o

@[simp] theorem finishClosing_course : s.finishClosing.course = s.course := by
  unfold finishClosing
  split
  · exact s.finalizePass_course _
  · rfl

/-- R148: a pass that begins has the next number, and no other item of the course changes. -/
theorem beginPass_course (kind : PassKind) :
    (s.beginPass kind).course = { s.course with counter := nextNumber s.course.counter } := by
  have h : (s.beginPass kind).course = { s.finishClosing.course with counter := nextNumber s.finishClosing.course.counter } :=
    rfl
  rw [h, finishClosing_course]

@[simp] theorem recordFrame_course (c : Crossing) (r : FrameRec) : (s.recordFrame c r).course = s.course := by
  have hw : ({ s with log := writeRecord s.log r } : State).course = s.course := by
    unfold writeRecord
    split <;> rfl
  unfold recordFrame reportFrame
  split
  · exact hw
  · exact hw

@[simp] theorem fireCues_course (n : Nat) : (s.fireCues n).course = s.course := by
  unfold fireCues
  split <;> rfl

@[simp] theorem stageFor_course (e : RunEntry) (n : Nat) (b : Nat × Binding) :
    (stageFor e n s b).course = s.course := by
  simp only [stageFor]
  split
  · unfold markShort
    split <;> rfl
  · rfl

@[simp] theorem stageKeys_course (n : Nat) : (s.stageKeys n).course = s.course := by
  unfold stageKeys
  split
  · rfl
  · split
    · exact foldl_course (fun s b => s.stageFor_course _ n b) _ s
    · rfl

@[simp] theorem stageCrossing_course (n : Nat) : (s.stageCrossing n).course = s.course := by
  unfold stageCrossing
  split
  · exact s.stageKeys_course n
  · rfl

@[simp] theorem beginCapture_course : s.beginCapture.course = s.course := by
  apply course_congr <;> simp only [beginCapture, mapGen_ctrl, mapGen_clock, mapGen_check, mapGen_log]

@[simp] theorem openCaptureStaging_course : s.openCaptureStaging.course = s.course := by
  unfold openCaptureStaging
  split <;> rfl

@[simp] theorem startCapture_course : s.startCapture.course = s.course := by
  unfold startCapture
  split
  · rw [stageKeys_course, openCaptureStaging_course, beginCapture_course]
  · rfl

@[simp] theorem takeCrossing_course (n : Nat) : (s.takeCrossing n).course = s.course := by
  have h : ∀ t : State, ({ t with
      clock := beginTrigger t.clock, log := { t.log with crossing := some (t.crossingAt n) } } : State).course =
      t.course := by
    intro t
    unfold beginTrigger
    split <;> rfl
  exact (h _).trans ((fireCues_course _ n).trans (s.stageCrossing_course n))

@[simp] theorem endCapture_course (kind : PassKind) (keep : Bool) : (s.endCapture kind keep).course = s.course := by
  cases kind <;> rfl

/-! ### The run check -/

/-- R91: a walk never goes beyond its check frames. -/
theorem advanceWalk_course : s.advanceWalk.course = { s.course with walked := true } := by
  obtain ⟨hp, h⟩ | ⟨p, m, hp, hm, h⟩ := s.advanceWalk_cases <;> rw [h]
  · simp only [course, hp]
    rfl
  · simp [course, hp, walkInRange, walkTo, hm]

theorem recordCheck_course (r : CheckRecord) :
    (s.recordCheck r).course = { s.course with checking := false, walked := true } := rfl

/-- R104: a check that is cancelled, and none, leave no walk. -/
theorem cancelCheck_course : s.cancelCheck.course = { s.course with checking := false, walked := true } := by
  have hw := s.advanceWalk_course
  unfold cancelCheck
  simp only
  split
  · next hp =>
    have hchk : s.course.checking = false := by
      have : s.advanceWalk.course.checking = false := by simp only [course, hp, Option.isSome_none]
      rw [hw] at this
      exact this
    rw [hw, ← hchk]
  · rw [recordCheck_course, hw]

theorem startCheck_course (p : Purpose) (v : Vector Int 16) :
    (s.startCheck p v).course = { s.course with checking := true, walked := true } := by
  have hw : walkInRange (s.startCheck p v).check.progress = true := by
    rw [walkInRange_iff]
    rintro q ⟨⟩
    exact Nat.zero_le _
  simp only [course, hw]
  rfl

/-! ### The axis link -/

@[simp] theorem turnOffAxis_course (a : Axis) : (s.turnOffAxis a).course = s.course := by
  unfold turnOffAxis genDriveLeft
  split
  · rfl
  · rfl
  · simp only
    split <;> rfl

@[simp] theorem abortQueue_course (drop : Acyclic → Bool) : (s.abortQueue drop).course = s.course :=
  foldl_course (f := abortPass) (fun _ _ => rfl) _ s

@[simp] theorem sendSetpoint_course (a : Axis) : (s.sendSetpoint a).course = s.course := by
  unfold sendSetpoint
  simp only
  split <;> rfl

@[simp] theorem sendAcyclic_course (p : LinkPeriod) : (s.sendAcyclic p).course = s.course := by
  unfold sendAcyclic
  split <;> rfl

@[simp] theorem grantSlot_course (p : LinkPeriod) : (s.grantSlot p).course = s.course := by
  unfold grantSlot
  simp only
  split
  · exact sendSetpoint_course _ _
  · exact sendSetpoint_course _ _
  · exact sendAcyclic_course _ _
  · exact sendAcyclic_course _ _
  · rfl

@[simp] theorem startPeriod_course : s.startPeriod.course = s.course := s.grantSlot_course _

@[simp] theorem takeFeedback_course (a : Axis) (r : SetpointReply) : (s.takeFeedback a r).course = s.course := by
  unfold takeFeedback
  simp only
  split <;> rfl

@[simp] theorem answerPass_course (t : Acyclic) (r : AcyclicReply) : (s.answerPass t r).course = s.course := by
  unfold answerPass
  split <;> rfl

@[simp] theorem takeReply_course (bytes : List Byte) : (s.takeReply bytes).course = s.course := by
  unfold takeReply
  split
  · rfl
  · split
    · rfl
    · split
      · rfl
      · simp only
        split
        · exact takeFeedback_course _ _ _
        · rfl
    · split
      · rfl
      · split
        · rfl
        · exact answerPass_course _ _ _

@[simp] theorem endAttempt_course (p : LinkPeriod) : (s.endAttempt p).1.course = s.course := by
  unfold endAttempt failAttempt
  split
  · rfl
  · rfl
  · rfl
  · split
    · rfl
    · simp only
      split <;> rfl

@[simp] theorem closeLink_course (p : LinkPeriod) : (s.closeLink p).course = s.course := rfl

@[simp] theorem fallBlanking_course : s.fallBlanking.course = s.course := rfl

@[simp] theorem countInPosition_course : s.countInPosition.course = s.course := by
  unfold countInPosition
  split <;> rfl

@[simp] theorem endEnabling_course (a : Axis) : (s.endEnabling a).course = s.course := by
  unfold endEnabling
  simp only
  split <;> rfl

@[simp] theorem configureLink_course (a : Axis) : (s.configureLink a).course = s.course := rfl

/-! ### Timers, lines, pins -/

@[simp] theorem expireRefresh_course (a : Axis) : (s.expireRefresh a).course = s.course := by
  unfold expireRefresh
  split <;> rfl

@[simp] theorem takeRefreshOverdue_course (a : Axis) : (s.takeRefreshOverdue a).course = s.course := by
  unfold takeRefreshOverdue
  split
  · exact s.expireRefresh_course a
  · rfl

@[simp] theorem takeClear_course (l : Line) : (s.takeClear l).course = s.course := by
  unfold takeClear
  split <;> rfl

@[simp] theorem takeTriggerEnd_course : s.takeTriggerEnd.course = s.course := by
  unfold takeTriggerEnd
  split <;> rfl

@[simp] theorem sampleFilter_course (l : Line) : (s.sampleFilter l).course = s.course := by
  unfold sampleFilter
  split
  · split <;> rfl
  · rfl

@[simp] theorem samplePins_course (pins : BitVec 12) : (s.samplePins pins).course = s.course := by
  have h : ∀ t : State, t.armDetector.course = t.course := fun t => by
    unfold armDetector
    split <;> rfl
  rw [samplePins, h, foldl_course sampleFilter_course]
  rfl

@[simp] theorem countPeriod_course : s.countPeriod.course = s.course := rfl

/-- R91, R103: the timers fall, and a check under way walks on. -/
theorem fallTimers_course : s.fallTimers.course = { s.course with walked := true } := by
  rw [fallTimers, advanceWalk_course]
  cases hp : s.check.progress <;> simp only [course, hp] <;> rfl

end State

/-- A walk that is in range was so by the controller's law. -/
theorem Course.walked_follows {f : Course} {n : Nat} : f.Follows n { f with walked := true } :=
  .of fun hf => .of_eq (by rw [← hf.walked])

end Sys2Proof.Machine
end

/-! SUPPORT. How the run controller's moves from state to state keep the laws of the controller and of the clock (R51 to R56, R66, R80,
R86 to R88). -/
section
namespace Sys2Proof.Machine

open Footing (parked riding)
open Course (Follows)

variable {n : Nat} {s t s0 : State} {cs : CtrlState} {form : Option StopForm}

theorem Course.Fits.riding_of_place {f : Course} (h : f.Fits) (hp : riding f.state f.stopForm = true) : f.Riding := by
  unfold riding at hp
  split at hp
  · next hs _ => exact h.riding_of_state (.inl hs)
  · next hs _ => exact h.riding_of_state (.inr hs)
  · next hs hf => exact h.riding_of_stop (.inl hs) (by simp [hf])
  · next hs hf => exact h.riding_of_stop (.inr hs) (by simp [hf])
  · cases hp

/-- R59: only in RUNNING does the clock wait. -/
theorem Course.Riding.advancing {f : Course} (h : f.Riding) (hs : f.state ≠ .running) : f.clock.state = .advancing := by
  obtain ha | ⟨-, hr, -⟩ := h.clock
  · exact ha
  · exact absurd hr hs

theorem cancelCheck_course_of_fits (h : s.course.Fits) : s.cancelCheck.course = { s.course with checking := false } := by
  rw [State.cancelCheck_course, ← h.walked]

/-! ### The end of a pass (R80) -/

theorem endPass_course (s : State) {kind : PassKind} (o : PassOutcome) (h : s.ctrl.pass = some kind) :
    (s.endPass o).course =
      { s.course with
        pass := none, entry := 0, ret := none
        clock := { s.course.clock with state := .stopped, speed := 0, ramp := .none } } := by
  have hend : ∀ u : State, ({ u with clock := stopClock u.clock } : State).clearPass.course =
      { u.course with
        pass := none, entry := 0, ret := none
        clock := { u.course.clock with state := .stopped, speed := 0, ramp := .none } } := fun _ => rfl
  simp only [State.endPass, h, State.endPassAfterLog, State.passOutConds_course, hend, State.endCapture_course,
    State.closePass_course]

/-- A state with no pass ends none. -/
theorem endPass_of_none {s : State} (o : PassOutcome) (h : s.ctrl.pass = none) : s.endPass o = s := by
  simp only [State.endPass, h]

/-- R80: a pass, when one exists, ends, the controller's state being already the one the end leads to. -/
theorem endPass_runs {st : ClockState} {v : Nat} {ramp : Ramp} {b : Bool}
    (hf : s0.course =
      { s.course with
        state := cs, stopForm := form, clock := { s.course.clock with state := st, speed := v, ramp := ramp }
        checking := b })
    (hp : parked cs form = true) (ho : farFromPass cs = true) (hb : s.course.Fits → b = false)
    (hi : s.course.Parked → ({ s.course.clock with state := st, speed := v, ramp := ramp } : Clock).idles = true)
    (hv : s.course.clock.speed ≤ 1000000 → v ≤ 1000000)
    (hr : rampInRange s.course.clock.ramp = true → rampInRange ramp = true) (o : PassOutcome) :
    Runs n s (s0.endPass o) := by
  refine .of fun hfit => ?_
  cases hk : s0.ctrl.pass with
  | none =>
    have hnone : s.course.pass = none := (State.pass_of_course hf).symm.trans hk
    have hpark := hfit.parked_of_pass hnone
    have hcourse : (s0.endPass o).course =
        { s.course with
          state := cs, stopForm := form, pass := none, entry := 0, ret := none
          clock := { s.course.clock with state := st, speed := v, ramp := ramp }, checking := b } := by
      rw [endPass_of_none o hk, hf, ← hpark.ret, ← hpark.entry, ← hnone]
    exact .of_course hcourse (Course.ended_follows hp ho hb (hi hpark) hv hr)
  | some kind =>
    have hcourse := endPass_course s0 o hk
    rw [hf] at hcourse
    exact .of_course hcourse
      (Course.ended_follows hp ho hb rfl (fun _ => Nat.zero_le _) fun _ => rfl)

/-- R79, R80, R86: a pass ends where it stands, in a state that no check goes with. -/
theorem withCtrl_endPass_runs {s1 : State} (h1 : s1.course = s.course) (hs : s.ctrl.state ≠ .checking)
    (hp : parked cs form = true) (ho : farFromPass cs = true) (o : PassOutcome) :
    Runs n s ((s1.withCtrl cs form).endPass o) :=
  endPass_runs (st := s.course.clock.state) (v := s.course.clock.speed) (ramp := s.course.clock.ramp)
    (b := s.course.checking) (by rw [State.withCtrl_course, h1]) hp ho (fun hf => hf.not_checking hs) (·.idles) id id o

theorem withCtrl_endPass_report_runs (hs : s.ctrl.state ≠ .checking) (hp : parked cs form = true)
    (ho : farFromPass cs = true) (o : PassOutcome) : Runs n s ((s.withCtrl cs form).endPass o).reportState :=
  withCtrl_endPass_runs rfl hs hp ho o

/-! ### A state with no pass is left for another -/

/-- A state with no pass and no check is left for another. -/
theorem park_runs (hf : t.course = { s.course with state := cs, stopForm := form }) (hs : s.ctrl.state ≠ .checking)
    (hpark : s.course.Fits → s.course.Parked) (hp : parked cs form = true) (hcs : cs ≠ .checking)
    (ho : farFromPass s.ctrl.state = true → farFromPass cs = true) : Runs n s t := by
  refine .of fun hfit => ?_
  exact .of_course hf
    ((hpark hfit).follows hp (fun h => (h.not_checking hs).trans (decide_eq_false hcs).symm) id ho)

/-- R103, R104: a check ends. -/
theorem leaveCheck_runs {w : Bool} (hf : t.course = { s.course with state := cs, stopForm := form, checking := false, walked := w })
    (hw : s.course.walked = true → w = true) (hs : s.ctrl.state = .checking) (hp : parked cs form = true)
    (hcs : cs ≠ .checking) : Runs n s t := by
  refine .of fun hfit => ?_
  have hno : farFromPass s.course.state = false := by
    simp [farFromPass, State.course, hs]
  exact .of_course hf ((hfit.parked_of_state (.inr (.inl hs))).follows hp (fun _ => (decide_eq_false hcs).symm) hw
    fun h => by rw [hno] at h; cases h)

/-! ### Drives turned off -/

theorem abandonArm_runs (h : s.ctrl.state = .armed) : Runs n s s.abandonArm :=
  park_runs (cs := .idle) (form := none) rfl (by simp [h])
    (fun hf => hf.parked_of_state (.inr (.inr (.inr (.inl h))))) rfl (by decide) fun _ => rfl

theorem driveLeftOn_runs (s : State) : Runs n s s.driveLeftOn := by
  unfold State.driveLeftOn
  split
  · next h => exact abandonArm_runs h
  · next h => exact withCtrl_endPass_report_runs (by simp [h]) rfl rfl _
  · next h =>
    split
    · next hret =>
      refine .of fun hf => ?_
      have hform : s.course.stopForm = none := (hf.standing_of_ret hret).stopForm
      refine endPass_runs (cs := .jogging) (form := none) (st := s.course.clock.state) (v := s.course.clock.speed)
        (ramp := s.course.clock.ramp) (b := s.course.checking) ?_ rfl rfl (fun hf => hf.not_checking (by simp [State.course, h]))
        (·.idles) id id _
      rw [← hform, ← show s.course.state = .jogging from h]
    · exact .refl _
  · exact .refl _

theorem turnOff_runs (s : State) (axes : List Axis) : Runs n s (s.turnOff axes) := by
  have h1 : (axes.foldl State.turnOffAxis s).course = s.course := foldl_course State.turnOffAxis_course axes s
  unfold State.turnOff
  simp only
  refine Follows.trans ?_ (.of_eq (State.settleFaults_course _ _))
  split
  · exact .of_eq h1
  · exact Follows.trans (.of_eq h1) (driveLeftOn_runs _)

theorem linkDriveOff_runs (s : State) : Runs n s s.linkDriveOff :=
  (turnOff_runs s allAxes).trans (.of_eq (State.abortQueue_course _ _))

/-! ### Notices of the move clock -/

/-- R51: the end of a down ramp, in a state on the path. -/
theorem takeAtRest_runs (h : s.course.Riding) : Runs n s s.takeAtRest := by
  have hs : s.ctrl.state ≠ .checking := h.not_checking
  unfold State.takeAtRest
  split
  · exact Course.stand_follows (cs := .held) (ret := s.course.ret) (st := .atRest) (v := 0) (ramp := .none) h.pass hs rfl rfl
      (fun hne => absurd rfl hne) (fun _ _ hr => .inl hr) (fun _ => Nat.zero_le _) fun _ => rfl
  · exact endPass_runs (cs := .idle) (form := none) (st := .stopped) (v := 0) (ramp := .none) (b := s.course.checking) rfl
      rfl rfl (fun hf => hf.not_checking hs) (fun _ => rfl) (fun _ => Nat.zero_le _) (fun _ => rfl) _
  · exact endPass_runs (cs := .faulted) (form := none) (st := .stopped) (v := 0) (ramp := .none) (b := s.course.checking) rfl
      rfl rfl (fun hf => hf.not_checking hs) (fun _ => rfl) (fun _ => Nat.zero_le _) (fun _ => rfl) _
  · exact .refl _

theorem atRestIfStill_runs (h : s.course.Riding) : Runs n s s.atRestIfStill := by
  unfold State.atRestIfStill
  split
  · exact takeAtRest_runs h
  · exact .refl _

/-- R78: a landing, seen from the course of a clock that has gone on to the end frame. -/
theorem takeLanding_follows {f : Course} (h : f.Riding)
    (hs : s.course = { f with clock := { f.clock with state := .atRest, speed := 0, ramp := .none } }) :
    f.Follows n s.takeLanding.course := by
  have hchk : f.Fits → f.checking = false := fun hf => hf.not_checking h.not_checking
  have ended : ∀ (cs : CtrlState) (o : PassOutcome), parked cs none = true → farFromPass cs = true →
      f.Follows n ((s.withCtrl cs none).endPass o).course := by
    intro cs o hp ho
    obtain ⟨kind, hk⟩ := Option.isSome_iff_exists.mp h.pass
    rw [endPass_course (s.withCtrl cs none) o ((State.pass_of_course hs).trans hk), State.withCtrl_course, hs]
    exact Course.ended_follows hp ho hchk rfl (fun _ => Nat.zero_le _) fun _ => rfl
  unfold State.takeLanding
  split
  · exact ended .idle _ rfl rfl
  · exact ended .faulted _ rfl rfl
  · split
    · exact ended .idle _ rfl rfl
    · have hheld : (({ s with ctrl := { s.ctrl with landing := true } } : State).enter .held).course =
          { f with
            state := .held, stopForm := none, ret := f.ret
            clock := { f.clock with state := .atRest, speed := 0, ramp := .none } } := by
        have : (({ s with ctrl := { s.ctrl with landing := true } } : State).enter .held).course =
            { s.course with state := .held, stopForm := none } := rfl
        rw [this, hs]
      rw [hheld]
      exact Course.stand_follows h.pass h.not_checking rfl rfl (fun hne => absurd rfl hne) (fun _ _ hr => .inl hr)
        (fun _ => Nat.zero_le _) fun _ => rfl

/-! ### Actions (R86, R88, R139) -/

/-- A stop that goes on along the path with a ramp of its kind, and is over at once where the clock stands. -/
theorem rideIfStill_runs {ramp : Ramp} (h : s.course.Riding) (ha : s.course.clock.state = .advancing)
    (hf : t.course = { s.course with state := cs, stopForm := form, clock := { s.course.clock with ramp := ramp } })
    (hp : riding cs form = true) (hk : ramp.kind = rideKind cs) (hr : rampInRange ramp = true) :
    Runs n s t.atRestIfStill := by
  have hride : Runs n s t := .of_course hf (Course.ride_follows (st := s.course.clock.state) (v := s.course.clock.speed)
    h.pass h.ret h.not_checking hp (.inl ha) hk id fun _ => hr)
  refine hride.trans (.of fun ht => atRestIfStill_runs (ht.riding_of_place ?_))
  rw [hf]
  exact hp

theorem faultRampStop_runs (h : s.course.Riding) (ha : s.course.clock.state = .advancing) : Runs n s s.faultRampStop :=
  rideIfStill_runs (cs := .faultStopping) (form := some .path)
    (ramp := .down .fault (max (currentDecrement s.clock.ramp) (rampDecrement s.clock.speed s.clock.cfg.faultRamp)))
    h ha rfl rfl rfl rfl

theorem pathStop_runs (s : State) : Runs n s s.pathStop := by
  unfold State.pathStop
  split
  · next h =>
    exact park_runs (cs := .faulted) (form := none) rfl (by simp [h]) (fun hf => hf.parked_of_state (.inl h)) rfl
      (by decide) fun _ => rfl
  · next h =>
    exact park_runs (cs := .faulted) (form := none) rfl (by simp [h])
      (fun hf => hf.parked_of_state (.inr (.inr (.inr (.inl h))))) rfl (by decide) fun _ => rfl
  · next h =>
    refine leaveCheck_runs (cs := .faulted) (form := none) (w := true) ?_ (fun _ => rfl) h rfl (by decide)
    rw [State.enter_course, State.discardArm_course, State.cancelCheck_course]
  · next h =>
    refine park_runs (cs := .faultStopping) (form := some .generator) ?_ (by simp [h])
      (fun hf => hf.parked_of_state (.inr (.inr (.inl h)))) rfl (by decide) fun _ => rfl
    rw [State.enterStop_course, State.genRestAll_course]
    rfl
  · next h =>
    split
    · next ha => exact .of fun hf => faultRampStop_runs (hf.riding_of_state (.inl h)) ha
    · exact withCtrl_endPass_report_runs (by simp [h]) rfl rfl _
  · next h =>
    refine .of fun hf => ?_
    have hr := hf.riding_of_state (.inr h)
    exact faultRampStop_runs hr (hr.advancing (by simp [State.course, h]))
  · next h => exact withCtrl_endPass_report_runs (by simp [h]) rfl rfl _
  · next h =>
    exact (withCtrl_endPass_runs (s := s) (s1 := { s with ctrl := { s.ctrl with inPos := 0 } }) rfl (by simp [h]) rfl rfl _).trans
      (.of_eq ((State.reportState_course _).trans (State.genRestAll_course _)))
  · next h =>
    exact (withCtrl_endPass_runs (s := s) (s1 := { s with ctrl := { s.ctrl with inPos := 0 } }) rfl (by simp [h]) rfl rfl _).trans
      (.of_eq ((State.reportState_course _).trans (State.genRestAll_course _)))
  · next h =>
    split
    · next hg =>
      exact park_runs (cs := .faultStopping) (form := some .generator) rfl (by simp [h])
        (fun hf => hf.parked_of_generator hg) rfl (by decide) fun _ => rfl
    · next hg =>
      refine .of fun hf => ?_
      have hr := hf.riding_of_stop (.inl h) hg
      exact faultRampStop_runs hr (hr.advancing (by simp [State.course, h]))
  · next h =>
    split
    · exact .refl _
    · next hg =>
      refine .of fun hf => ?_
      have hr := hf.riding_of_stop (.inr h) hg
      have hplace := hr.place
      rw [show s.course.state = .faultStopping from h] at hplace
      refine rideIfStill_runs (cs := .faultStopping) (form := s.course.stopForm)
        (ramp := .down .fault (max (currentDecrement s.clock.ramp) (rampDecrement s.clock.speed s.clock.cfg.faultRamp)))
        hr (hr.advancing (by simp [State.course, h])) ?_ hplace rfl rfl
      rw [← show s.course.state = .faultStopping from h]
      rfl
  · exact .refl _

theorem controllerDriveOff_runs (s : State) : Runs n s s.controllerDriveOff := by
  unfold State.controllerDriveOff
  split
  · exact .refl _
  · refine .of fun hf => ?_
    have hcourse : (({ s with clock := stopClock s.clock } : State).cancelCheck.withCtrl .faulted none).course =
        { s.course with
          state := .faulted, stopForm := none
          clock := { s.course.clock with state := .stopped, speed := 0, ramp := .none }, checking := false } := by
      have hw : s.course.walked = true := hf.walked
      rw [State.withCtrl_course, State.cancelCheck_course, ← hw]
      rfl
    exact endPass_runs hcourse rfl rfl (fun _ => rfl) (fun _ => rfl) (fun _ => Nat.zero_le _) (fun _ => rfl) _

theorem driveOffAction_runs (s : State) : Runs n s s.driveOffAction :=
  (controllerDriveOff_runs s).trans (linkDriveOff_runs _)

theorem actOn_runs (s : State) (ids : List CondId) (changed : Bool) : Runs n s (s.actOn ids changed) := by
  unfold State.actOn
  simp only
  generalize ids.filter (hasAction s.mon .axisHalt) = halts
  have h1 : Runs n s (halts.foldl State.detach s) := .of_eq (foldl_course State.detach_course halts s)
  refine Follows.trans ?_ (.of_eq (State.settleFaults_course _ _))
  have h2 : Runs n s (if (!halts.isEmpty && (halts.foldl State.detach s).ctrl.state = .armed) = true then
      (halts.foldl State.detach s).abandonArm else halts.foldl State.detach s) := by
    split
    · next h =>
      simp only [Bool.and_eq_true, decide_eq_true_eq] at h
      exact h1.trans (abandonArm_runs h.2)
    · exact h1
  split
  · exact h2.trans (driveOffAction_runs _)
  · split
    · exact h2.trans (pathStop_runs _)
    · exact h2

theorem evaluateEvent_runs (s : State) (es : List Evidence) : Runs n s (s.evaluateEvent es) :=
  actOn_runs (n := n) { s with mon := (evaluateAll s.mon s.stampNow es).mon } _ _

end Sys2Proof.Machine
end

/-! SUPPORT. One advance of the clock keeps the laws of the clock and of the controller: what an increment can be, and where each way of
an advance leaves the clock (R47 to R50, R55, R56). -/
section
namespace Sys2Proof.Machine

/-! ### Settings and entries in their ranges -/

theorem settingsInRange_iff (c : ClockSettings) : settingsInRange c = true ↔
    (1000 ≤ c.frameRate ∧ c.frameRate ≤ 250000) ∧ (c.servoRate = 1000 ∨ c.servoRate = 2000 ∨ c.servoRate = 4000) ∧
      (1 ≤ c.trigWidth ∧ c.trigWidth ≤ 8) ∧ (1 ≤ c.holdRamp ∧ c.holdRamp ≤ 65535) ∧
      (1 ≤ c.resumeRamp ∧ c.resumeRamp ≤ 65535) ∧ 1 ≤ c.faultRamp ∧ c.faultRamp ≤ 65535 := by
  simp [settingsInRange, and_assoc, or_assoc]

theorem entryInRange_iff (e : RunEntry) : entryInRange e = true ↔
    e.startFrame ≤ 65535 ∧ e.endFrame ≤ 65535 ∧ 1 ≤ e.speed ∧ e.speed ≤ 1000 ∧ e.startFrame ≠ e.endFrame := by
  simp [entryInRange, and_assoc]

theorem targetSpeed_le {e : RunEntry} (h : entryInRange e = true) (cfg : ClockSettings) : targetSpeed cfg e ≤ 1000000 := by
  obtain ⟨-, -, -, hs, -⟩ := (entryInRange_iff e).mp h
  unfold targetSpeed
  split <;> omega

/-! ### The increment -/

/-- R49: no nominal increment passes a quarter of a frame. -/
theorem nominal_le {cfg : ClockSettings} {period e : Nat} (hc : settingsInRange cfg = true) (hp : period ≤ 1000)
    (he : e ≤ 1000000) : nominal cfg period e ≤ 16384 * 1000000000000000 := by
  obtain ⟨⟨-, hf⟩, -⟩ := (settingsInRange_iff cfg).mp hc
  calc cfg.frameRate * e * period * 65536 ≤ 250000 * 1000000 * 1000 * 65536 :=
        Nat.mul_le_mul_right _ (Nat.mul_le_mul (Nat.mul_le_mul hf he) hp)
    _ = 16384 * 1000000000000000 := by norm_num

theorem Clock.Ranged.period_le {c : Clock} (h : c.Ranged) : c.period ≤ 1000 := by
  obtain hp | hp | hp := h.period <;> omega

/-- R49, stage 1: the ramp step keeps speed and ramp in their ranges, and the kind of a down ramp. -/
theorem rampStep_ranged {c : Clock} (h : c.Ranged) {target : Nat} (ht : target ≤ 1000000) :
    (rampStep c target).speed ≤ 1000000 ∧ rampInRange (rampStep c target).ramp = true := by
  have hs := h.speed
  have hr := h.ramp
  unfold rampStep
  split
  · exact ⟨ht, hr⟩
  · next t step hramp =>
    have ht : t ≤ 1000000 := by simpa [rampInRange, hramp] using hr
    refine ⟨by simp only; omega, ?_⟩
    simp only
    split
    · rfl
    · simpa [rampInRange] using ht
  · exact ⟨by simp only; omega, hr⟩

theorem rampStep_kind (c : Clock) (target : Nat) : (rampStep c target).ramp.kind = c.ramp.kind := by
  unfold rampStep
  split
  · rfl
  · next t step hramp =>
    rw [hramp]
    simp only
    split <;> rfl
  · rfl

theorem carryRamp_kind (cfg : ClockSettings) (e : RunEntry) (r : Ramp) : (carryRamp cfg e r).kind = r.kind := by
  cases r <;> rfl

theorem carryRamp_inRange {cfg : ClockSettings} {e : RunEntry} (he : entryInRange e = true) {r : Ramp}
    (hr : rampInRange r = true) : rampInRange (carryRamp cfg e r) = true := by
  cases r with
  | up t d => simpa [carryRamp, rampInRange] using targetSpeed_le he cfg
  | none => exact hr
  | down k d => exact hr

section

variable {c : Clock} {e : RunEntry}

/-- R49, R60: an increment, trimmed or not, is less than a frame. -/
theorem incrementOf_le (h : c.Ranged) (he : entryInRange e = true) : incrementOf c e ≤ 18432 := by
  have hc1 := rampStep_clock c (targetSpeed c.cfg e)
  obtain ⟨hspeed, -⟩ := rampStep_ranged h (targetSpeed_le he c.cfg)
  have hnear := takeIncrement_near (rampStep c (targetSpeed c.cfg e))
  unfold incrementOf
  generalize rampStep c (targetSpeed c.cfg e) = c1 at hc1 hspeed hnear ⊢
  have hcfg : c1.cfg = c.cfg := by rw [hc1]
  have hper : c1.period = c.period := by rw [hc1]
  have hrem : c1.rem = c.rem := by rw [hc1]
  have hplain : untrimmed c1 ≤ 16384 := by
    have hn := nominal_le h.settings h.period_le hspeed
    have hlt := h.rem
    unfold untrimmed
    rw [hcfg, hper, hrem]
    omega
  have hbound : trimBound c1.cfg c1.period ≤ 2048 := by
    have hn := nominal_le h.settings h.period_le (le_refl 1000000)
    unfold trimBound
    rw [hcfg, hper]
    omega
  omega

theorem steppedClock_ranged (h : c.Ranged) (he : entryInRange e = true) :
    (steppedClock c e).speed ≤ 1000000 ∧ rampInRange (steppedClock c e).ramp = true ∧
      (steppedClock c e).ramp.kind = c.ramp.kind ∧ (steppedClock c e).rem < 1000000000000000 := by
  obtain ⟨hs, hr⟩ := rampStep_ranged h (targetSpeed_le he c.cfg)
  have hk := rampStep_kind c (targetSpeed c.cfg e)
  have hrem : (steppedClock c e).rem < 1000000000000000 := by
    obtain ⟨-, hrem⟩ := takeIncrement_clock (rampStep c (targetSpeed c.cfg e))
    unfold steppedClock
    rw [hrem]
    exact Nat.mod_lt _ (by decide)
  rw [steppedClock_eq c e]
  exact ⟨hs, hr, hk, hrem⟩

end

/-! ### Where an advance leaves the clock -/

/-- R47, R49: d is c advanced, in range, its pass frame risen by one at most. -/
structure Advanced (c d : Clock) : Prop where
  ranged : d.Ranged
  low : c.passFrame ≤ d.passFrame
  high : d.passFrame ≤ c.passFrame + 1

/-- R49, stages 4 and 5: E grown by less than a frame, and the crossing taken. -/
theorem crossFrame_advanced {c d : Clock} {n : Nat} (h : c.Ranged) (hcfg : d.cfg = c.cfg) (hper : d.period = c.period)
    (hpf : d.passFrame = c.passFrame) (htr : d.travel = min maxU32 (c.travel + n)) (hn : n ≤ 65536)
    (htime : d.time ≤ maxU32) (hrem : d.rem < 1000000000000000) (hs : d.speed ≤ 1000000)
    (hr : rampInRange d.ramp = true) : Advanced c (crossFrame d).1 := by
  have hle : c.travel ≤ d.travel := htr ▸ addTravel_le h.travel n
  have hmax : d.travel ≤ maxU32 := by omega
  have hfall : d.travel ≤ c.travel + 65536 := by omega
  obtain ⟨h1, -⟩ := crossFrame_grown h.passFrame hpf hle
  rw [h1]
  have hsub : subframes = 65536 := rfl
  have hplace := h.passFrame
  exact
    { ranged :=
        { settings := hcfg ▸ h.settings, period := hper ▸ h.period, time := htime, travel := hmax, passFrame := rfl
          rem := hrem, speed := hs, ramp := hr }
      low := by simp only [hplace, hsub]; omega
      high := by simp only [hplace, hsub]; omega }

section

variable {c : Clock} {e : RunEntry}

theorem insideEntry_iff (e : RunEntry) (t : Nat) : insideEntry e t = true ↔
    min e.startFrame e.endFrame * 65536 ≤ t ∧ t ≤ max e.startFrame e.endFrame * 65536 := by
  simp [insideEntry]

/-- A move time inside an entry in range lies in its field. -/
theorem insideEntry_le (he : entryInRange e = true) {t : Nat} (h : insideEntry e t = true) : t ≤ maxU32 := by
  obtain ⟨h1, h2, -⟩ := (entryInRange_iff e).mp he
  obtain ⟨-, h3⟩ := (insideEntry_iff e t).mp h
  have : maxU32 = 4294967295 := rfl
  omega

/-- R49: going on inside the entry. -/
theorem goneOn_inside {n : Nat} (hin : insideEntry e c.time = true) (hd : c.dir = entryDirection e) (hlt : n < toEntryEnd c e) :
    insideEntry e (moveTime c.dir c.time n) = true := by
  obtain ⟨h1, h2⟩ := (insideEntry_iff e c.time).mp hin
  refine (insideEntry_iff e _).mpr ?_
  have hsub : subframes = 65536 := rfl
  unfold entryDirection at hd
  split at hd
  · simp only [toEntryEnd, moveTime, hd, hsub] at hlt ⊢
    omega
  · simp only [toEntryEnd, moveTime, hd, hsub] at hlt ⊢
    omega

/-- R55: an excess of less than a frame is inside the next entry. -/
theorem carried_inside {n : Nat} (he : entryInRange e = true) (hn : n ≤ 65536) :
    insideEntry e (moveTime (entryDirection e) (e.startFrame * subframes) n) = true := by
  obtain ⟨h1, h2, -, -, hne⟩ := (entryInRange_iff e).mp he
  have hsub : subframes = 65536 := rfl
  refine (insideEntry_iff e _).mpr ?_
  unfold entryDirection
  split
  · simp only [moveTime, hsub]
    omega
  · simp only [moveTime, hsub]
    omega

theorem end_inside (e : RunEntry) : insideEntry e (e.endFrame * subframes) = true := by
  have hsub : subframes = 65536 := rfl
  refine (insideEntry_iff e _).mpr ?_
  rw [hsub]
  omega

theorem start_inside (e : RunEntry) : insideEntry e (e.startFrame * subframes) = true := by
  have hsub : subframes = 65536 := rfl
  refine (insideEntry_iff e _).mpr ?_
  rw [hsub]
  omega

theorem goneOn_advanced (h : c.Ranged) (he : entryInRange e = true) (hin : insideEntry e c.time = true)
    (hd : c.dir = entryDirection e) (hlt : incrementOf c e < toEntryEnd c e) :
    Advanced c (crossFrame (goneOnClock c e)).1 := by
  obtain ⟨hs, hr, -, hrem⟩ := steppedClock_ranged h he
  have hn := incrementOf_le h he
  have htime := insideEntry_le he (goneOn_inside hin hd hlt)
  have hgo := goneOnClock_eq c e
  exact crossFrame_advanced h (by rw [hgo]) (by rw [hgo]) (by rw [hgo]) (by rw [hgo]) (by omega) (by rw [hgo]; exact htime)
    (by rw [hgo]; exact hrem) (by rw [hgo]; exact hs) (by rw [hgo]; exact hr)

theorem carried_advanced {e' : RunEntry} (h : c.Ranged) (he : entryInRange e = true) (he' : entryInRange e' = true) :
    Advanced c (crossFrame (carriedClock c e e')).1 := by
  obtain ⟨hs, hr, -, hrem⟩ := steppedClock_ranged h he
  have hn := incrementOf_le h he
  have htime := insideEntry_le he' (carried_inside (n := incrementOf c e - toEntryEnd c e) he' (by omega))
  have hca := carriedClock_eq c e e'
  exact crossFrame_advanced h (by rw [hca]) (by rw [hca]) (by rw [hca]) (by rw [hca]) (by omega) (by rw [hca]; exact htime)
    (by rw [hca]; exact hrem) (by rw [hca]; exact hs) (by rw [hca]; exact carryRamp_inRange he' hr)

theorem landed_advanced (h : c.Ranged) (he : entryInRange e = true) (hle : toEntryEnd c e ≤ incrementOf c e) :
    Advanced c (crossFrame (landedClock c e)).1 := by
  have hn := incrementOf_le h he
  have htime := insideEntry_le he (end_inside e)
  have hla := landedClock_eq c e
  exact crossFrame_advanced h (by rw [hla]) (by rw [hla]) (by rw [hla]) (by rw [hla]) (by omega) (by rw [hla]; exact htime)
    (by rw [hla]; exact Nat.zero_lt_succ _) (by rw [hla]; exact Nat.zero_le _) (by rw [hla]; rfl)

end

/-! ### The course of an advance -/

theorem Clock.Ranged.of_bare {c : Clock} (h : c.bare.Ranged) : c.Ranged :=
  ⟨h.settings, h.period, h.time, h.travel, h.passFrame, h.rem, h.speed, h.ramp⟩

theorem Clock.Ranged.bare {c : Clock} (h : c.Ranged) : c.bare.Ranged :=
  ⟨h.settings, h.period, h.time, h.travel, h.passFrame, h.rem, h.speed, h.ramp⟩

/-- The crossing touches nothing but the pass frame. -/
theorem crossFrame_clock (c : Clock) : (crossFrame c).1 = { c with passFrame := (crossFrame c).1.passFrame } := by
  simp only [crossFrame]
  split <;> rfl

/-- An entry that a number names is in the list, and the number in its length. -/
theorem Course.entry?_some {f : Course} {n : Nat} {e : RunEntry} (h : f.entry? n = some e) :
    e ∈ f.runList ∧ 1 ≤ n ∧ n ≤ f.runList.length := by
  unfold Course.entry? at h
  split at h
  · cases h
  · next hn =>
    have hlt := (List.getElem?_eq_some_iff.mp h).1
    exact ⟨List.mem_of_getElem? h, Nat.one_le_iff_ne_zero.mpr hn, by omega⟩

namespace Course

/-- A riding course whose clock advances goes to a riding course whose clock has advanced into an entry of the list. -/
theorem advanced_follows {f : Course} {d : Clock} {n : Nat} (h : f.Riding) (hd : d.state = .advancing)
    (hk : d.ramp.kind = f.clock.ramp.kind) (hn : 1 ≤ n ∧ n ≤ f.runList.length)
    (hadv : f.ClockFits → Advanced f.clock d)
    (hin : f.ClockFits → ∀ e ∈ f.entry? n, insideEntry e d.time = true ∧ d.dir = entryDirection e) :
    f.Follows 1 { f with clock := d, entry := n } where
  fits hf := ⟨hf.checking, hf.walked, .inr (.inl ⟨h.place, .inl hd, hk.trans h.ramp, h.pass, h.ret, hn⟩)⟩
  clock _ hc := ⟨(hadv hc).ranged, fun _ => hin hc, hc.listLength, hc.list, fun r hr => by
    have : f.ret = some r := hr
    rw [h.ret] at this
    cases this⟩
  onward _ hc := ⟨fun hp => .inl ⟨hp, rfl, (hadv hc).low, (hadv hc).high⟩,
    fun ho => absurd ho.1 (Option.isSome_iff_ne_none.mp h.pass)⟩

end Course

theorem Advanced.bare {c d : Clock} (h : Advanced c d) : Advanced c.bare d.bare := ⟨h.ranged.bare, h.low, h.high⟩

section

variable {s : State} {e : RunEntry}

/-- R49: an advance inside the entry. -/
theorem goneOn_follows (hr : s.course.Riding) (ha : s.clock.state = .advancing) (he : s.currentEntry? = some e)
    (hlt : incrementOf s.clock e < toEntryEnd s.clock e) :
    s.course.Follows 1
      { s.course with clock := (crossFrame (goneOnClock s.clock e)).1.bare, entry := s.course.entry } := by
  have hx : (crossFrame (goneOnClock s.clock e)).1 = _ := crossFrame_clock _
  rw [goneOnClock_eq] at hx
  have hentry : s.course.entry? s.course.entry = some e := he
  obtain ⟨hmem, hn⟩ := Course.entry?_some hentry
  have hin : s.course.ClockFits → insideEntry e s.clock.time = true ∧ s.clock.dir = entryDirection e :=
    fun hc => hc.inside hr.pass e hentry
  refine Course.advanced_follows hr ?_ ?_ hn (fun hc => ?_) fun hc e' he' => ?_
  · rw [goneOnClock_eq, hx]
    exact ha
  · rw [goneOnClock_eq, hx]
    simp only [Clock.bare]
    rw [steppedClock_eq]
    exact rampStep_kind _ _
  · exact (goneOn_advanced hc.ranged.of_bare (hc.list e hmem) (hin hc).1 (hin hc).2 hlt).bare
  · rw [hentry] at he'
    cases he'
    rw [goneOnClock_eq, hx]
    exact ⟨goneOn_inside (hin hc).1 (hin hc).2 hlt, (hin hc).2⟩

/-- R55: an advance carried into the next entry. -/
theorem carried_follows {e' : RunEntry} (hr : s.course.Riding) (ha : s.clock.state = .advancing)
    (he : s.currentEntry? = some e) (he' : s.runEntry? (s.ctrl.entry + 1) = some e') :
    s.course.Follows 1
      { s.course with clock := (crossFrame (carriedClock s.clock e e')).1.bare, entry := s.course.entry + 1 } := by
  have hx : (crossFrame (carriedClock s.clock e e')).1 = _ := crossFrame_clock _
  rw [carriedClock_eq] at hx
  have hnext : s.course.entry? (s.course.entry + 1) = some e' := he'
  obtain ⟨hmem, -⟩ := Course.entry?_some (f := s.course) (n := s.course.entry) he
  obtain ⟨hmem', hn⟩ := Course.entry?_some hnext
  refine Course.advanced_follows hr ?_ ?_ hn (fun hc => ?_) fun hc e'' he'' => ?_
  · rw [carriedClock_eq, hx]
    exact ha
  · rw [carriedClock_eq, hx]
    simp only [Clock.bare, carryRamp_kind]
    rw [steppedClock_eq]
    exact rampStep_kind _ _
  · exact (carried_advanced hc.ranged.of_bare (hc.list e hmem) (hc.list e' hmem')).bare
  · rw [hnext] at he''
    cases he''
    have hle := incrementOf_le hc.ranged.of_bare (hc.list e hmem)
    rw [carriedClock_eq, hx]
    exact ⟨carried_inside (hc.list e' hmem') (by omega), rfl⟩

/-- The clock that has gone on to the very end frame of its entry, where a landing stops it. -/
def atEntryEnd (c : Clock) (e : RunEntry) : Clock :=
  { (crossFrame (landedClock c e)).1 with state := .advancing, speed := 0, ramp := c.ramp }

/-- R56: a landing is an advance to the end frame, and a stop there. -/
theorem landed_follows (hr : s.course.Riding) (he : s.currentEntry? = some e)
    (hle : toEntryEnd s.clock e ≤ incrementOf s.clock e) :
    s.course.Follows 1 { s.course with clock := (atEntryEnd s.clock e).bare, entry := s.course.entry } := by
  have hx : (crossFrame (landedClock s.clock e)).1 = _ := crossFrame_clock _
  rw [landedClock_eq] at hx
  have hentry : s.course.entry? s.course.entry = some e := he
  obtain ⟨hmem, hn⟩ := Course.entry?_some hentry
  refine Course.advanced_follows hr rfl rfl hn (fun hc => ?_) fun hc e' he' => ?_
  · have hadv := landed_advanced hc.ranged.of_bare (hc.list e hmem) hle
    exact (⟨hadv.ranged.move (Nat.zero_le _) hc.ranged.ramp, hadv.low, hadv.high⟩ :
      Advanced s.clock (atEntryEnd s.clock e)).bare
  · rw [hentry] at he'
    cases he'
    have hdir := (hc.inside hr.pass e hentry).2
    rw [atEntryEnd, landedClock_eq, hx]
    exact ⟨end_inside e, hdir⟩

/-- R56: the clock landed is the one at the end of its entry, at rest. -/
theorem landed_bare (c : Clock) (e : RunEntry) :
    (crossFrame (landedClock c e)).1.bare =
      { (atEntryEnd c e).bare with state := .atRest, speed := 0, ramp := .none } := by
  have hx : (crossFrame (landedClock c e)).1 = _ := crossFrame_clock _
  unfold atEntryEnd
  rw [hx, landedClock_eq]
  rfl

/-- Everything an advance can do to the course: nothing, with no hand-over; a step on a path that goes on; or a landing, from the
course of a clock that has gone on to the end frame. -/
theorem advance_course_cases (hf : s.course.Fits) :
    s.advance = (s, none) ∨ ∃ h, s.advance.2 = some h ∧
      ((h.landed = false ∧ Runs 1 s s.advance.1) ∨
        (h.landed = true ∧ ∃ f : Course, f.Riding ∧ s.course.Follows 1 f ∧
          s.advance.1.course = { f with clock := { f.clock with state := .atRest, speed := 0, ramp := .none } })) := by
  by_cases ha : s.clock.state = .advancing
  · cases he : s.currentEntry? with
    | none => exact .inl (by simp only [State.advance, ha, he])
    | some e =>
      have hr : s.course.Riding := hf.riding_of_clock (.inl ha)
      have hadv : s.advance =
          ({ s with
              clock := (advanceClock s.clock s.ctrl.entry e (s.runEntry? (s.ctrl.entry + 1))).1
              ctrl :=
                { s.ctrl with
                  entry := (advanceClock s.clock s.ctrl.entry e (s.runEntry? (s.ctrl.entry + 1))).2.entry } },
            some (advanceClock s.clock s.ctrl.entry e (s.runEntry? (s.ctrl.entry + 1))).2) := by
        simp only [State.advance, ha, he]
      rw [hadv]
      refine .inr ⟨_, rfl, ?_⟩
      obtain ⟨hlt, heq⟩ | ⟨hle, e', hnext, -, heq⟩ | ⟨hle, -, heq⟩ :=
        advanceClock_cases s.clock s.ctrl.entry e (s.runEntry? (s.ctrl.entry + 1))
      · rw [heq]
        exact .inl ⟨rfl, goneOn_follows hr ha he hlt⟩
      · rw [heq]
        exact .inl ⟨rfl, carried_follows hr ha he hnext⟩
      · rw [heq]
        have hgo := landed_follows hr he hle
        refine .inr ⟨rfl, _, ?_, hgo, ?_⟩
        · exact (hgo.fits hf).riding_of_clock (.inl rfl)
        · exact congrArg (fun d => ({ s.course with clock := d } : Course)) (landed_bare s.clock e)
  · refine .inl ?_
    unfold State.advance
    split
    · next h _ => exact absurd h ha
    · rfl

end

end Sys2Proof.Machine
end

/-! SUPPORT. How the events of the link, the check, the lines, the camera and the servo timer, and the requests that move the run, keep the
laws of the controller and of the clock. -/
section
namespace Sys2Proof.Machine

open Footing (parked riding)
open Course (Follows)

variable {n : Nat} {s t : State}

/-! ### Slots and batches -/

theorem logCrossing_runs (s : State) : Runs n s s.logCrossing := by
  unfold State.logCrossing
  split
  · exact .refl _
  · next c _ =>
    refine Follows.trans (.of_eq ?_) (evaluateEvent_runs _ _)
    have h : ∀ u : State, ({ u with log := { u.log with crossing := none } } : State).course = u.course := fun _ => rfl
    rw [State.finishClosing_course, h, State.recordFrame_course]

theorem closeBatch_runs (s : State) (p : LinkPeriod) : Runs n s (s.closeBatch p) :=
  ((Follows.of_eq ((State.fallBlanking_course _).trans (s.closeLink_course p))).trans (evaluateEvent_runs _ _)).trans
    ((Follows.of_eq (State.countInPosition_course _)).trans (logCrossing_runs _))

theorem endSlot_runs (s : State) (p : LinkPeriod) : Runs n s (s.endSlot p) := by
  have h : Runs n s (s.endAttempt p).1 := .of_eq (s.endAttempt_course p)
  simp only [State.endSlot]
  split
  · exact h.trans (.of_eq (State.grantSlot_course _ _))
  · exact h.trans (closeBatch_runs _ _)

theorem finishSlots_runs (fuel : Nat) (s : State) : Runs n s (State.finishSlots fuel s) := by
  induction fuel generalizing s with
  | zero => exact .refl _
  | succ fuel ih =>
    rw [State.finishSlots]
    split
    · exact .refl _
    · exact (endSlot_runs (n := 0) s _).before (ih _)

theorem finishPeriod_runs (s : State) : Runs n s s.finishPeriod := by
  unfold State.finishPeriod
  split
  · exact .refl _
  · exact finishSlots_runs _ s

theorem enableTimesOut_runs (s : State) (a : Axis) : Runs n s (s.enableTimesOut a) := by
  unfold State.enableTimesOut
  split
  · exact (Follows.of_eq (s.endEnabling_course a)).trans (evaluateEvent_runs _ _)
  · exact .refl _

theorem unconfigureAxis_runs (s : State) (a : Axis) : Runs n s (s.unconfigureAxis a) :=
  (enableTimesOut_runs s a).trans (.of_eq ((State.passOutConds_course _ _).trans (State.abortQueue_course _ _)))

/-! ### The run check -/

theorem afterCheck_course (s : State) (p : Purpose) (o : CheckOutcome) :
    ∃ cs, (cs = .idle ∨ cs = .preroll) ∧ (s.afterCheck p o).course = { s.course with state := cs, stopForm := none } := by
  unfold State.afterCheck
  split
  · split
    · refine ⟨.preroll, .inr rfl, ?_⟩
      rw [State.beginPreroll, State.enter_course, State.genTargetAll_course]
      rfl
    · exact ⟨.idle, .inl rfl, rfl⟩
  · exact ⟨.idle, .inl rfl, rfl⟩
  · exact ⟨.idle, .inl rfl, rfl⟩

theorem completeCheck_runs (h : s.ctrl.state = .checking) (p : CheckProgress) : Runs n s (s.completeCheck p) := by
  obtain ⟨cs, hcs, hf⟩ := afterCheck_course (s.recordCheck (s.completedCheck p)) p.purpose (s.completedCheck p).outcome
  rw [State.recordCheck_course] at hf
  refine leaveCheck_runs (w := true) hf (fun _ => rfl) h ?_ ?_ <;> rcases hcs with rfl | rfl <;> first | rfl | decide

/-! ### GO, HOLD, STOP -/

theorem passStart_runs (s : State) : Runs n s s.passStart := by
  unfold State.passStart
  simp only
  refine Follows.trans (.of_eq ?_) (evaluateEvent_runs _ _)
  rw [State.startCapture_course, State.fireCues_course, State.recordFrame_course]

/-- R48: the clock as a pass starts. -/
theorem startPassClock_bare (c : Clock) (e : RunEntry) :
    (startPassClock c e).bare =
      { c.bare with
        time := e.startFrame * subframes, dir := entryDirection e, travel := 0, passFrame := 0, rem := 0, ramp := .none
        state := (startPassClock c e).state, speed := (startPassClock c e).speed } := by
  simp only [startPassClock]
  split <;> rfl

/-- R48, R59: a clock that starts a pass advances at the entry's speed, or waits for the camera. -/
theorem startPassClock_start (c : Clock) (e : RunEntry) :
    (c.cfg.sync ≠ .follower ∧ (startPassClock c e).state = .advancing ∧
      (startPassClock c e).speed = targetSpeed c.cfg e) ∨
    (c.cfg.sync = .follower ∧ (startPassClock c e).state = .waiting ∧ (startPassClock c e).speed = 0) := by
  simp only [startPassClock]
  split
  · next h => exact .inl ⟨by simp [h], rfl, rfl⟩
  · next h => exact .inl ⟨by simp [h], rfl, rfl⟩
  · next h => exact .inr ⟨h, rfl, rfl⟩

/-- R74: a pass begins where the way to it leads through ARMED. -/
theorem startPass_runs (h : s.ctrl.state = .armed) {e : RunEntry} (he : s.runEntry? 1 = some e) : Runs n s (s.startPass e) := by
  simp only [State.startPass]
  generalize hs1 : State.beginPass _ _ = s1
  have hf1 : s1.course =
      { s.course with entry := 1, pass := some s.purposeKind, counter := nextNumber s.course.counter } := by
    rw [← hs1, State.beginPass_course]
    rfl
  have hcfg : s1.clock.cfg = s.clock.cfg := congrArg (fun f : Course => f.clock.cfg) hf1
  have hbare : s1.clock.bare = s.clock.bare := congrArg Course.clock hf1
  obtain ⟨hmem, -, hlen⟩ := Course.entry?_some (f := s.course) he
  have hf : ({ s1 with clock := startPassClock s1.clock e }.enter .running).course =
      { s.course with
        entry := 1, pass := some s.purposeKind, counter := nextNumber s.course.counter, state := .running, stopForm := none
        clock := (startPassClock s1.clock e).bare } := by
    have hc : ∀ c : Clock, ({ s1 with clock := c }.enter .running).course =
        { s1.course with state := .running, stopForm := none, clock := c.bare } := fun _ => rfl
    rw [hc, hf1]
  have first : Runs n s ({ s1 with clock := startPassClock s1.clock e }.enter .running) := by
    refine .of fun hfit => .of_course hf ?_
    have hpark := hfit.parked_of_state (.inr (.inr (.inr (.inl h))))
    rw [startPassClock_bare, hbare]
    refine ⟨fun _ => ⟨?_, hfit.walked, .inr (.inl ⟨rfl, ?_, rfl, rfl, hpark.ret, le_rfl, hlen⟩)⟩, fun _ hc => ?_, fun _ _ => ?_⟩
    · exact hfit.not_checking (by simp [State.course, h])
    · obtain ⟨-, hst, -⟩ | ⟨hsync, hst, hsp⟩ := startPassClock_start s1.clock e
      · exact .inl hst
      · exact .inr ⟨hst, rfl, hcfg ▸ hsync, hsp⟩
    · have he' := hc.list e hmem
      have hspeed : (startPassClock s1.clock e).speed ≤ 1000000 := by
        obtain ⟨-, -, hsp⟩ | ⟨-, -, hsp⟩ := startPassClock_start s1.clock e <;> rw [hsp]
        · exact targetSpeed_le he' _
        · exact Nat.zero_le _
      refine ⟨⟨hc.ranged.settings, hc.ranged.period, insideEntry_le he' (start_inside e), Nat.zero_le _,
        (Nat.zero_div _).symm, Nat.zero_lt_succ _, hspeed, rfl⟩, fun _ e' hx => ?_, hc.listLength, hc.list, fun r hr => ?_⟩
      · have : some e' = some e := hx.symm.trans he
        cases this
        exact ⟨start_inside e, rfl⟩
      · have : s.course.ret = some r := hr
        rw [hpark.ret] at this
        cases this
    · refine ⟨fun hp => ?_, fun ⟨_, ho⟩ => ?_⟩
      · exact absurd hpark.pass (Option.isSome_iff_ne_none.mp hp)
      · simp [farFromPass, State.course, h] at ho
  split
  · exact first
  · exact first.trans (passStart_runs _)

/-- R52, R77: a pass that stands in HELD, or that holds, is taken up again. -/
theorem resumePass_runs (hpass : s.course.pass.isSome = true) (hret : s.course.ret = none) (hs : s.ctrl.state ≠ .checking)
    {e : RunEntry} (he : s.currentEntry? = some e) : Runs n s (s.resumePass e) := by
  obtain ⟨hmem, -⟩ := Course.entry?_some (f := s.course) (n := s.course.entry) he
  exact Course.ride_follows (f := s.course) (cs := .running) (form := none) (st := .advancing) (v := s.course.clock.speed)
    (ramp := .up (targetSpeed s.clock.cfg e) (ceilDiv (targetSpeed s.clock.cfg e) s.clock.cfg.resumeRamp)) hpass hret hs
    rfl (.inl rfl) rfl id fun hc => decide_eq_true (targetSpeed_le (hc.list e hmem) _)

/-- R56: the clock as the next entry starts. -/
theorem startEntryClock_bare (c : Clock) (e : RunEntry) :
    (startEntryClock c e).bare =
      { c.bare with
        time := e.startFrame * subframes, dir := entryDirection e, rem := 0, speed := 0
        state := (startEntryClock c e).state, ramp := (startEntryClock c e).ramp } := by
  simp only [startEntryClock]
  split <;> rfl

/-- R56, R59: a clock that starts an entry takes an up ramp to the entry's speed, or waits for the camera. -/
theorem startEntryClock_start (c : Clock) (e : RunEntry) :
    (c.cfg.sync ≠ .follower ∧ (startEntryClock c e).state = .advancing ∧
      (startEntryClock c e).ramp = .up (targetSpeed c.cfg e) (ceilDiv (targetSpeed c.cfg e) c.cfg.resumeRamp)) ∨
    (c.cfg.sync = .follower ∧ (startEntryClock c e).state = .waiting ∧ (startEntryClock c e).ramp = .none) := by
  simp only [startEntryClock]
  split
  · next h => exact .inr ⟨h, rfl, rfl⟩
  · next h => exact .inl ⟨h, rfl, rfl⟩

/-- R56, R77: a pass that has landed goes on in the next entry. -/
theorem nextEntry_runs (hpass : s.course.pass.isSome = true) (hret : s.course.ret = none) (hs : s.ctrl.state ≠ .checking)
    {e : RunEntry} (he : s.runEntry? (s.ctrl.entry + 1) = some e) : Runs n s (s.nextEntry e) := by
  have hentry : s.course.entry? (s.course.entry + 1) = some e := he
  obtain ⟨hmem, hn⟩ := Course.entry?_some hentry
  have hf : (s.nextEntry e).course =
      { s.course with
        state := .running, stopForm := none, entry := s.course.entry + 1, clock := (startEntryClock s.clock e).bare } := rfl
  refine .of_course hf ?_
  rw [startEntryClock_bare]
  refine Course.pass_follows hpass rfl rfl rfl (fun hfit => ?_) fun _ hc => ?_
  · refine ⟨hfit.not_checking hs, hfit.walked, .inr (.inl ⟨rfl, ?_, ?_, hpass, hret, hn⟩)⟩
    · obtain ⟨-, hst, -⟩ | ⟨hsync, hst, -⟩ := startEntryClock_start s.clock e
      · exact .inl hst
      · exact .inr ⟨hst, rfl, hsync, rfl⟩
    · obtain ⟨-, -, hr⟩ | ⟨-, -, hr⟩ := startEntryClock_start s.clock e <;> simp only [hr] <;> rfl
  · have he' := hc.list e hmem
    have hramp : rampInRange (startEntryClock s.clock e).ramp = true := by
      obtain ⟨-, -, hr⟩ | ⟨-, -, hr⟩ := startEntryClock_start s.clock e <;> rw [hr]
      · exact decide_eq_true (targetSpeed_le he' _)
      · rfl
    refine ⟨⟨hc.ranged.settings, hc.ranged.period, insideEntry_le he' (start_inside e), hc.ranged.travel,
      hc.ranged.passFrame, Nat.zero_lt_succ _, Nat.zero_le _, hramp⟩, fun _ e' hx => ?_, hc.listLength, hc.list,
      fun r hr => ?_⟩
    · have : some e' = some e := hx.symm.trans hentry
      cases this
      exact ⟨start_inside e, rfl⟩
    · have : s.course.ret = some r := hr
      rw [hret] at this
      cases this

theorem takeGo_runs {ok : State → State} (hok : (ok s).course = s.course) (h : s.takeGo ok = some t) : Runs n s t := by
  have hf : (ok s).clearSkipped.course = s.course := hok
  have hentry : ∀ k, (ok s).clearSkipped.runEntry? k = s.runEntry? k := fun k =>
    congrArg (fun f : Course => f.entry? k) hf
  have hcur : (ok s).clearSkipped.currentEntry? = s.currentEntry? :=
    congrArg (fun f : Course => f.entry? f.entry) hf
  have hstate : (ok s).clearSkipped.ctrl.state = s.ctrl.state := State.state_of_course hf
  have start : Runs n s (ok s).clearSkipped := .of_eq hf
  refine .of fun hfit => ?_
  unfold State.takeGo at h
  split at h
  · next hst =>
    obtain ⟨e, he, rfl⟩ := Option.map_eq_some_iff.mp h
    exact start.trans (startPass_runs (hstate.trans hst) ((hentry 1).trans he))
  · next hst =>
    obtain ⟨e, he, rfl⟩ := Option.map_eq_some_iff.mp h
    have hr := hfit.riding_of_state (.inr hst)
    exact start.trans (resumePass_runs (by rw [hf]; exact hr.pass) (by rw [hf]; exact hr.ret)
      (by rw [hstate, hst]; decide) (hcur.trans he))
  · next hst =>
    have hs := hfit.standing_of_state (.inl hst)
    split at h
    · cases h
    · next hret =>
      have hpass : (ok s).clearSkipped.course.pass.isSome = true := by rw [hf]; exact hs.pass
      have hnone : (ok s).clearSkipped.course.ret = none := by rw [hf]; exact Option.not_isSome_iff_eq_none.mp hret
      have hchk : (ok s).clearSkipped.ctrl.state ≠ .checking := by rw [hstate, hst]; decide
      split at h
      · obtain ⟨e, he, rfl⟩ := Option.map_eq_some_iff.mp h
        have hent : (ok s).clearSkipped.ctrl.entry = s.ctrl.entry := congrArg Course.entry hf
        exact start.trans (nextEntry_runs hpass hnone hchk (by rw [hent]; exact (hentry _).trans he))
      · obtain ⟨e, he, rfl⟩ := Option.map_eq_some_iff.mp h
        exact start.trans (resumePass_runs hpass hnone hchk (hcur.trans he))
  · cases h

/-- R51, R53: the clock of a stop ramp. -/
theorem startStopRamp_clock (c : Clock) : ∃ d, startStopRamp c = { releaseLock c with ramp := .down .stop d } := by
  unfold startStopRamp
  split
  · exact ⟨_, rfl⟩
  · exact ⟨_, rfl⟩

theorem stopOnPath_runs (h : s.course.Riding) (ha : s.course.clock.state = .advancing) : Runs n s s.stopOnPath := by
  obtain ⟨d, hd⟩ := startStopRamp_clock s.clock
  refine rideIfStill_runs (cs := .stopping) (form := some .path) (ramp := .down .stop d) h ha ?_ rfl rfl rfl
  rw [hd]
  rfl

theorem takeStop_runs (s : State) : Runs n s s.takeStop := by
  unfold State.takeStop
  split
  · exact .refl _
  · exact .refl _
  · exact .refl _
  · exact .refl _
  · next h =>
    refine leaveCheck_runs (cs := .idle) (form := none) (w := true) ?_ (fun _ => rfl) h rfl (by decide)
    rw [State.enter_course, State.discardArm_course, State.cancelCheck_course]
  · next h =>
    refine park_runs (cs := .stopping) (form := some .generator) ?_ (by simp [h])
      (fun hf => hf.parked_of_state (.inr (.inr (.inl h)))) rfl (by decide) fun _ => rfl
    rw [State.enterStop_course, State.genRestAll_course]
    rfl
  · next h => exact abandonArm_runs h
  · next h =>
    split
    · next ha => exact .of fun hf => stopOnPath_runs (hf.riding_of_state (.inl h)) ha
    · exact withCtrl_endPass_report_runs (by simp [h]) rfl rfl _
  · next h =>
    refine .of fun hf => ?_
    have hr := hf.riding_of_state (.inr h)
    exact stopOnPath_runs hr (hr.advancing (by simp [State.course, h]))
  · next h => exact withCtrl_endPass_report_runs (by simp [h]) rfl rfl _
  · next h =>
    exact (withCtrl_endPass_runs (s := s) (s1 := { s with ctrl := { s.ctrl with inPos := 0 } }) rfl (by simp [h]) rfl rfl _).trans
      (.of_eq ((State.reportState_course _).trans (State.genRestAll_course _)))
  · next h =>
    exact (withCtrl_endPass_runs (s := s) (s1 := { s with ctrl := { s.ctrl with inPos := 0 } }) rfl (by simp [h]) rfl rfl _).trans
      (.of_eq ((State.reportState_course _).trans (State.genRestAll_course _)))

theorem startHold_runs (h : s.course.Riding) (ha : s.course.clock.state = .advancing) : Runs n s s.startHold :=
  rideIfStill_runs (cs := .holding) (form := none) (ramp := .down .hold (rampDecrement s.clock.speed s.clock.cfg.holdRamp))
    h ha rfl rfl rfl rfl

theorem takeHold_runs {ok : Status → State → State} (hok : ∀ st, (ok st s).course = s.course)
    (h : s.takeHold ok = some t) : Runs n s t := by
  have start : ∀ st, Runs n s (ok st s) := fun st => .of_eq (hok st)
  unfold State.takeHold at h
  split at h
  · next hst =>
    split at h
    · cases h
      exact (start _).trans (takeStop_runs _)
    · next hsync =>
      cases h
      refine (start .ok).trans (.of fun hf => ?_)
      have hr : (ok .ok s).course.Riding := hf.riding_of_state (.inl ((State.state_of_course (hok _)).trans hst))
      refine startHold_runs hr ?_
      obtain ha | ⟨-, -, hw, -⟩ := hr.clock
      · exact ha
      · rw [hok] at hw
        exact absurd hw hsync
  · cases h
    exact start _
  · cases h

/-! ### Jogging and returning -/

theorem recordInRange_iff (r : ReturnRec) : recordInRange r = true ↔
    r.time ≤ maxU32 ∧ r.travel ≤ maxU32 ∧ r.passFrame ≤ 65535 ∧ r.rem < 1000000000000000 ∧ r.speed ≤ 1000000 := by
  simp [recordInRange, and_assoc]

/-- R82, R167: JOGGING is entered from a state that takes a jog. -/
theorem enterJogging_runs (h : s.jogAllowed = true) : Runs n s s.enterJogging := by
  unfold State.enterJogging
  split
  · exact .refl _
  · next hst =>
    refine .of fun hf => .of_course (g := { s.course with
      state := .jogging, stopForm := none, ret := some (s.ctrl.ret.getD s.returnRecord)
      clock := { s.course.clock with state := .stopped, speed := 0, ramp := .none } }) ?_ ?_
    · have hup := s.takeUpAll_course
      generalize s.takeUpAll = s1 at hup
      have hret : s1.ctrl.ret = s.ctrl.ret := State.ret_of_course hup
      rw [← hup, ← hret]
      rfl
    · refine Course.stand_follows (hf.standing_of_state (.inl hst)).pass (by simp [State.course, hst]) rfl rfl (fun _ => rfl)
        (fun _ r hr => ?_) (fun _ => Nat.zero_le _) fun _ => rfl
      cases hr
      cases hret : s.ctrl.ret with
      | some r => exact .inl hret
      | none =>
        refine .inr ⟨rfl, fun hc => ⟨?_, rfl, rfl, rfl, rfl, rfl⟩⟩
        have hpf := hc.ranged.passFrame
        have htr := hc.ranged.travel
        have hsub : subframes = 65536 := rfl
        have hmax : maxU32 = 4294967295 := rfl
        rw [hsub] at hpf
        have hle : s.course.clock.passFrame ≤ 65535 := by omega
        exact (recordInRange_iff _).mpr ⟨hc.ranged.time, htr, hle, hc.ranged.rem, hc.ranged.speed⟩
  · next h1 h2 =>
    have hst : s.ctrl.state = .idle := by
      unfold State.jogAllowed at h
      split at h
      · next hst => exact hst
      · next hst => exact absurd hst h1
      · next hst => exact absurd hst h2
      · cases h
    exact park_runs (cs := .jogging) (form := none) rfl (by simp [hst]) (fun hf => hf.parked_of_state (.inl hst)) rfl
      (by decide) fun _ => rfl

theorem beginReturn_runs {r : ReturnRec} (h : s.returnAllowed = some r) : Runs n s (s.beginReturn r) := by
  unfold State.returnAllowed at h
  split at h
  · next hst =>
    simp only [Bool.or_eq_true, decide_eq_true_eq] at hst
    have hret : s.course.ret.isSome = true := Option.isSome_iff_exists.mpr ⟨r, h⟩
    refine .of fun hf => .of_course (g := { s.course with
      state := .returning, stopForm := none, ret := s.course.ret
      clock := { s.course.clock with state := .stopped, speed := 0, ramp := .none } }) ?_ ?_
    · rw [State.beginReturn, State.enter_course, State.genTargetAll_course]
      rfl
    · have hs := hf.standing_of_ret hret
      exact Course.stand_follows hs.pass hs.not_checking rfl rfl (fun _ => hret) (fun _ _ hr => .inl hr)
        (fun _ => Nat.zero_le _) fun _ => rfl
  · cases h

theorem prerollArrives_runs (h : s.ctrl.state = .preroll) : Runs n s s.prerollArrives := by
  refine park_runs (cs := .armed) (form := none) ?_ (by simp [h]) (fun hf => hf.parked_of_state (.inr (.inr (.inl h)))) rfl
    (by decide) fun ho => ?_
  · rw [State.prerollArrives, State.enter_course, State.genReleaseAll_course]
    rfl
  · simp [farFromPass, h] at ho

/-- R82, R84: the pass comes to stand in HELD at the recorded place. -/
theorem restore_runs {ret : Option ReturnRec} {r : ReturnRec} (hret : s.ctrl.ret = some r) (hsub : ∀ x ∈ ret, x = r)
    (hf : t.course =
      { s.course with
        state := .held, stopForm := none, ret := ret, entry := r.entry, clock := restoreClock s.course.clock r }) :
    Runs n s t := by
  refine .of fun hfit => .of_course hf ?_
  have hs := hfit.standing_of_ret (Option.isSome_iff_exists.mpr ⟨r, hret⟩)
  have hrec := hs.recorded r hret
  refine ⟨fun _ => ⟨hfit.not_checking hs.not_checking, hfit.walked, .inr (.inr ⟨rfl, rfl, rfl, hs.pass, fun hne => absurd rfl hne,
    hrec, fun x hx => hsub x hx ▸ hrec⟩)⟩, fun _ hc => ?_, fun _ hc => ?_⟩
  · obtain ⟨hin, h1, h2, h3, h4, h5⟩ := hc.record r hret
    obtain ⟨-, htr, -, hrem, hsp⟩ := (recordInRange_iff r).mp hin
    refine ⟨⟨hc.ranged.settings, hc.ranged.period, h1.ge.trans hc.ranged.time, htr, ?_, hrem, hsp, rfl⟩, fun hp e he => ?_,
      hc.listLength, hc.list, fun x hx => ?_⟩
    · have := hc.ranged.passFrame
      rw [h3, h4] at this
      exact this
    · have := hc.inside hs.pass e (by rw [h5]; exact he)
      rw [h1, h2] at this
      exact this
    · rw [hsub x hx]
      exact ⟨hin, rfl, rfl, rfl, rfl, rfl⟩
  · obtain ⟨-, -, -, -, h4, -⟩ := hc.record r hret
    refine ⟨fun hp => .inl ⟨hp, rfl, h4.le, ?_⟩, fun ho => absurd ho.1 (Option.isSome_iff_ne_none.mp hs.pass)⟩
    rw [h4]
    exact Nat.le_add_right ..

theorem returnArrives_runs {r : ReturnRec} (hret : s.ctrl.ret = some r) : Runs n s (s.returnArrives r) := by
  refine restore_runs (ret := none) hret (by simp) ?_
  simp only [State.returnArrives, State.enter_course, State.genReleaseAll_course]
  rfl

theorem takeArrival_runs (s : State) : Runs n s s.takeArrival := by
  unfold State.takeArrival
  split
  · split
    · next _ h => exact prerollArrives_runs h
    · next r _ hret => exact returnArrives_runs hret
    · exact .refl _
  · exact .refl _

end Sys2Proof.Machine
end

/-! SUPPORT. How the lines, the camera and the servo timer keep the laws of the controller and of the clock. -/
section
namespace Sys2Proof.Machine

open Course (Follows)

variable {n : Nat} {s t : State}

/-! ### Lines and the camera -/

theorem handEdge_runs (s : State) (l : Line) (active : Bool) : Runs n s (s.handEdge l active) := by
  unfold State.handEdge
  split
  · cases active with
    | true => exact (turnOff_runs s allAxes).trans (evaluateEvent_runs _ _)
    | false => exact evaluateEvent_runs s _
  · split
    · cases active with
      | true =>
        cases h : s.takeGo id with
        | none => simpa [h] using Follows.refl s.course
        | some t => simpa [h] using takeGo_runs rfl h
      | false => exact .refl _
    · split
      · cases active with
        | true =>
          cases h : s.takeHold fun _ t => t with
          | none => simpa [h] using Follows.refl s.course
          | some t => simpa [h] using takeHold_runs (fun _ => rfl) h
        | false => exact .refl _
      · exact .refl _

theorem takeEdge_runs (s : State) (l : Line) : Runs n s (s.takeEdge l) := by
  unfold State.takeEdge
  split
  · exact .refl _
  · next f _ => exact handEdge_runs (n := n) { s with lines := putFilter s.lines l (flipFilter f) } l _

theorem endLoss_course (s : State) : s.endLoss.course = s.course := by
  unfold State.endLoss
  split
  · rw [evaluateEvent_false s _ rfl, State.settleFaults_course]
    rfl
  · rfl

/-- R59: the first pulse starts a clock that waits. -/
theorem startAtPulse_runs (h : s.clock.state = .waiting) : Runs n s s.startAtPulse := by
  have first : Runs n s { s with clock := startFollower s.clock } := by
    refine .of fun hf => ?_
    have hr := hf.riding_of_clock (.inr h)
    obtain ha | ⟨-, hrun, -⟩ := hr.clock
    · rw [show s.course.clock.state = .waiting from h] at ha
      cases ha
    · exact Course.ride_follows (cs := s.course.state) (form := s.course.stopForm) (st := .advancing) (v := 1000000)
        (ramp := .none) hr.pass hr.ret hr.not_checking hr.place (.inl rfl) (by rw [hrun]; rfl) (fun _ => le_rfl) fun _ => rfl
  simp only [State.startAtPulse]
  split
  · exact first.trans (passStart_runs _)
  · exact first

theorem takePulse_runs (s : State) : Runs n s s.takePulse := by
  unfold State.takePulse
  split
  · next _ _ h =>
    have hw : s.endLoss.clock.state = .waiting := (State.clock_of_course (endLoss_course s)).trans h
    exact (Follows.of_eq (endLoss_course s)).trans (startAtPulse_runs hw)
  · next l _ _ => exact evaluateEvent_runs (n := n) { s with clock := pulseLock s.clock l } _
  · exact .refl _
  · exact .of_eq (endLoss_course s)
  · exact .refl _

theorem cameraRise_runs (s : State) : Runs n s s.cameraRise := by
  simp only [State.cameraRise]
  split
  · exact takePulse_runs (n := n)
      { s.seePins (s.lines.pins ||| 1#12) with
        lines := { (s.seePins (s.lines.pins ||| 1#12)).lines with edgeArmed := false } }
  · exact .refl _

theorem cameraLost_runs (s : State) : Runs n s s.cameraLost :=
  evaluateEvent_runs (n := n) { s with clock := loseCamera s.clock } _

theorem takeRampEnd_runs (s : State) : Runs n s s.takeRampEnd := by
  unfold State.takeRampEnd
  split
  · next h =>
    simp only [State.rampDue, Bool.and_eq_true, decide_eq_true_eq] at h
    obtain ⟨⟨hadv, -⟩, -⟩ := h
    exact .of fun hf => takeAtRest_runs (hf.riding_of_clock (.inl hadv))
  · exact .refl _

theorem takeDue_runs (s : State) : Runs n s s.takeDue := by
  have h1 : Runs n s (allLines.foldl State.takeClear s.takeTriggerEnd) :=
    .of_eq ((foldl_course State.takeClear_course _ _).trans s.takeTriggerEnd_course)
  have h2 := (h1.trans (foldl_runs takeEdge_runs [1, 2, 3] _)).trans (takeRampEnd_runs _)
  exact (h2.trans (foldl_runs enableTimesOut_runs allAxes _)).trans (takeArrival_runs _)

/-! ### One expiry of the servo timer -/

theorem takeCheckOverdue_runs (s : State) : Runs n s s.takeCheckOverdue := by
  unfold State.takeCheckOverdue
  split
  · next p _ =>
    split
    · next h =>
      simp only [Bool.and_eq_true, decide_eq_true_eq] at h
      exact completeCheck_runs h.1 p
    · exact .refl _
  · exact .refl _

theorem takeOverdue_runs (s : State) : Runs n s s.takeOverdue := by
  have h1 : Runs n s (if overdue s.clock.period s.clock.lostTimer = true then s.cameraLost else s) := by
    split
    · exact cameraLost_runs s
    · exact .refl _
  exact (h1.trans (takeCheckOverdue_runs _)).trans (.of_eq (foldl_course State.takeRefreshOverdue_course _ _))

theorem finishBefore_runs (s : State) : Runs n s s.finishBefore :=
  (((takeDue_runs s).trans (finishPeriod_runs _)).trans (takeDue_runs _)).trans (takeOverdue_runs _)

theorem periodOf_inRange {cfg : ClockSettings} (h : settingsInRange cfg = true) :
    periodOf cfg.servoRate = 1000 ∨ periodOf cfg.servoRate = 500 ∨ periodOf cfg.servoRate = 250 := by
  obtain ⟨-, hr, -⟩ := (settingsInRange_iff cfg).mp h
  obtain hr | hr | hr := hr <;> rw [hr] <;> decide

/-- R44, R45: the settings and the period in force stand apart from the controller's law, where no clock waits. -/
theorem Course.Fits.of_settings {f : Course} (h : f.Fits) (cfg : ClockSettings) (period : Nat)
    (hw : f.clock.state = .waiting → cfg.sync = f.clock.cfg.sync) :
    ({ f with clock := { f.clock with cfg, period } } : Course).Fits := by
  refine ⟨h.checking, h.walked, ?_⟩
  obtain ⟨h1, h2, h3, h4, h5⟩ | ⟨h1, h2, h3, h4, h5, h6⟩ | ⟨h1, h2, h3, h4, h5, h6, h7⟩ := h.mode
  · exact .inl ⟨h1, h2, h3, h4, h5⟩
  · refine .inr (.inl ⟨h1, h2.imp id fun ⟨ha, hb, hc, hd⟩ => ⟨ha, hb, (hw ha).trans hc, hd⟩, h3, h4, h5, h6⟩)
  · exact .inr (.inr ⟨h1, h2, h3, h4, h5, h6, h7⟩)

/-- R44, R45: new settings in their ranges, and a new period, keep the clock's law. -/
theorem Course.ClockFits.of_settings {f : Course} (h : f.ClockFits) {cfg : ClockSettings} {period : Nat}
    (hc : settingsInRange cfg = true) (hp : period = 1000 ∨ period = 500 ∨ period = 250) :
    ({ f with clock := { f.clock with cfg, period } } : Course).ClockFits :=
  ⟨{ h.ranged with settings := hc, period := hp }, h.inside, h.listLength, h.list, h.record⟩

theorem takePeriod_runs (s : State) : Runs n s s.takePeriod := by
  unfold State.takePeriod
  simp only
  split
  · exact .refl _
  · refine .of_course (g := { s.course with
      clock := { s.course.clock with cfg := s.course.clock.cfg, period := periodOf s.clock.cfg.servoRate } }) rfl ?_
    exact ⟨fun hf => hf.of_settings _ _ fun _ => rfl,
      fun _ hc => hc.of_settings hc.ranged.settings (periodOf_inRange hc.ranged.settings), fun _ _ => .refl s.course⟩

theorem estopAtExpiry_runs (s : State) : Runs n s s.estopAtExpiry := by
  unfold State.estopAtExpiry
  split
  · exact .refl _
  · exact evaluateEvent_runs _ _

theorem tick_runs (s : State) (pins : BitVec 12) : Runs n s (s.tick pins) := by
  have h1 : Runs n s s.fallTimers := .of_course s.fallTimers_course Course.walked_follows
  have h2 := h1.trans (takePeriod_runs _)
  exact (h2.trans (.of_eq ((State.samplePins_course _ pins).trans (State.countPeriod_course _)))).trans
    (estopAtExpiry_runs _)

/-! ### "All at rest" -/

theorem settleJogging_runs (h : s.ctrl.state = .jogging) : Runs n s s.settleJogging := by
  unfold State.settleJogging
  split
  · next hret =>
    refine park_runs (cs := .idle) (form := none) ?_ (by simp [h]) (fun hf => hf.parked_of_jogging h hret) rfl (by decide)
      fun _ => rfl
    rw [State.enter_course, State.genReleaseAll_course]
  · next r hret =>
    refine restore_runs (ret := s.ctrl.ret) hret (fun x hx => Option.some.inj (hx.symm.trans hret)) ?_
    rw [State.enter_course, State.genReleaseAll_course]
    rfl

theorem takeAllAtRest_runs (s : State) : Runs n s s.takeAllAtRest := by
  unfold State.takeAllAtRest
  split
  · next _ h => exact settleJogging_runs h
  · next h1 h2 =>
    refine park_runs (cs := .idle) (form := none) ?_ (by simp [h1]) (fun hf => hf.parked_of_generator h2) rfl (by decide)
      fun _ => rfl
    rw [State.enter_course, State.genReleaseAll_course]
  · next h1 h2 =>
    refine park_runs (cs := .faulted) (form := none) ?_ (by simp [h1]) (fun hf => hf.parked_of_generator h2) rfl
      (by decide) fun _ => rfl
    rw [State.enter_course, State.genReleaseAll_course]
  · exact .refl _

theorem afterSteps_runs (s : State) : Runs n s s.afterSteps := by
  unfold State.afterSteps
  split
  · exact (takeAllAtRest_runs s).trans (.of_eq (State.settleFaults_course _ _))
  · exact .of_eq (State.settleFaults_course _ _)

/-- R49, stage 6: what a hand-over brings leaves the course as it stands, but for a landing. -/
theorem takeHandOver_course (s : State) (h : HandOver) :
    ∃ u : State, u.course = s.course ∧ s.takeHandOver h = if h.landed then u.takeLanding else u := by
  unfold State.takeHandOver
  cases h.crossing with
  | none => exact ⟨s, rfl, rfl⟩
  | some n => exact ⟨s.takeCrossing n, s.takeCrossing_course n, rfl⟩

/-- R49, R67: the pass frame rises by one at most in a period, for the clock advances once. -/
theorem runPeriod_runs (s : State) : Runs 1 s s.runPeriod := by
  refine .of fun hf => ?_
  simp only [State.runPeriod]
  refine Follows.trans ?_ (afterSteps_runs _)
  obtain hadv | ⟨h, hh, hgo⟩ := advance_course_cases hf
  · rw [hadv]
    exact .of_eq ((State.formSetpoints_course _ _).trans (State.stepGen_course s))
  · rw [hh]
    simp only
    generalize hs2 : State.formSetpoints _ _ = s2
    have hf2 : s2.course = s.advance.1.course := by
      rw [← hs2, State.formSetpoints_course, State.stepGen_course]
    obtain ⟨u, hu, heq⟩ := takeHandOver_course s2 h
    rw [heq]
    obtain ⟨hland, hrun⟩ | ⟨hland, f, hr, hfol, hcourse⟩ := hgo
    · rw [hland]
      exact .of_course (hu.trans hf2) hrun
    · rw [hland]
      exact hfol.trans (takeLanding_follows hr ((hu.trans hf2).trans hcourse))

theorem servoPeriod_runs (s : State) (pins : BitVec 12) : Runs 1 s (s.servoPeriod pins) :=
  (((finishBefore_runs s).trans (tick_runs _ pins)).before (runPeriod_runs _)).trans (.of_eq (State.startPeriod_course _))

end Sys2Proof.Machine
end

/-! SUPPORT. The accepted requests and the resets, by what they leave of the course; every command keeps the laws of the controller and of
the clock. -/
section
namespace Sys2Proof.Machine

open Footing (parked)
open Course (Follows)

variable {n : Nat} {s t : State} {kind tag : Byte} {body : List Byte}

/-! ### What an accepted request leaves -/

/-- Whatever state a request's tests let through has the property. -/
def Grants (P : State → Prop) (r : Tested State) : Prop := ∀ t, r = .ok t → P t

theorem Grants.pure {P : State → Prop} (h : P t) : Grants P (.ok t) := by
  rintro u ⟨⟩
  exact h

theorem Grants.need {α : Type} {P : State → Prop} {st : Status} {o : Option α} {f : α → Tested State}
    (h : ∀ x, o = some x → Grants P (f x)) : Grants P (need st o >>= f) := fun t ht => by
  obtain ⟨x, hx, hf⟩ := need_bind_ok.mp ht
  exact h x hx t hf

theorem Grants.ensure {P : State → Prop} {st : Status} {b : Bool} {f : Unit → Tested State}
    (h : b = true → Grants P (f ())) : Grants P (ensure st b >>= f) := fun t ht => by
  obtain ⟨hb, hf⟩ := ensure_bind_ok.mp ht
  exact h hb t hf

theorem Grants.after {P : State → Prop} {x : Tested Unit} {f : Unit → Tested State} (h : Grants P (f ())) :
    Grants P (x >>= f) := fun t ht => h t (passed_bind_ok.mp ht).2

theorem Grants.mono {P Q : State → Prop} {r : Tested State} (h : Grants P r) (hpq : ∀ t, P t → Q t) : Grants Q r :=
  fun t ht => hpq t (h t ht)

/-- A state with the course of s. -/
def SameCourse (s t : State) : Prop := t.course = s.course

/-! ### Requests that leave the course -/

theorem moveCreate_course : Grants (SameCourse s) (moveCreate tag body s) :=
  .need fun _ _ => .need fun _ _ => .ensure fun _ => .ensure fun _ => .pure rfl

theorem moveDelete_course : Grants (SameCourse s) (moveDelete tag body s) :=
  .need fun _ _ => .need fun _ _ => .need fun _ _ => .ensure fun _ => .pure rfl

theorem moveList_course : Grants (SameCourse s) (moveList tag body s) := .need fun _ _ => .pure rfl

theorem trackRead_course : Grants (SameCourse s) (trackRead tag body s) :=
  .need fun _ _ => .need fun _ _ => .need fun _ _ => .ensure fun _ => .need fun _ _ => .need fun _ _ => .ensure fun _ =>
    .pure rfl

theorem ReplacesTrack.course (h : ReplacesTrack kind tag s t) : SameCourse s t := by
  obtain ⟨m, mv, a, ks, fields, -, rfl⟩ := h
  rfl

theorem axisGet_course : Grants (SameCourse s) (axisGet tag body s) := .need fun _ _ => .need fun _ _ => .pure rfl

theorem mapLoad_course : Grants (SameCourse s) (mapLoad tag body s) :=
  .need fun _ _ => .need fun _ _ => .ensure fun _ => .ensure fun _ => .pure rfl

theorem mapClear_course : Grants (SameCourse s) (mapClear tag body s) :=
  .need fun _ _ => .need fun _ _ => .ensure fun _ => .pure rfl

theorem evalProbe_course : Grants (SameCourse s) (evalProbe tag body s) :=
  .need fun _ _ => .need fun _ _ => .need fun _ _ => .ensure fun _ => .ensure fun _ => .pure rfl

theorem clockGet_course : Grants (SameCourse s) (clockGet tag body s) := .need fun _ _ => .pure rfl

theorem takeGet_course : Grants (SameCourse s) (takeGet tag body s) := .need fun _ _ => .pure rfl

theorem captureSet_course : Grants (SameCourse s) (captureSet tag body s) :=
  .need fun _ _ => .need fun _ _ => .ensure fun _ => .ensure fun _ => .pure rfl

theorem wheelGet_course : Grants (SameCourse s) (wheelGet tag body s) := .need fun _ _ => .pure rfl

theorem enableDrives_course (s : State) (mask : Nat) : (s.enableDrives mask).course = s.course := rfl

theorem drivesOn_course : Grants (SameCourse s) (drivesOn tag body s) :=
  .need fun mask _ => .ensure fun _ => .ensure fun _ => .ensure fun _ => .pure
    ((State.reply_course _ _ _ _ _).trans (enableDrives_course s mask))

theorem drivePass_course : Grants (SameCourse s) (drivePass tag body s) :=
  .need fun _ _ => .need fun _ _ => .need fun _ _ => .ensure fun _ => .ensure fun _ => .pure rfl

theorem linkGet_course : Grants (SameCourse s) (linkGet tag body s) := .need fun _ _ => .pure rfl

theorem monitorSet_course : Grants (SameCourse s) (monitorSet tag body s) := by
  refine .need fun _ _ => .ensure fun _ => .need fun m _ => .pure ?_
  unfold SameCourse
  split
  · rw [State.passOutConds_course, State.reportFaultsIf_course]
    rfl
  · rw [State.reportFaultsIf_course]
    rfl

theorem monitorGet_course : Grants (SameCourse s) (monitorGet tag body s) :=
  .need fun _ _ => .ensure fun _ => .pure rfl

theorem logReference_course : Grants (SameCourse s) (logReference tag body s) := by
  refine .need fun o _ => ?_
  cases o with
  | none => exact .pure rfl
  | some n => exact .need fun _ _ => .ensure fun _ => .pure rfl

theorem logClear_course : Grants (SameCourse s) (logClear tag body s) := by
  refine .need fun _ _ => .need fun i _ => .ensure fun _ => .pure ?_
  unfold SameCourse clearSlot
  split <;> rfl

theorem logIndex_course : Grants (SameCourse s) (logIndex tag body s) := .need fun _ _ => .pure rfl

theorem logRead_course : Grants (SameCourse s) (logRead tag body s) :=
  .need fun _ _ => .need fun _ _ => .ensure fun _ => .need fun _ _ => .ensure fun _ => .pure rfl

theorem reportSet_course : Grants (SameCourse s) (reportSet tag body s) := .need fun _ _ => .pure rfl

theorem status_course : Grants (SameCourse s) (status tag body s) := .need fun _ _ => .pure rfl

theorem lineSet_course : Grants (SameCourse s) (lineSet tag body s) := by
  refine .need fun _ _ => .need fun _ _ => .need fun _ _ => .need fun _ _ => .need fun _ _ => .ensure fun _ =>
    .ensure fun _ => .pure ?_
  unfold SameCourse
  split <;> rfl

theorem lineRead_course : Grants (SameCourse s) (lineRead tag body s) := .need fun _ _ => .pure rfl

theorem cueLoad_course : Grants (SameCourse s) (cueLoad tag body s) :=
  .need fun _ _ => .need fun _ _ => .ensure fun _ => .pure rfl

theorem cueGet_course : Grants (SameCourse s) (cueGet tag body s) := .need fun _ _ => .pure rfl

/-! ### What a command keeps -/

/-- From s to t both laws are kept, and within a pass the pass frame does not fall and rises by one at most. -/
structure Obeys (s t : State) : Prop where
  fits : s.course.Fits → t.course.Fits
  clock : s.course.Fits → s.course.ClockFits → t.course.ClockFits
  frame : s.course.Fits → s.course.ClockFits → s.ctrl.pass.isSome = true → t.ctrl.pass.isSome = true →
    s.clock.passFrame ≤ t.clock.passFrame ∧ t.clock.passFrame ≤ s.clock.passFrame + 1

theorem Obeys.of_runs (h : Runs 1 s t) : Obeys s t where
  fits := h.fits
  clock := h.clock
  frame hf hc hp ht := by
    obtain ⟨-, -, hlow, hhigh⟩ | ho := (h.onward hf hc).1 hp
    · exact ⟨hlow, hhigh⟩
    · exact absurd ho.1 (Option.isSome_iff_ne_none.mp ht)

theorem Obeys.of_course (h : SameCourse s t) : Obeys s t := .of_runs (.of_eq h)

/-- Where no pass exists before, or none after, the pass frame is free. -/
theorem Obeys.outside (hf : s.course.Fits → t.course.Fits) (hc : s.course.Fits → s.course.ClockFits → t.course.ClockFits)
    (hp : s.course.Fits → s.course.pass = none ∨ t.course.pass = none) : Obeys s t where
  fits := hf
  clock := hc
  frame hfit _ h1 h2 := by
    obtain h | h := hp hfit
    · exact absurd h (Option.isSome_iff_ne_none.mp h1)
    · exact absurd h (Option.isSome_iff_ne_none.mp h2)

/-! ### Settings, run list, check -/

theorem settingsOf_inRange {o : ClockSetOperands} {cfg : ClockSettings} (h : settingsOf o = some cfg) :
    settingsInRange cfg = true := by
  unfold settingsOf at h
  split at h
  · cases h
  · split at h
    · next hr =>
      cases h
      rw [settingsInRange_iff]
      obtain ⟨h1, h2, h3, h4, h5, h6, h7, h8, h9, h10, h11⟩ := hr
      exact ⟨⟨h1, h2⟩, h3, ⟨h4, h5⟩, ⟨h6, h7⟩, ⟨h8, h9⟩, h10, h11⟩
    · cases h

/-- R18: where no run is pending no pass exists. -/
theorem parked_of_not_pending (h : s.runPending = false) (hf : s.course.Fits) : s.course.Parked := by
  unfold State.runPending at h
  split at h
  · next hs => exact hf.parked_of_state (.inl hs)
  · next hs => exact hf.parked_of_state (.inr (.inr (.inr (.inr hs))))
  · next hs => exact hf.parked_of_jogging hs (Option.isSome_eq_false_iff.mp h |> Option.isNone_iff_eq_none.mp)
  · cases h

theorem clockSet_obeys : Grants (Obeys s) (clockSet tag body s) := by
  refine .need fun o _ => .need fun cfg hcfg => .ensure fun hrun => .ensure fun _ => .ensure fun _ => .pure ?_
  have hpark := parked_of_not_pending (s := s) (by simpa using hrun)
  refine .outside (fun hf => hf.of_settings cfg s.course.clock.period fun hw => ?_)
    (fun _ hc => hc.of_settings (settingsOf_inRange hcfg) hc.ranged.period) fun hf => .inl (hpark hf).pass
  exact absurd hw ((idles_iff _).mp (hpark hf).idles).2.1

theorem beNat_pair_le (a b : Byte) : beNat [a, b] ≤ 65535 := by
  have ha := a.isLt
  have hb := b.isLt
  simp only [beNat, List.foldl_cons, List.foldl_nil]
  omega

theorem readEntry_le {bs rest : List Byte} {r : RawEntry} (h : readEntry bs = some (r, rest)) :
    r.startFrame ≤ 65535 ∧ r.endFrame ≤ 65535 := by
  unfold readEntry at h
  split at h
  · cases h
    exact ⟨beNat_pair_le _ _, beNat_pair_le _ _⟩
  · cases h

/-- What one reader says of each item holds of every item read. -/
theorem forall_mem_readAll {α : Type} {read : List Byte → Option (α × List Byte)} {P : α → Prop}
    (h : ∀ {bs rest x}, read bs = some (x, rest) → P x) :
    ∀ (fuel : Nat) {bs : List Byte} {xs : List α}, readAll read fuel bs = some xs → ∀ x ∈ xs, P x := by
  intro fuel
  induction fuel with
  | zero =>
    intro bs xs hr
    cases bs with
    | nil =>
      cases hr
      simp
    | cons b bs => cases hr
  | succ fuel ih =>
    intro bs xs hr
    cases bs with
    | nil =>
      cases hr
      simp
    | cons b bs =>
      rw [readAll] at hr
      split at hr
      · next x rest hx =>
        split at hr
        · next ys hys =>
          cases hr
          intro y hy
          obtain rfl | hy := List.mem_cons.mp hy
          · exact h hx
          · exact ih hys y hy
        · cases hr
      · cases hr
      · simp

theorem takeLoadOperands_le {raw : List RawEntry} (h : takeLoadOperands body = some raw) :
    raw.length ≤ 20 ∧ ∀ r ∈ raw, r.startFrame ≤ 65535 ∧ r.endFrame ≤ 65535 := by
  unfold takeLoadOperands at h
  split at h
  · split at h
    · next es hes =>
      split at h
      · next hn =>
        cases h
        exact ⟨hn.2.2 ▸ hn.2.1, forall_mem_readAll readEntry_le _ hes⟩
      · cases h
    · cases h
  · cases h

theorem entryOfRaw_inRange {r : RawEntry} {e : RunEntry} (h : entryOfRaw r = some e)
    (hr : r.startFrame ≤ 65535 ∧ r.endFrame ≤ 65535) : entryInRange e = true := by
  unfold entryOfRaw at h
  split at h
  · split at h
    · next hc =>
      cases h
      exact (entryInRange_iff _).mpr ⟨hr.1, hr.2, hc.1, hc.2.1, hc.2.2⟩
    · cases h
  · cases h

theorem entriesOfRaw_inRange {raw : List RawEntry} {es : List RunEntry} (h : entriesOfRaw raw = some es)
    (hr : ∀ r ∈ raw, r.startFrame ≤ 65535 ∧ r.endFrame ≤ 65535) :
    es.length = raw.length ∧ ∀ e ∈ es, entryInRange e = true := by
  induction raw generalizing es with
  | nil =>
    cases h
    simp
  | cons r raw ih =>
    rw [entriesOfRaw] at h
    split at h
    · next e es' he hes =>
      cases h
      obtain ⟨hlen, hall⟩ := ih hes fun x hx => hr x (by simp [hx])
      refine ⟨by simp [hlen], fun x hx => ?_⟩
      obtain rfl | hx := List.mem_cons.mp hx
      · exact entryOfRaw_inRange he (hr r (by simp))
      · exact hall x hx
    · cases h

/-- R64: the run list changes only where no pass exists. -/
theorem takeLoad_obeys : Grants (Obeys s) (takeLoad tag body s) := by
  refine .need fun raw hraw => .need fun es hes => .ensure fun hst => .after (.pure ?_)
  simp only [Bool.or_eq_true, decide_eq_true_eq] at hst
  obtain ⟨hlen, hle⟩ := takeLoadOperands_le hraw
  obtain ⟨hsame, hin⟩ := entriesOfRaw_inRange hes hle
  have hpark : s.course.Fits → s.course.Parked := fun hf =>
    hf.parked_of_state (hst.elim .inl fun h => .inr (.inr (.inr (.inr h))))
  refine .outside (fun hf => ?_) (fun hf hc => ?_) fun hf => .inl (hpark hf).pass
  · obtain ⟨h1, h2, h3, h4, h5⟩ := hpark hf
    exact ⟨hf.checking, hf.walked, .inl ⟨h1, h2, h3, h4, h5⟩⟩
  · have hp := hpark hf
    refine ⟨hc.ranged, fun hpass => absurd hp.pass (Option.isSome_iff_ne_none.mp hpass), hsame ▸ hlen, hin, fun r hr => ?_⟩
    have : s.course.ret = some r := hr
    rw [hp.ret] at this
    cases this

/-- R69, R91: CHECKING is entered from IDLE, with a walk that has not begun. -/
theorem beginCheck_obeys {u : State} (hu : u.course = s.course) (h : s.ctrl.state = .idle) (p : Purpose) (v : Vector Int 16) :
    Obeys s (u.beginCheck p v) := by
  have hf : (u.beginCheck p v).course =
      { s.course with state := .checking, stopForm := none, checking := true, walked := true } := by
    rw [State.beginCheck, State.enter_course, State.startCheck_course]
    have : ({ u with ctrl := { u.ctrl with purpose := some p } } : State).course = u.course := rfl
    rw [this, hu]
  refine .outside (fun hfit => ?_) (fun hfit hc => ?_) fun hfit => .inl (hfit.parked_of_state (.inl h)).pass
  · rw [hf]
    exact ⟨rfl, rfl, .inl ((hfit.parked_of_state (.inl h)).move rfl true true)⟩
  · rw [hf]
    exact hc.move hc.ranged.speed hc.ranged.ramp (fun hp => ⟨hp, rfl⟩) fun _ hr => ⟨hr, rfl⟩

theorem check_obeys : Grants (Obeys s) (check tag body s) := by
  refine .need fun _ _ => .ensure fun hst => .after (.pure ?_)
  simp only [Bool.and_eq_true, decide_eq_true_eq] at hst
  refine beginCheck_obeys (s := s) ?_ hst.1 _ _
  rfl

theorem arm_obeys : Grants (Obeys s) (arm tag body s) := by
  refine .need fun _ _ => .need fun _ _ => .ensure fun hst => .after (.ensure fun _ => .ensure fun _ => .ensure fun _ => .pure ?_)
  simp only [Bool.and_eq_true, decide_eq_true_eq] at hst
  refine beginCheck_obeys (s := s) ?_ hst.1 _ _
  rfl

/-! ### Requests that move the run -/

theorem axisSet_runs : Grants (Runs n s) (axisSet tag body s) := by
  refine .need fun _ _ => .need fun a _ => .need fun r _ => .ensure fun _ => .ensure fun _ => .ensure fun _ =>
    .ensure fun _ => .pure ?_
  have stored : Runs n s ((s.storeAxis a r).reply Kind.axisSet tag .ok (axisRecBytes r)) := .refl s.course
  split
  · exact stored.trans (.of_eq (State.configureLink_course _ _))
  · split
    · exact stored.trans (unconfigureAxis_runs _ a)
    · exact stored

theorem go_runs : Grants (Runs n s) (go tag body s) := by
  refine .need fun _ _ t ht => ?_
  cases hg : s.takeGo fun t => t.reply Kind.go tag .ok [] with
  | none =>
    rw [hg] at ht
    cases ht
  | some u =>
    rw [hg] at ht
    cases ht
    exact takeGo_runs rfl hg

theorem hold_runs : Grants (Runs n s) (hold tag body s) := by
  refine .need fun _ _ t ht => ?_
  cases hg : s.takeHold fun st t => t.reply Kind.hold tag st [] with
  | none =>
    rw [hg] at ht
    cases ht
  | some u =>
    rw [hg] at ht
    cases ht
    exact takeHold_runs (fun _ => rfl) hg

theorem stop_runs : Grants (Runs n s) (stop tag body s) :=
  .need fun _ _ => .pure (takeStop_runs (n := n) (s.reply Kind.stop tag .ok []))

theorem returnToPath_runs : Grants (Runs n s) (returnToPath tag body s) :=
  .need fun _ _ => .need fun _ hr => .pure (beginReturn_runs (n := n) (s := s.reply Kind.returnToPath tag .ok []) hr)

theorem jog_runs : Grants (Runs n s) (jog tag body s) :=
  .ensure fun hj => .need fun _ _ => .need fun _ _ => .after
    (.pure (enterJogging_runs (n := n) (s := s.reply Kind.jog tag .ok _) hj))

theorem jogBind_runs : Grants (Runs n s) (jogBind tag body s) := by
  refine .ensure fun hj => .need fun _ _ => .need fun _ _ => .need fun choice _ => .after (.pure ?_)
  cases choice with
  | none => exact .refl s.course
  | some p => exact enterJogging_runs (n := n) (s := s.reply Kind.jogBind tag .ok []) hj

theorem drivesOff_runs : Grants (Runs n s) (drivesOff tag body s) :=
  .need fun _ _ => .ensure fun _ => .ensure fun _ => .pure (turnOff_runs (n := n) (s.reply Kind.drivesOff tag .ok _) _)

theorem clearFaults_runs : Grants (Runs n s) (clearFaults tag body s) := by
  refine .need fun _ _ => .pure ?_
  have settled : ∀ b, ((({ s with mon := unlatch s.mon } : State).reply Kind.clearFaults tag .ok
      (counted condName (stillLatched (unlatch s.mon)))).settleFaults b).course = s.course := fun b => by
    rw [State.settleFaults_course, State.reply_course]
    exact State.course_congr rfl rfl rfl rfl
  split
  · next hst =>
    simp only [Bool.and_eq_true, decide_eq_true_eq] at hst
    refine park_runs (cs := .idle) (form := none) ?_ (by simp [hst.1])
      (fun hf => hf.parked_of_state (.inr (.inr (.inr (.inr hst.1))))) rfl (by decide) fun _ => rfl
    rw [State.enter_course, settled]
  · exact .of_eq (settled _)

/-! ### The resets -/

/-- A course with no pass, at rest, fits. -/
theorem Course.Fits.of_idle {f : Course} (hs : f.state = .idle) (hf : f.stopForm = none) (hi : f.clock.idles = true)
    (hp : f.pass = none) (hr : f.ret = none) (he : f.entry = 0) (hc : f.checking = false) (hw : f.walked = true) :
    f.Fits :=
  ⟨by rw [hc, hs]; rfl, hw, .inl ⟨by rw [hs, hf]; rfl, hi, hp, hr, he⟩⟩

theorem Course.ClockFits.of_reset {f : Course} (hp : f.pass = none) (hr : f.ret = none) (hc : f.clock.Ranged)
    (hlen : f.runList.length ≤ 20) (hl : ∀ e ∈ f.runList, entryInRange e = true) : f.ClockFits :=
  ⟨hc, fun h => absurd hp (Option.isSome_iff_ne_none.mp h), hlen, hl, fun r h => by
    rw [hr] at h
    cases h⟩

theorem resetClock_ranged {c : Clock} (hs : settingsInRange c.cfg = true)
    (hp : c.period = 1000 ∨ c.period = 500 ∨ c.period = 250) : (resetClock c).bare.Ranged :=
  ⟨hs, hp, Nat.zero_le _, Nat.zero_le _, (Nat.zero_div _).symm, Nat.zero_lt_succ _, Nat.zero_le _, rfl⟩

theorem takeRigReset_course (s : State) :
    s.takeRigReset.course =
      { s.course with
        state := .idle, stopForm := none, pass := none, entry := 0, ret := none, clock := (resetClock s.clock).bare
        checking := false, walked := true } := by
  have blocks : ∀ u : State, u.course = s.course → u.resetBlocks.course =
      { s.course with
        state := .idle, stopForm := none, pass := none, entry := 0, ret := none, clock := (resetClock s.clock).bare
        checking := false, walked := true } := by
    intro u hu
    have hcfg : u.clock.cfg = s.clock.cfg := congrArg (fun f : Course => f.clock.cfg) hu
    have hper : u.clock.period = s.clock.period := congrArg (fun f : Course => f.clock.period) hu
    have hclock : (resetClock u.clock).bare = (resetClock s.clock).bare := by
      simp only [resetClock, Clock.bare, hcfg, hper]
    rw [← hclock, ← hu]
    rfl
  have log : ∀ u : State, u.resetLog.course = u.course := by
    intro u
    unfold State.resetLog
    split
    · exact u.finalizePass_course _
    · split
      · exact u.finalizePass_course _
      · rfl
  have hs1 : ({ s with console := dropFrameReports s.console } : State).resetLink.resetLog.course = s.course := by
    rw [log, State.resetLink, State.abortQueue_course]
    rfl
  simp only [State.takeRigReset]
  split
  · rw [State.reportFaultsIf_course]
    exact blocks _ hs1
  · rw [State.reportState_course, State.reportFaultsIf_course]
    exact blocks _ hs1

theorem rigReset_obeys : Grants (Obeys s) (rigReset tag body s) := by
  refine .need fun _ _ => .pure ?_
  have hf := (State.reply_course _ Kind.rigReset tag .ok []).trans (takeRigReset_course s)
  refine .outside (fun _ => ?_) (fun _ hc => ?_) fun _ => .inr ?_
  · rw [hf]
    exact .of_idle rfl rfl rfl rfl rfl rfl rfl rfl
  · rw [hf]
    exact .of_reset rfl rfl (resetClock_ranged hc.ranged.settings hc.ranged.period) hc.listLength hc.list
  · rw [hf]

theorem powerOnReset_obeys (s : State) : Obeys s
    { State.reset with lines := { Lines.reset with pins := s.lines.pins }, pending := s.pending, openReads := s.openReads } := by
  refine .outside (fun _ => .of_idle rfl rfl rfl rfl rfl rfl rfl rfl) (fun _ _ => ?_) fun _ => .inr rfl
  have hlist : State.reset.course.runList = [] := rfl
  refine .of_reset rfl rfl (resetClock_ranged (c := Clock.reset) (by decide) (.inl rfl)) (Nat.zero_le _) fun e he => ?_
  change e ∈ State.reset.course.runList at he
  rw [hlist] at he
  cases he

/-! ### Every command -/

/-- A command answers a next state that keeps the laws of the controller and of the clock. -/
def AnswersObeying (s : State) (r : Answer) : Prop := ∃ t, r = .next t ∧ Obeys s t

theorem AnswersObeying.next (h : Obeys s t) : AnswersObeying s (.next t) := ⟨t, rfl, h⟩

theorem AnswersObeying.runs (h : Runs 1 s t) : AnswersObeying s (.next t) := .next (.of_runs h)

theorem AnswersObeying.conclude {r : Tested State} (h : Grants (Obeys s) r) : AnswersObeying s (conclude s kind tag r) := by
  cases r with
  | ok t => exact .next (h t rfl)
  | error e => exact .next (.of_course rfl)

theorem AnswersObeying.moves {r : Tested State} (h : Grants (Runs 1 s) r) : AnswersObeying s (Machine.conclude s kind tag r) :=
  .conclude (h.mono fun _ => .of_runs)

theorem AnswersObeying.keeps {r : Tested State} (h : Grants (SameCourse s) r) :
    AnswersObeying s (Machine.conclude s kind tag r) :=
  .conclude (h.mono fun _ => .of_course)

/-- Every request answers, and keeps the laws of the controller and of the clock. -/
theorem runRequest_obeys (c : Instr) (s : State) : AnswersObeying s (runRequest c s) := by
  cases c with
  | rigReset tag body => exact .conclude rigReset_obeys
  | moveCreate tag body => exact .keeps moveCreate_course
  | moveDelete tag body => exact .keeps moveDelete_course
  | moveList tag body => exact .keeps moveList_course
  | trackWrite tag body => exact .keeps fun _ h => (trackWrite_replaces h).course
  | trackRead tag body => exact .keeps trackRead_course
  | trackClear tag body => exact .keeps fun _ h => (trackClear_replaces h).course
  | trackCopy tag body => exact .keeps fun _ h => (trackCopy_replaces h).course
  | trackShift tag body => exact .keeps fun _ h => (trackShift_replaces h).course
  | keyEdit tag body => exact .keeps fun _ h => (keyEdit_replaces h).course
  | keyInsert tag body => exact .keeps fun _ h => (keyInsert_replaces h).course
  | keyDelete tag body => exact .keeps fun _ h => (keyDelete_replaces h).course
  | axisSet tag body => exact .moves axisSet_runs
  | axisGet tag body => exact .keeps axisGet_course
  | mapLoad tag body => exact .keeps mapLoad_course
  | mapClear tag body => exact .keeps mapClear_course
  | evalProbe tag body => exact .keeps evalProbe_course
  | clockSet tag body => exact .conclude clockSet_obeys
  | clockGet tag body => exact .keeps clockGet_course
  | takeLoad tag body => exact .conclude takeLoad_obeys
  | takeGet tag body => exact .keeps takeGet_course
  | check tag body => exact .conclude check_obeys
  | arm tag body => exact .conclude arm_obeys
  | go tag body => exact .moves go_runs
  | hold tag body => exact .moves hold_runs
  | stop tag body => exact .moves stop_runs
  | returnToPath tag body => exact .moves returnToPath_runs
  | jog tag body => exact .moves jog_runs
  | jogBind tag body => exact .moves jogBind_runs
  | captureSet tag body => exact .keeps captureSet_course
  | wheelGet tag body => exact .keeps wheelGet_course
  | drivesOn tag body => exact .keeps drivesOn_course
  | drivesOff tag body => exact .moves drivesOff_runs
  | drivePass tag body => exact .keeps drivePass_course
  | linkGet tag body => exact .keeps linkGet_course
  | monitorSet tag body => exact .keeps monitorSet_course
  | monitorGet tag body => exact .keeps monitorGet_course
  | clearFaults tag body => exact .moves clearFaults_runs
  | logReference tag body => exact .keeps logReference_course
  | logClear tag body => exact .keeps logClear_course
  | logIndex tag body => exact .keeps logIndex_course
  | logRead tag body => exact .keeps logRead_course
  | reportSet tag body => exact .keeps reportSet_course
  | status tag body => exact .keeps status_course
  | lineSet tag body => exact .keeps lineSet_course
  | lineRead tag body => exact .keeps lineRead_course
  | cueLoad tag body => exact .keeps cueLoad_course
  | cueGet tag body => exact .keeps cueGet_course
  | unknownKind kind tag body => exact .next (.of_course rfl)
  | powerOnReset | frameReceive | interByteTimeout | takeRequest | messageSend | servoTimerExpiry | rampAtRest | triggerEnd
  | cameraPulse | cameraLostExpiry | pendingClearExpiry | lineFilterEdge | driveReply | slotEnd | enableTimeout
  | prerollArrival | returnArrival | checkCompletion | jogRefreshExpiry | wheelStep => exact .next (.of_course rfl)

theorem execTakeRequest_obeys (s : State) : AnswersObeying s (execTakeRequest s) := by
  unfold execTakeRequest
  split
  · exact .next (.of_course rfl)
  · next f rest _ =>
    split
    · obtain ⟨t, ht, hk⟩ := runRequest_obeys (Instr.ofFrame f.kind f.tag f.body)
        { s with console := { s.console with inBuf := rest } }
      exact ⟨t, ht, ⟨hk.fits, hk.clock, hk.frame⟩⟩
    · exact .next (.of_course rfl)

theorem execSlotEnd_obeys (s : State) : AnswersObeying s (execSlotEnd s) := by
  refine .runs ?_
  split
  · exact (takeDue_runs s).trans (endSlot_runs _ _)
  · exact .refl _

theorem execPrerollArrival_obeys (s : State) : AnswersObeying s (execPrerollArrival s) := by
  refine .runs ?_
  split
  · next h =>
    simp only [Bool.and_eq_true, decide_eq_true_eq] at h
    exact prerollArrives_runs h.1
  · exact .refl _

theorem execReturnArrival_obeys (s : State) : AnswersObeying s (execReturnArrival s) := by
  refine .runs ?_
  split
  · next r hret =>
    split
    · exact returnArrives_runs hret
    · exact .refl _
  · exact .refl _

theorem execCheckCompletion_obeys (s : State) : AnswersObeying s (execCheckCompletion s) := by
  refine .runs ?_
  split
  · next p hp =>
    unfold State.checkDue at hp
    split at hp
    · split at hp
      · next h =>
        simp only [Bool.and_eq_true, decide_eq_true_eq] at h
        exact completeCheck_runs h.1 p
      · cases hp
    · cases hp
  · exact .refl _

theorem execCameraLostExpiry_obeys (s : State) : AnswersObeying s (execCameraLostExpiry s) := by
  refine .runs ?_
  split
  · exact cameraLost_runs s
  · exact .refl _

/-- Every command answers, and keeps the laws of the controller and of the clock. -/
theorem exec_obeys (c : Instr) (s : State) : AnswersObeying s (exec c s) := by
  cases c with
  | powerOnReset => exact .next (powerOnReset_obeys s)
  | frameReceive bytes => exact .next (.of_course rfl)
  | interByteTimeout => exact .next (.of_course rfl)
  | takeRequest => exact execTakeRequest_obeys s
  | messageSend => exact .next (.of_course rfl)
  | servoTimerExpiry pins => exact .runs (servoPeriod_runs s pins)
  | rampAtRest => exact .runs (takeRampEnd_runs s)
  | triggerEnd => exact .next (.of_course s.takeTriggerEnd_course)
  | cameraPulse => exact .runs (cameraRise_runs s)
  | cameraLostExpiry => exact execCameraLostExpiry_obeys s
  | pendingClearExpiry line => exact .next (.of_course (s.takeClear_course line))
  | lineFilterEdge line => exact .runs (takeEdge_runs s line)
  | driveReply bytes => exact .next (.of_course (s.takeReply_course bytes))
  | slotEnd => exact execSlotEnd_obeys s
  | enableTimeout axis => exact .runs (enableTimesOut_runs s axis)
  | prerollArrival => exact execPrerollArrival_obeys s
  | returnArrival => exact execReturnArrival_obeys s
  | checkCompletion => exact execCheckCompletion_obeys s
  | jogRefreshExpiry axis => exact .next (.of_course (s.expireRefresh_course axis))
  | wheelStep wheel up => exact .next (.of_course rfl)
  | rigReset tag body => exact runRequest_obeys (.rigReset tag body) s
  | moveCreate tag body => exact runRequest_obeys (.moveCreate tag body) s
  | moveDelete tag body => exact runRequest_obeys (.moveDelete tag body) s
  | moveList tag body => exact runRequest_obeys (.moveList tag body) s
  | trackWrite tag body => exact runRequest_obeys (.trackWrite tag body) s
  | trackRead tag body => exact runRequest_obeys (.trackRead tag body) s
  | trackClear tag body => exact runRequest_obeys (.trackClear tag body) s
  | trackCopy tag body => exact runRequest_obeys (.trackCopy tag body) s
  | trackShift tag body => exact runRequest_obeys (.trackShift tag body) s
  | keyEdit tag body => exact runRequest_obeys (.keyEdit tag body) s
  | keyInsert tag body => exact runRequest_obeys (.keyInsert tag body) s
  | keyDelete tag body => exact runRequest_obeys (.keyDelete tag body) s
  | axisSet tag body => exact runRequest_obeys (.axisSet tag body) s
  | axisGet tag body => exact runRequest_obeys (.axisGet tag body) s
  | mapLoad tag body => exact runRequest_obeys (.mapLoad tag body) s
  | mapClear tag body => exact runRequest_obeys (.mapClear tag body) s
  | evalProbe tag body => exact runRequest_obeys (.evalProbe tag body) s
  | clockSet tag body => exact runRequest_obeys (.clockSet tag body) s
  | clockGet tag body => exact runRequest_obeys (.clockGet tag body) s
  | takeLoad tag body => exact runRequest_obeys (.takeLoad tag body) s
  | takeGet tag body => exact runRequest_obeys (.takeGet tag body) s
  | check tag body => exact runRequest_obeys (.check tag body) s
  | arm tag body => exact runRequest_obeys (.arm tag body) s
  | go tag body => exact runRequest_obeys (.go tag body) s
  | hold tag body => exact runRequest_obeys (.hold tag body) s
  | stop tag body => exact runRequest_obeys (.stop tag body) s
  | returnToPath tag body => exact runRequest_obeys (.returnToPath tag body) s
  | jog tag body => exact runRequest_obeys (.jog tag body) s
  | jogBind tag body => exact runRequest_obeys (.jogBind tag body) s
  | captureSet tag body => exact runRequest_obeys (.captureSet tag body) s
  | wheelGet tag body => exact runRequest_obeys (.wheelGet tag body) s
  | drivesOn tag body => exact runRequest_obeys (.drivesOn tag body) s
  | drivesOff tag body => exact runRequest_obeys (.drivesOff tag body) s
  | drivePass tag body => exact runRequest_obeys (.drivePass tag body) s
  | linkGet tag body => exact runRequest_obeys (.linkGet tag body) s
  | monitorSet tag body => exact runRequest_obeys (.monitorSet tag body) s
  | monitorGet tag body => exact runRequest_obeys (.monitorGet tag body) s
  | clearFaults tag body => exact runRequest_obeys (.clearFaults tag body) s
  | logReference tag body => exact runRequest_obeys (.logReference tag body) s
  | logClear tag body => exact runRequest_obeys (.logClear tag body) s
  | logIndex tag body => exact runRequest_obeys (.logIndex tag body) s
  | logRead tag body => exact runRequest_obeys (.logRead tag body) s
  | reportSet tag body => exact runRequest_obeys (.reportSet tag body) s
  | status tag body => exact runRequest_obeys (.status tag body) s
  | lineSet tag body => exact runRequest_obeys (.lineSet tag body) s
  | lineRead tag body => exact runRequest_obeys (.lineRead tag body) s
  | cueLoad tag body => exact runRequest_obeys (.cueLoad tag body) s
  | cueGet tag body => exact runRequest_obeys (.cueGet tag body) s
  | unknownKind kind tag body => exact runRequest_obeys (.unknownKind kind tag body) s

theorem exec_next_obeys {c : Instr} (h : exec c s = .next t) : Obeys s t := by
  obtain ⟨u, hu, ho⟩ := exec_obeys c s
  rw [h] at hu
  cases hu
  exact ho

/-- Settles O47: every command leaves the course of the run (Table 4-2) as one that fits together. -/
theorem everyCommandKeepsTheControllerLaw : Obligations.EveryCommandKeepsTheControllerLaw := by
  unfold Obligations.EveryCommandKeepsTheControllerLaw
  intro c s t hs ht
  exact (ctrlLaw_iff t).mpr ((exec_next_obeys ht).fits ((ctrlLaw_iff s).mp hs))

/-- Settles O46: every command leaves the clock in range and the pass within its entry, and moves the pass frame on by one at most. -/
theorem everyCommandKeepsTheClockLaw : Obligations.EveryCommandKeepsTheClockLaw := by
  unfold Obligations.EveryCommandKeepsTheClockLaw
  intro c s t hclock hctrl ht
  have hfits := (ctrlLaw_iff s).mp hctrl
  have hc := (clockLaw_iff s).mp hclock
  have ho := exec_next_obeys ht
  exact ⟨(clockLaw_iff t).mpr (ho.clock hfits hc), fun hs hp _ => ho.frame hfits hc hs hp⟩

end Sys2Proof.Machine
end

/-! SUPPORT. CLOCK_SET and CLOCK_GET (R45, R46): the settings round their bytes, and what each test refuses. -/
section
namespace Sys2Proof.Machine

section
variable {cfg : ClockSettings} {tag : Byte} {s : State}

/-- The operands CLOCK_SET reads from the bytes of some settings. -/
def operandsOfSettings (cfg : ClockSettings) : ClockSetOperands :=
  { sync := syncNumber cfg.sync, frameRate := cfg.frameRate, servoRate := cfg.servoRate, trigWidth := cfg.trigWidth
    holdRamp := cfg.holdRamp, resumeRamp := cfg.resumeRamp, faultRamp := cfg.faultRamp }

theorem syncOf_syncNumber (m : SyncMode) : syncOf (syncNumber m) = some m := by cases m <;> rfl

theorem settingsOf_operands (h : settingsInRange cfg = true) : settingsOf (operandsOfSettings cfg) = some cfg := by
  obtain ⟨⟨h1, h2⟩, h3, ⟨h4, h5⟩, ⟨h6, h7⟩, ⟨h8, h9⟩, h10, h11⟩ := (settingsInRange_iff cfg).mp h
  have hsync : syncOf (operandsOfSettings cfg).sync = some cfg.sync := syncOf_syncNumber cfg.sync
  rw [settingsOf, hsync]
  exact if_pos ⟨h1, h2, h3, h4, h5, h6, h7, h8, h9, h10, h11⟩

theorem clockSetOperands_settingsBytes (h : settingsInRange cfg = true) :
    clockSetOperands (settingsBytes cfg) = some (operandsOfSettings cfg) := by
  obtain ⟨⟨-, h2⟩, h3, ⟨-, h5⟩, ⟨-, h7⟩, ⟨-, h9⟩, -, h11⟩ := (settingsInRange_iff cfg).mp h
  have hsync : syncNumber cfg.sync < 256 := by cases cfg.sync <;> decide
  have hservo : cfg.servoRate < 65536 := by omega
  simp only [settingsBytes, u8_eq, u16_eq, u32_eq, List.cons_append, List.nil_append, clockSetOperands, operandsOfSettings,
    byte_toNat _ hsync, byte_toNat _ (show cfg.trigWidth < 256 by omega),
    beNat_u32 _ (show cfg.frameRate < 4294967296 by omega), beNat_u16 _ hservo,
    beNat_u16 _ (show cfg.holdRamp < 65536 by omega), beNat_u16 _ (show cfg.resumeRamp < 65536 by omega),
    beNat_u16 _ (show cfg.faultRamp < 65536 by omega)]

/-- CLOCK_SET with settings in range comes to the three tests of R45 on the state. -/
theorem clockSet_settingsBytes (h : settingsInRange cfg = true) :
    clockSet tag (settingsBytes cfg) s =
      (ensure .inUse (!s.runPending) >>= fun _ =>
        ensure .badValue (s.configuredAxes.length ≤ slotsOf (periodOf cfg.servoRate)) >>= fun _ =>
          ensure .badValue (triggerFits cfg) >>= fun _ =>
            .ok (({ s with clock := { s.clock with cfg } }).reply Kind.clockSet tag .ok (settingsBytes cfg))) := by
  simp only [clockSet, clockSetOperands_settingsBytes h, need_some_bind, settingsOf_operands h]
  rfl

theorem triggerFits_iff : triggerFits cfg = true ↔
    (cfg.sync = .master → cfg.trigWidth < 1000000000 / (cfg.frameRate * (1000000 / cfg.servoRate))) := by
  rw [imp_iff_not_or, triggerFits, Bool.or_eq_true]
  exact or_congr (by simp) decide_eq_true_iff

theorem clockSet_accepted (h : settingsInRange cfg = true) (hrun : s.runPending = false)
    (hslots : s.configuredAxes.length ≤ slotsOf (periodOf cfg.servoRate)) (htrig : triggerFits cfg = true) :
    clockSet tag (settingsBytes cfg) s =
      .ok (({ s with clock := { s.clock with cfg } }).reply Kind.clockSet tag .ok (settingsBytes cfg)) := by
  rw [clockSet_settingsBytes h, hrun, decide_eq_true hslots, htrig]
  rfl

theorem clockSet_badValue (h : settingsInRange cfg = true) (hrun : s.runPending = false)
    (hbad : slotsOf (periodOf cfg.servoRate) < s.configuredAxes.length ∨ triggerFits cfg = false) :
    clockSet tag (settingsBytes cfg) s = refusedWith .badValue := by
  rw [clockSet_settingsBytes h, hrun]
  obtain hslots | htrig := hbad
  · rw [decide_eq_false (by omega)]
    rfl
  · rw [htrig]
    cases decide (s.configuredAxes.length ≤ slotsOf (periodOf cfg.servoRate)) <;> rfl

theorem clockSet_inUse (h : settingsInRange cfg = true) (hrun : s.runPending = true) :
    clockSet tag (settingsBytes cfg) s = refusedWith .inUse := by
  rw [clockSet_settingsBytes h, hrun]
  rfl

end

/-- Settles O17: an accepted CLOCK_SET, its two refusals, and CLOCK_GET. -/
theorem clockSetAndGet : Obligations.ClockSetAndGet := by
  unfold Obligations.ClockSetAndGet
  intro cfg tag s h
  refine ⟨fun hrun hslots htrig => ?_, fun hrun hbad => ?_, fun hrun => ?_, rfl⟩
  · exact conclude_of_accepted (clockSet_accepted h hrun hslots (triggerFits_iff.mpr htrig))
  · refine conclude_of_refused (kind := Kind.clockSet) (clockSet_badValue h hrun (hbad.imp_right fun ⟨hm, hw⟩ => ?_))
    exact Bool.eq_false_iff.mpr fun hfit => absurd (triggerFits_iff.mp hfit hm) (by omega)
  · exact conclude_of_refused (kind := Kind.clockSet) (clockSet_inUse h hrun)

end Sys2Proof.Machine
end

/-! SUPPORT. HOLD (R76): a hold ramp or a stop on the path, and the reports that wait after it. -/
section
namespace Sys2Proof.Machine

/-! ### The output queue while it has room -/

theorem queueMessage_of_room {c : Console} (hh : c.held = []) (hq : c.outQ.length < queueSize) (m : Message) :
    queueMessage c m = { c with outQ := c.outQ ++ [m] } := by
  rw [queueMessage, hh, decide_eq_true hq]
  rfl

theorem updateStateReport_none (st : CtrlState) (kind : Option PassKind) (entry : Nat) {q : List Message}
    (h : q.all (!isStateReport ·) = true) : updateStateReport st kind entry q = none := by
  induction q with
  | nil => rfl
  | cons m rest ih =>
    simp only [List.all_cons, Bool.and_eq_true, Bool.not_eq_true'] at h
    obtain ⟨hm, hrest⟩ := h
    cases m with
    | state st' k e n => cases hm
    | _ => simp only [updateStateReport, ih hrest, Option.map_none]

theorem queueStateReport_of_room {c : Console} (hh : c.held = []) (hq : c.outQ.length < queueSize)
    (hnone : c.outQ.all (!isStateReport ·) = true) (st : CtrlState) (kind : Option PassKind) (entry : Nat) :
    queueStateReport c st kind entry = { c with outQ := c.outQ ++ [.state st kind entry 1] } := by
  have hheld : updateStateReport st kind entry c.held = none := by
    rw [hh]
    rfl
  rw [queueStateReport, updateStateReport_none st kind entry hnone, hheld]
  exact queueMessage_of_room hh hq _

/-! ### Ramps on the path -/

section
variable {s : State} {tag : Byte}

theorem startHold_of_moving (h : s.clock.speed ≠ 0) :
    s.startHold = ({ s with clock := startHoldRamp s.clock }.enter .holding) := atRestIfStill_moving h

theorem startStopRamp_speed (c : Clock) : (startStopRamp c).speed = c.speed := by
  obtain ⟨d, h⟩ := startStopRamp_clock c
  rw [h]
  rfl

theorem stopOnPath_of_moving (h : s.clock.speed ≠ 0) :
    s.stopOnPath = { s with clock := startStopRamp s.clock }.enterStop .stopping .path :=
  atRestIfStill_moving ((startStopRamp_speed s.clock).trans_ne h)

theorem startStopRamp_of_no_hold {c : Clock} (h : ∀ d, c.ramp ≠ .down .hold d) :
    startStopRamp c = { releaseLock c with ramp := .down .stop (rampDecrement c.speed c.cfg.holdRamp) } := by
  unfold startStopRamp
  split
  · next d hd => exact absurd hd (h d)
  · rfl

/-! ### HOLD by state -/

theorem hold_eq : hold tag [] s = need .wrongState (s.takeHold fun st t => t.reply Kind.hold tag st []) := rfl

theorem hold_accepted {t : State} (h : s.takeHold (fun st t => t.reply Kind.hold tag st []) = some t) :
    exec (.hold tag []) s = .next t :=
  conclude_of_accepted (kind := Kind.hold) (tag := tag) (by rw [hold_eq, h]; rfl)

theorem takeHold_running (h : s.ctrl.state = .running) (hf : s.clock.cfg.sync ≠ .follower) (ok : Status → State → State) :
    s.takeHold ok = some (ok .ok s).startHold := by
  rw [State.takeHold, h]
  exact if_neg hf

theorem takeHold_follower (h : s.ctrl.state = .running) (hf : s.clock.cfg.sync = .follower) (ok : Status → State → State) :
    s.takeHold ok = some (ok .asStop s).takeStop := by
  rw [State.takeHold, h]
  exact if_pos hf

theorem takeHold_holding (h : s.ctrl.state = .holding) (ok : Status → State → State) : s.takeHold ok = some (ok .ok s) := by
  rw [State.takeHold, h]

theorem takeHold_elsewhere (hr : s.ctrl.state ≠ .running) (hh : s.ctrl.state ≠ .holding) (ok : Status → State → State) :
    s.takeHold ok = none := by
  unfold State.takeHold
  split
  · next h => exact absurd h hr
  · next h => exact absurd h hh
  · rfl

theorem takeStop_advancing (h : s.ctrl.state = .running) (ha : s.clock.state = .advancing) : s.takeStop = s.stopOnPath := by
  simp only [State.takeStop, h, ha]

end

/-- Settles O24: HOLD by state and mode. -/
theorem holdSlowsThePass : Obligations.HoldSlowsThePass := by
  unfold Obligations.HoldSlowsThePass
  intro tag s
  refine ⟨fun hr hf hv => ⟨_, hold_accepted (takeHold_running hr hf _), ?_⟩,
    fun hr hf ha hv hd => ⟨_, hold_accepted (takeHold_follower hr hf _), ?_⟩,
    fun hh => hold_accepted (takeHold_holding hh _), fun hr hh => ?_⟩
  · rw [startHold_of_moving (by exact hv)]
    exact ⟨rfl, rfl, rfl⟩
  · rw [takeStop_advancing (by exact hr) (by exact ha), stopOnPath_of_moving (by exact hv),
      startStopRamp_of_no_hold (by exact hd)]
    refine ⟨rfl, rfl, rfl, rfl, fun hheld hlen hnone => ?_⟩
    have hpost : (s.reply Kind.hold tag .asStop []).console =
        { s.console with outQ := s.console.outQ ++ [.reply 0xA5 tag [0x02]] } :=
      queueMessage_of_room hheld (Nat.lt_of_le_of_lt hlen (by decide)) _
    have hreport := queueStateReport_of_room (c := (s.reply Kind.hold tag .asStop []).console) (by rw [hpost]; exact hheld)
      (by rw [hpost]; simp only [List.length_append, List.length_singleton, queueSize]; omega)
      (by rw [hpost]; simpa [isStateReport] using hnone) .stopping s.ctrl.pass s.ctrl.entry
    refine (congrArg Console.outQ hreport).trans ?_
    rw [hpost]
    exact List.append_assoc _ _ _
  · refine conclude_of_refused (kind := Kind.hold) ?_
    rw [hold_eq, takeHold_elsewhere hr hh]
    rfl

end Sys2Proof.Machine
end

/-! SUPPORT. Down ramps (R51, R53, R58) and what ends with them: a pass that ends where it stands (R80), the trigger's end (R58), STOP in
every state (R79). -/
section
namespace Sys2Proof.Machine

variable {s t : State}

/-! ### Ramps -/

theorem le_mul_ceilDiv (e : Nat) {n : Nat} (h : 1 ≤ n) : e ≤ ceilDiv e n * n := by
  have hmod := Nat.mod_lt (e + n - 1) h
  have hdiv := Nat.div_add_mod' (e + n - 1) n
  unfold ceilDiv
  omega

/-- R51: n periods of a down ramp lower the speed by n decrements. -/
theorem rampStep_down_iterate (target : Nat) (k : RampKind) (d n : Nat) (c : Clock) :
    (fun x => rampStep x target)^[n] { c with ramp := .down k d } =
      { c with speed := c.speed - n * d, ramp := .down k d } := by
  induction n generalizing c with
  | zero => simp
  | succ n ih =>
    rw [Function.iterate_succ_apply]
    refine (ih { c with speed := c.speed - d }).trans ?_
    rw [show c.speed - d - n * d = c.speed - (n + 1) * d by rw [Nat.sub_sub, Nat.succ_mul, Nat.add_comm]]

theorem startFaultRamp_ramp (c : Clock) :
    (startFaultRamp c).ramp = .down .fault (max (currentDecrement c.ramp) (rampDecrement c.speed c.cfg.faultRamp)) := rfl

theorem currentDecrement_down {r : Ramp} {k : RampKind} {d : Nat} (h : r = .down k d) : currentDecrement r = d := by
  rw [h]
  rfl

theorem rampDue_of_down {k : RampKind} {d : Nat} (ha : s.clock.state = .advancing) (he : s.clock.speed = 0)
    (hr : s.clock.ramp = .down k d) : s.rampDue = true := by
  simp [State.rampDue, ha, he, hr]

theorem rampAtRest_due (h : s.rampDue = true) : exec .rampAtRest s = .next s.takeAtRest := by
  have : exec .rampAtRest s = .next (if s.rampDue then s.takeAtRest else s) := rfl
  rw [this, if_pos h]

theorem rampAtRest_not_due (h : s.clock.speed ≠ 0) : exec .rampAtRest s = .next s := by
  have : exec .rampAtRest s = .next (if s.rampDue then s.takeAtRest else s) := rfl
  rw [this, if_neg (by simp [State.rampDue, h])]

theorem triggerEnd_eq : exec .triggerEnd s = .next s.takeTriggerEnd := rfl

/-! ### A pass that ends where it stands -/

/-- From s to t a pass has ended with an outcome, and the controller is in a state the end leads to. -/
structure EndsRun (s t : State) (cs : CtrlState) (form : Option StopForm) (outcome : PassOutcome) : Prop where
  state : t.ctrl.state = cs
  stopForm : t.ctrl.stopForm = form
  pass : t.ctrl.pass = none
  entry : t.ctrl.entry = 0
  ret : t.ctrl.ret = none
  clock : t.clock = stopClock s.clock
  closes : PassCloses s t outcome
  axes : t.axes = s.axes
  link : t.link = s.link
  lines : t.lines = s.lines
  wheels : t.wheels = s.wheels
  check : t.check = s.check

theorem endPass_endsRun (cs : CtrlState) (form : Option StopForm) (o : PassOutcome) (h : s.ctrl.pass.isSome = true) :
    EndsRun s ((s.withCtrl cs form).endPass o).reportState cs form o := by
  obtain ⟨kind, hk⟩ := Option.isSome_iff_exists.mp h
  have he := endPass_ends (s.withCtrl cs form) (kind := kind) o hk
  generalize State.endPass _ _ = v at he ⊢
  have hctrl : v.reportState.ctrl = endedCtrl (s.withCtrl cs form).ctrl := he.ctrl
  refine ⟨?_, ?_, ?_, ?_, ?_, he.clock, (he.closes.later (u := v.reportState) rfl v.reportState_grows).of_log rfl, he.axes, he.link,
    he.lines, he.wheels, he.check⟩ <;> rw [hctrl] <;> rfl

theorem endPass_entry (o : PassOutcome) (h : s.ctrl.pass.isSome = true) : (s.endPass o).ctrl.entry = 0 := by
  obtain ⟨kind, hk⟩ := Option.isSome_iff_exists.mp h
  exact congrArg Ctrl.entry (endPass_ends s o hk).ctrl

/-- R79, R87: what "at rest" at the end of a stop ramp or a fault ramp brings to the pass. -/
theorem takeAtRest_endsRun {k : RampKind} {d : Nat} (hr : s.clock.ramp = .down k d) (hp : s.ctrl.pass.isSome = true)
    (hk : k ≠ .hold) :
    EndsRun { s with clock := stopClock s.clock } s.takeAtRest (if k = .stop then .idle else .faulted) none
      (if k = .stop then .stopped else .faulted) := by
  cases k with
  | hold => exact absurd rfl hk
  | stop =>
    simp only [State.takeAtRest, hr]
    exact endPass_endsRun (s := { s with clock := stopClock s.clock }) .idle none .stopped hp
  | fault =>
    simp only [State.takeAtRest, hr]
    exact endPass_endsRun (s := { s with clock := stopClock s.clock }) .faulted none .faulted hp

theorem takeAtRest_hold {d : Nat} (hr : s.clock.ramp = .down .hold d) :
    s.takeAtRest = { s with clock := restClock s.clock, ctrl := { s.ctrl with landing := false } }.enter .held := by
  simp only [State.takeAtRest, hr]

/-- Settles O19: the length of down ramps by iteration, and each end by its kind. -/
theorem downRampsAndTriggersEnd : Obligations.DownRampsAndTriggersEnd := by
  unfold Obligations.DownRampsAndTriggersEnd
  refine ⟨fun n target k c hn => ?_, fun c k d hr hf => ?_, fun s => ⟨fun d ha he hr => ?_, fun d ha he hr hp => ?_,
    fun d ha he hr hp => ?_, rampAtRest_not_due, fun ht => ?_, fun ht => ?_⟩⟩
  · rw [rampStep_down_iterate]
    have := le_mul_ceilDiv c.speed hn
    simp only [rampDecrement]
    rw [Nat.mul_comm]
    omega
  · refine ⟨_, startFaultRamp_ramp c, ?_, ?_⟩
    · rw [currentDecrement_down hr]
      exact Nat.le_max_left d _
    · calc c.speed ≤ rampDecrement c.speed c.cfg.faultRamp * c.cfg.faultRamp := le_mul_ceilDiv c.speed hf
        _ ≤ _ := Nat.mul_le_mul_right _ (Nat.le_max_right _ _)
  · refine ⟨_, rampAtRest_due (rampDue_of_down ha he hr), ?_⟩
    rw [takeAtRest_hold hr]
    exact ⟨rfl, rfl, rfl⟩
  · obtain ⟨h1, h2, h3, h4, h5, h6, h7, h8, h9, h10, h11, h12⟩ := takeAtRest_endsRun hr hp (by decide)
    refine ⟨_, rampAtRest_due (rampDue_of_down ha he hr), h1, h2, h3, h4, h5, ?_, ?_, ?_, ?_, h7.of_log rfl, h8, h9, h10, h11, h12⟩ <;>
      rw [h6] <;> rfl
  · obtain ⟨h1, h2, h3, h4, h5, h6, h7, h8, h9, h10, h11, h12⟩ := takeAtRest_endsRun hr hp (by decide)
    refine ⟨_, rampAtRest_due (rampDue_of_down ha he hr), h1, h2, h3, h4, h5, ?_, ?_, ?_, ?_, h7.of_log rfl, h8, h9, h10, h11, h12⟩ <;>
      rw [h6] <;> rfl
  · rw [triggerEnd_eq, State.takeTriggerEnd, if_pos ht]
    rfl
  · rw [triggerEnd_eq, State.takeTriggerEnd, if_neg ht]

/-! ### STOP by state -/

theorem stop_eq (tag : Byte) : exec (.stop tag []) s = .next (s.reply Kind.stop tag .ok []).takeStop := rfl

theorem takeStop_still (h : s.ctrl.state = .idle ∨ s.ctrl.state = .stopping ∨ s.ctrl.state = .faultStopping ∨
    s.ctrl.state = .faulted) : s.takeStop = s := by
  obtain h | h | h | h := h <;> simp only [State.takeStop, h]

/-- R104: a check that is cancelled has walked as far as a free value says, and leaves its record. -/
theorem cancelCheck_record {p : CheckProgress} (hp : s.check.progress = some p) :
    ∃ n, n ≤ p.total + 1 ∧ (p.taken ≤ p.total + 1 → p.taken ≤ n) ∧
      s.cancelCheck =
        ({ s with
          check := { progress := none, record := some (State.cancelledCheck (s.walkTo p n)) }, openReads := s.openReads + 1 }.post
          (.check (checkBytes (State.cancelledCheck (s.walkTo p n))))) := by
  refine ⟨min (p.total + 1) (p.taken + Config.freeWalk s.openReads), Nat.min_le_left .., fun h => ?_, ?_⟩
  · exact Nat.le_min.mpr ⟨h, Nat.le_add_right ..⟩
  · have hwalk : s.advanceWalk =
        { s with
          check :=
            { s.check with
              progress := some (s.walkTo p (min (p.total + 1) (p.taken + Config.freeWalk s.openReads))) }
          openReads := s.openReads + 1 } := by
      simp only [State.advanceWalk, hp]
    simp only [State.cancelCheck, hwalk]
    rfl

/-- R93: a walk does not depend on the console. -/
theorem walkEntries_reply (kind tag : Byte) (st : Status) (fields : List Byte) (p : Purpose) (a : Axis) (es : List RunEntry) :
    ∀ (n c : Nat) (rest : Bool) (w : Walk),
      (s.reply kind tag st fields).walkEntries p a n c rest es w = s.walkEntries p a n c rest es w := by
  induction es with
  | nil => exact fun _ _ _ _ => rfl
  | cons e es ih =>
    intro n c rest w
    rw [State.walkEntries, State.walkEntries, ih]
    rfl

theorem walkTo_reply (kind tag : Byte) (st : Status) (fields : List Byte) (p : CheckProgress) (n : Nat) :
    (s.reply kind tag st fields).walkTo p n = s.walkTo p n := by
  have hwalk : (s.reply kind tag st fields).walkAxis p.purpose p.start n = s.walkAxis p.purpose p.start n :=
    funext fun a => walkEntries_reply kind tag st fields p.purpose a s.ctrl.runList 1 0 true _
  rw [State.walkTo, State.walkTo, hwalk]
  rfl

theorem takeStop_moving (h : (s.ctrl.state = .running ∧ s.clock.state = .advancing) ∨ s.ctrl.state = .holding)
    (hv : s.clock.speed ≠ 0) : s.takeStop = { s with clock := startStopRamp s.clock }.enterStop .stopping .path := by
  rw [← stopOnPath_of_moving hv]
  obtain ⟨hr, ha⟩ | hh := h
  · exact takeStop_advancing hr ha
  · simp only [State.takeStop, hh]

theorem startStopRamp_decrement (c : Clock) : ∃ d,
    startStopRamp c = { c with ramp := .down .stop d, lock := none, lostTimer := none, budget := 0 } ∧
      (∀ d0, c.ramp = .down .hold d0 → d = d0) ∧
      ((∀ d0, c.ramp ≠ .down .hold d0) → d = ceilDiv c.speed c.cfg.holdRamp) := by
  by_cases h : ∃ d0, c.ramp = .down .hold d0
  · obtain ⟨d0, hd⟩ := h
    refine ⟨d0, by simp only [startStopRamp, hd, releaseLock], fun d1 h1 => ?_, fun hno => absurd hd (hno d0)⟩
    rw [hd] at h1
    cases h1
    rfl
  · have hno : ∀ d0, c.ramp ≠ .down .hold d0 := fun d0 hd => h ⟨d0, hd⟩
    exact ⟨_, startStopRamp_of_no_hold hno, fun d0 hd => absurd hd (hno d0), fun _ => rfl⟩

theorem takeStop_standing (h : (s.ctrl.state = .running ∧ s.clock.state = .waiting) ∨ s.ctrl.state = .held) :
    s.takeStop = ((s.withCtrl .idle none).endPass .stopped).reportState := by
  obtain ⟨hr, hw⟩ | hh := h
  · simp only [State.takeStop, hr, hw]
  · simp only [State.takeStop, hh]

/-- JOGGING or RETURNING with the controller's move to STOPPING made. -/
def State.stoppingGen (s : State) : State :=
  { s with ctrl := { s.ctrl with inPos := 0 } }.withCtrl .stopping (some .generator)

theorem takeStop_jogging (h : s.ctrl.state = .jogging ∨ s.ctrl.state = .returning) :
    s.takeStop = (s.stoppingGen.endPass .stopped).genRestAll.reportState := by
  obtain h | h := h <;> simp only [State.takeStop, h, State.stoppingGen]

/-- R165, R68: the axes rest and the change of state is reported: only the generator and the console change. -/
theorem genRestAll_report (v : State) :
    v.genRestAll.reportState.ctrl = v.ctrl ∧ v.genRestAll.reportState.log = v.log ∧
      v.genRestAll.reportState.link = v.link ∧ v.genRestAll.reportState.check = v.check ∧
      v.genRestAll.reportState.fittings = v.fittings := by
  refine ⟨?_, ?_, ?_, ?_, ?_⟩ <;> simp

/-- Settles O25: STOP in each state of Table 4-5. -/
theorem stopInEveryState : Obligations.StopInEveryState := by
  unfold Obligations.StopInEveryState
  intro tag s
  have hstop := stop_eq (s := s) tag
  refine ⟨fun h => ?_, fun p hst hp => ?_, fun hst => ?_, fun hst => ?_, fun hst hv => ?_, fun kind hst hk => ?_,
    fun hst => ?_⟩
  · rw [hstop, takeStop_still (by exact h)]
    rfl
  · obtain ⟨n, hn, hlow, hcancel⟩ := cancelCheck_record (s := s.reply Kind.stop tag .ok []) hp
    have hck : (s.reply Kind.stop tag .ok []).takeStop =
        (s.reply Kind.stop tag .ok []).cancelCheck.discardArm.enter .idle := by
      have hst' : (s.reply Kind.stop tag .ok []).ctrl.state = .checking := hst
      simp only [State.takeStop, hst']
    rw [hck, hcancel, walkTo_reply] at hstop
    exact ⟨_, State.cancelledCheck (s.walkTo p n), hstop, rfl, rfl, rfl, rfl, rfl, rfl, Nat.sub_le_iff_le_add.mpr hn,
      ⟨n, hn, hlow, rfl, rfl⟩, rfl, rfl, rfl, rfl, rfl⟩
  · have hpre : (s.reply Kind.stop tag .ok []).takeStop =
        ({ s.reply Kind.stop tag .ok [] with ctrl := { s.ctrl with inPos := 0 } } : State).genRestAll.enterStop .stopping
          .generator := by
      have hst' : (s.reply Kind.stop tag .ok []).ctrl.state = .preroll := hst
      simp only [State.takeStop, hst']
      rfl
    rw [hpre] at hstop
    exact ⟨_, hstop, rfl, rfl, fun a hc hd ho hm =>
      genRestAll_rec (s := { s.reply Kind.stop tag .ok [] with ctrl := { s.ctrl with inPos := 0 } }) hc hd ho hm⟩
  · have harm : (s.reply Kind.stop tag .ok []).takeStop = (s.reply Kind.stop tag .ok []).abandonArm := by
      have hst' : (s.reply Kind.stop tag .ok []).ctrl.state = .armed := hst
      simp only [State.takeStop, hst']
    rw [harm] at hstop
    exact ⟨_, hstop, rfl, rfl⟩
  · rw [takeStop_moving (by exact hst) (by exact hv)] at hstop
    obtain ⟨d, hclock, hhold, hno⟩ := startStopRamp_decrement s.clock
    exact ⟨_, d, hstop, rfl, hclock, hhold, hno, rfl⟩
  · rw [takeStop_standing (by exact hst)] at hstop
    have he := endPass_endsRun (s := s.reply Kind.stop tag .ok []) .idle none .stopped
      (show s.ctrl.pass.isSome = true by rw [hk]; rfl)
    refine ⟨_, hstop, he.state, he.pass, he.entry, he.ret, ?_, ?_, ?_, he.closes.of_log rfl, he.axes, he.link, he.lines, he.wheels,
      he.check⟩ <;> rw [he.clock] <;> rfl
  · rw [takeStop_jogging (by exact hst)] at hstop
    have he := endPass_any (s.reply Kind.stop tag .ok []).stoppingGen .stopped
    have hentry := endPass_entry (s := (s.reply Kind.stop tag .ok []).stoppingGen) .stopped
    generalize State.endPass _ _ = v at he hentry hstop
    obtain ⟨hax, hwh, hli⟩ := fittings_eq (s := s) he.fittings
    have hgrows : v.console.Grows v.genRestAll.reportState.console := v.genRestAll.reportState_grows
    have hafter := genRestAll_report v
    generalize v.genRestAll.reportState = t at hstop hgrows hafter
    obtain ⟨hctrl, hlog, hlink, hcheck, hfit⟩ := hafter
    obtain ⟨hax', hwh', hli'⟩ := fittings_eq hfit
    refine ⟨t, hstop, (congrArg Ctrl.state hctrl).trans he.state, (congrArg Ctrl.stopForm hctrl).trans he.stopForm, fun hp => ?_,
      hax'.trans hax, hlink.trans he.link, hli'.trans hli, hwh'.trans hwh, hcheck.trans he.check⟩
    obtain ⟨h1, h2, h3⟩ := he.pass hp
    rw [hctrl]
    exact ⟨h1, h2, hentry hp, (h3.later hlog hgrows).of_log rfl⟩

end Sys2Proof.Machine
end

/-! SUPPORT. Evaluation events that bring about no action (R130, R136, R139), and the output queue while it has room (R192 to R194). -/
section
namespace Sys2Proof.Machine

variable {s : State}

/-! ### What the release and the report change -/

/-- R141, R142: the release of detached axes and the report change the console, the generator's records and the detached sets alone. -/
theorem settleFaults_spec (s : State) (b : Bool) : ∃ c recs det,
    s.settleFaults b =
      { s with console := c, gen := { s.gen with recs := recs }, mon := { s.mon with detached := det } } := by
  have fold : ∀ (as : List Axis) (s : State), ∃ recs det,
      as.foldl State.releaseAxis s =
        { s with gen := { s.gen with recs := recs }, mon := { s.mon with detached := det } } := by
    intro as
    induction as with
    | nil => exact fun s => ⟨_, _, rfl⟩
    | cons a as ih =>
      intro s
      obtain ⟨recs, det, h⟩ := ih (s.releaseAxis a)
      rw [List.foldl_cons, h]
      obtain ⟨-, hr⟩ | ⟨-, hr⟩ := releaseAxis_cases s a <;> rw [hr] <;> exact ⟨_, _, rfl⟩
  obtain ⟨recs, det, h⟩ := fold allAxes s
  obtain ⟨c, hc, -⟩ := s.releaseAll.reportFaultsIf_spec (b || allAxes.any s.releasable)
  refine ⟨c, recs, det, ?_⟩
  rw [State.settleFaults, hc, State.releaseAll, h]

/-- R141: while a pass exists only the report is left of it. -/
theorem settleFaults_of_pass (h : s.ctrl.pass.isSome = true) (b : Bool) : s.settleFaults b = s.reportFaultsIf b := by
  have hno (a : Axis) : s.releasable a = false := by
    have : s.ctrl.pass.isNone = false := by simpa using h
    simp only [State.releasable, this, Bool.and_false, Bool.false_and]
  have hall : s.releaseAll = s := foldl_fixed _ s (fun a => by simp [State.releaseAxis, hno a]) _
  have hnone : allAxes.any s.releasable = false := by simp [hno]
  rw [State.settleFaults, hnone, hall, Bool.or_false]

/-! ### Evaluations -/

theorem evaluateOne_mon (stamp : Stamp) (r : Evaluated) (e : Evidence) :
    ∃ insts, (evaluateOne stamp r e).mon = { r.mon with insts := insts } := by
  unfold evaluateOne
  simp only
  split <;> exact ⟨_, rfl⟩

/-- R130: evaluations change the instances alone. -/
theorem evaluateAll_mon (mon : Mon) (stamp : Stamp) (es : List Evidence) :
    ∃ insts, (evaluateAll mon stamp es).mon = { mon with insts := insts } := by
  have fold : ∀ r : Evaluated, ∃ insts, (es.foldl (evaluateOne stamp) r).mon = { r.mon with insts := insts } := by
    induction es with
    | nil => exact fun r => ⟨_, rfl⟩
    | cons e es ih =>
      intro r
      obtain ⟨i1, h1⟩ := evaluateOne_mon stamp r e
      obtain ⟨i2, h2⟩ := ih (evaluateOne stamp r e)
      exact ⟨i2, by rw [List.foldl_cons, h2, h1]⟩
  exact fold { mon, activated := [], changed := false }

/-- R136: an instance is activated by a true evaluation of it. -/
theorem mem_evaluateAll_activated {mon : Mon} {stamp : Stamp} {es : List Evidence} {i : CondId}
    (h : i ∈ (evaluateAll mon stamp es).activated) : ∃ e ∈ es, e.id = i ∧ e.truth = true := by
  have fold : ∀ r : Evaluated, i ∈ (es.foldl (evaluateOne stamp) r).activated →
      i ∈ r.activated ∨ ∃ e ∈ es, e.id = i ∧ e.truth = true := by
    clear h
    induction es with
    | nil => exact fun r h => .inl h
    | cons e es ih =>
      intro r h
      obtain h | ⟨e', he, hi⟩ := ih (evaluateOne stamp r e) h
      · rw [evaluateOne] at h
        simp only at h
        split at h
        · exact .inl h
        · split at h
          · next ha =>
            obtain h | h := List.mem_append.mp h
            · exact .inl h
            · obtain rfl := List.mem_singleton.mp h
              simp only [activates, Bool.and_eq_true] at ha
              exact .inr ⟨e, by simp, rfl, ha.1.1⟩
          · exact .inl h
      · exact .inr ⟨e', by simp [he], hi⟩
  exact (fold _ h).resolve_left (by simp)

theorem hasAction_none {mon : Mon} {i : CondId} (h : inForce mon.settings[i] = none) (act : Action) :
    hasAction mon act i = false := by
  rw [hasAction, h]
  rfl

/-- R139: activated instances with no action in force bring about none. -/
theorem actOn_of_no_action {ids : List CondId} (h : ∀ i ∈ ids, inForce s.mon.settings[i] = none) (changed : Bool) :
    s.actOn ids changed = s.settleFaults changed := by
  have hno (act : Action) : ids.any (hasAction s.mon act) = false := by
    rw [List.any_eq_false]
    exact fun i hi => by simp [hasAction_none (h i hi)]
  have hhalt : ids.filter (hasAction s.mon .axisHalt) = [] := by
    rw [List.filter_eq_nil_iff]
    exact fun i hi => by simp [hasAction_none (h i hi)]
  simp [State.actOn, hhalt, hno]

/-- The state with the evaluations of one event recorded. -/
def State.recorded (s : State) (es : List Evidence) : State := { s with mon := (evaluateAll s.mon s.stampNow es).mon }

theorem recorded_settings (s : State) (es : List Evidence) : (s.recorded es).mon.settings = s.mon.settings := by
  obtain ⟨insts, h⟩ := evaluateAll_mon s.mon s.stampNow es
  exact (congrArg Mon.settings h :)

/-- R130, R139: an event whose activations have no action in force is recorded, and reported. -/
theorem evaluateEvent_of_activated (es : List Evidence)
    (h : ∀ i ∈ (evaluateAll s.mon s.stampNow es).activated, inForce s.mon.settings[i] = none) :
    s.evaluateEvent es = (s.recorded es).settleFaults (evaluateAll s.mon s.stampNow es).changed :=
  actOn_of_no_action (s := s.recorded es) (fun i hi => by rw [recorded_settings]; exact h i hi) _

theorem evaluateEvent_of_no_action (es : List Evidence)
    (h : ∀ e ∈ es, e.truth = true → inForce s.mon.settings[e.id] = none) :
    s.evaluateEvent es = (s.recorded es).settleFaults (evaluateAll s.mon s.stampNow es).changed :=
  evaluateEvent_of_activated es fun i hi => by
    obtain ⟨e, he, rfl, ht⟩ := mem_evaluateAll_activated hi
    exact h e he ht

/-- What such an event leaves: all but the console, the generator's records and the monitor unit. -/
theorem evaluateEvent_spec (es : List Evidence)
    (h : ∀ i ∈ (evaluateAll s.mon s.stampNow es).activated, inForce s.mon.settings[i] = none) :
    ∃ c recs det,
      s.evaluateEvent es =
        { s with
          console := c, gen := { s.gen with recs := recs }
          mon := { (evaluateAll s.mon s.stampNow es).mon with detached := det } } := by
  obtain ⟨c, recs, det, hs⟩ := settleFaults_spec (s.recorded es) (evaluateAll s.mon s.stampNow es).changed
  exact ⟨c, recs, det, (evaluateEvent_of_activated es h).trans hs⟩

/-- While a pass exists no axis is released either. -/
theorem evaluateEvent_of_pass (hp : s.ctrl.pass.isSome = true) (es : List Evidence)
    (h : ∀ e ∈ es, e.truth = true → inForce s.mon.settings[e.id] = none) :
    s.evaluateEvent es = (s.recorded es).reportFaultsIf (evaluateAll s.mon s.stampNow es).changed :=
  (evaluateEvent_of_no_action es h).trans (settleFaults_of_pass (s := s.recorded es) hp _)

/-! ### Room in the output queue -/

/-- No message is held, at most n wait, and k FRAME reports count as skipped. -/
structure Console.Roomy (n k : Nat) (c : Console) : Prop where
  held : c.held = []
  length : c.outQ.length ≤ n
  skipped : c.skipped = k

namespace Console.Roomy

variable {n k : Nat} {c : Console}

theorem mono {m : Nat} (h : c.Roomy n k) (hm : n ≤ m) : c.Roomy m k := ⟨h.held, h.length.trans hm, h.skipped⟩

theorem queueMessage (h : c.Roomy n k) (hn : n < 64) (m : Message) : (queueMessage c m).Roomy (n + 1) k := by
  rw [queueMessage_of_room h.held (Nat.lt_of_le_of_lt h.length hn)]
  refine ⟨h.held, ?_, h.skipped⟩
  rw [List.length_append]
  exact Nat.succ_le_succ h.length

theorem queueStateReport (h : c.Roomy n k) (hn : n < 64) (st : CtrlState) (kind : Option PassKind) (entry : Nat) :
    (queueStateReport c st kind entry).Roomy (n + 1) k := by
  unfold Machine.queueStateReport
  split
  · next q hq =>
    obtain ⟨before, old, new, after, h1, h2, -, -⟩ := Console.updateStateReport_some hq
    refine ⟨h.held, ?_, h.skipped⟩
    have := h.length
    simp only [h1, h2, List.length_append, List.length_cons] at this ⊢
    omega
  · split
    · next q hq =>
      rw [h.held] at hq
      cases hq
    · exact h.queueMessage hn _

theorem queueFaultReport (h : c.Roomy n k) (hn : n < 64) : (queueFaultReport c).Roomy (n + 1) k := by
  unfold Machine.queueFaultReport
  split
  · exact h.mono (Nat.le_succ n)
  · exact h.queueMessage hn _

theorem queueFrameReport (h : c.Roomy n 0) (hn : n < 48) (body : List Byte) : (queueFrameReport c body).Roomy (n + 1) 0 := by
  rw [Machine.queueFrameReport, if_pos (Nat.lt_of_le_of_lt h.length hn)]
  refine ⟨h.held, ?_, rfl⟩
  rw [List.length_append]
  exact Nat.succ_le_succ h.length

theorem reportFaultsIf {s : State} (h : s.console.Roomy n k) (hn : n < 64) (b : Bool) :
    (s.reportFaultsIf b).console.Roomy (n + 1) k := by
  cases b with
  | false => exact h.mono (Nat.le_succ n)
  | true => exact h.queueFaultReport hn

end Console.Roomy

end Sys2Proof.Machine
end

/-! SUPPORT. The start of a pass (R48, R74, R75, R149), and GO by state (R52, R56, R77). -/
section
namespace Sys2Proof.Machine

variable {s t u : State}

/-! ### The log at a pass start -/

/-- A log that records the same pass under the same number. -/
structure SamePass (l l' : PassLog) : Prop where
  counter : l'.counter = l.counter
  recording : l'.recording = l.recording

theorem SamePass.trans {l l' l'' : PassLog} (h : SamePass l l') (h' : SamePass l' l'') : SamePass l l'' :=
  ⟨h'.counter.trans h.counter, h'.recording.trans h.recording⟩

theorem writeRecord_samePass (l : PassLog) (r : FrameRec) : SamePass l (writeRecord l r) := by
  unfold writeRecord
  split <;> exact ⟨rfl, rfl⟩

theorem markShort_samePass (l : PassLog) : SamePass l (markShort l) := by
  unfold markShort
  split <;> exact ⟨rfl, rfl⟩

theorem stageFor_samePass (e : RunEntry) (n : Nat) (s : State) (b : Nat × Binding) :
    SamePass s.log (State.stageFor e n s b).log := by
  unfold State.stageFor
  simp only
  split
  · exact markShort_samePass s.log
  · exact ⟨rfl, rfl⟩

theorem stageKeys_samePass (s : State) (n : Nat) : SamePass s.log (s.stageKeys n).log := by
  have fold : ∀ (e : RunEntry) (bs : List (Nat × Binding)) (s : State),
      SamePass s.log (bs.foldl (State.stageFor e n) s).log := by
    intro e bs
    induction bs with
    | nil => exact fun s => ⟨rfl, rfl⟩
    | cons b bs ih => exact fun s => (stageFor_samePass e n s b).trans (ih _)
  unfold State.stageKeys
  split
  · exact ⟨rfl, rfl⟩
  · split
    · exact fold _ _ s
    · exact ⟨rfl, rfl⟩

theorem finishClosing_log (s : State) :
    s.finishClosing.log.counter = s.log.counter ∧ s.finishClosing.log.reference = s.log.reference := by
  unfold State.finishClosing
  split
  · obtain ⟨c, log, h, -, hl, -⟩ := s.finalizePass_spec _
    rw [h]
    exact ⟨hl.counter, hl.reference⟩
  · exact ⟨rfl, rfl⟩

theorem finalizePass_roomy {n k : Nat} (h : s.console.Roomy n k) (hn : n < 64) (o : PassOutcome) :
    (s.finalizePass o).console.Roomy (n + 1) k := by
  unfold State.finalizePass
  simp only
  split
  · exact h.mono (Nat.le_succ n)
  · exact h.queueMessage hn _

theorem finishClosing_roomy {n k : Nat} (h : s.console.Roomy n k) (hn : n < 64) :
    s.finishClosing.console.Roomy (n + 1) k := by
  unfold State.finishClosing
  split
  · exact finalizePass_roomy h hn _
  · exact h.mono (Nat.le_succ n)

/-- R149: a pass is compared only when it is a PLAY pass and a reference is set. -/
theorem openPass_heldSlot {l : PassLog} {kind : PassKind} (g : BitVec 32) (axes : Vector Bool 16)
    (h : kind = .capture ∨ l.reference = none) : (openPass l kind g axes).heldSlot = none := by
  have : (openPass l kind g axes).heldSlot = heldBy (settleComparison l kind g) := rfl
  rw [this]
  cases kind with
  | capture => rfl
  | play =>
    have hr := h.resolve_left (by simp)
    simp only [settleComparison, hr]
    rfl

/-- From s to t the log has begun a pass of a kind: only the console and the log change. -/
structure OpensPass (s t : State) (kind : PassKind) : Prop where
  same : t = { s with console := t.console, log := t.log }
  counter : t.log.counter = nextNumber s.log.counter
  recording : t.log.recording.isSome = true
  heldSlot : kind = .capture ∨ s.log.reference = none → t.log.heldSlot = none
  roomy : s.console.Roomy 41 0 → t.console.Roomy 42 0

theorem beginPass_opens (s : State) (kind : PassKind) : OpensPass s (s.beginPass kind) kind := by
  obtain ⟨hcounter, href⟩ := finishClosing_log s
  obtain ⟨c, log, hs⟩ := finishClosing_spec s
  refine ⟨?_, ?_, rfl, fun h => ?_, fun h => finishClosing_roomy h (by decide)⟩
  · simp only [State.beginPass, hs]
  · exact congrArg nextNumber hcounter
  · exact openPass_heldSlot _ _ (h.imp_right href.trans)

/-! ### The pass start -/

theorem beginCapture_spec (s : State) : ∃ gen, s.beginCapture = { s with gen := gen } := by
  simp only [State.beginCapture, State.mapGen]
  exact ⟨_, rfl⟩

theorem openCaptureStaging_spec (s : State) :
    ∃ st gen, s.beginCapture.openCaptureStaging = { s with store := st, gen := gen } := by
  obtain ⟨gen, hg⟩ := beginCapture_spec s
  rw [hg]
  unfold State.openCaptureStaging
  split <;> exact ⟨_, _, rfl⟩

theorem startCapture_spec (s : State) :
    ∃ st gen log, s.startCapture = { s with store := st, gen := gen, log := log } ∧ SamePass s.log log ∧
      (s.ctrl.pass = some .play → st = s.store ∧ gen = s.gen) := by
  unfold State.startCapture
  split
  · next hp =>
    obtain ⟨st, gen, ho⟩ := openCaptureStaging_spec s
    rw [ho]
    obtain ⟨st', log, hk, -⟩ := stageKeys_spec { s with store := st, gen := gen } 0
    have hsame := stageKeys_samePass { s with store := st, gen := gen } 0
    rw [hk] at hsame ⊢
    exact ⟨st', gen, log, rfl, hsame, fun h => by rw [hp] at h; cases h⟩
  · exact ⟨_, _, _, rfl, ⟨rfl, rfl⟩, fun _ => ⟨rfl, rfl⟩⟩

theorem recordFrame_roomy {n : Nat} (h : s.console.Roomy n 0) (hn : n < 48) (c : Crossing) (r : FrameRec) :
    (s.recordFrame c r).console.Roomy (n + 1) 0 := by
  unfold State.recordFrame State.reportFrame
  split
  · exact h.queueFrameReport hn _
  · exact h.mono (Nat.le_succ n)

/-- From s to t the pass start has gone, with no REPEAT action in force where a reference is held. -/
structure StartsPass (s t : State) : Prop where
  ctrl : t.ctrl = s.ctrl
  clock : t.clock = s.clock
  axes : t.axes = s.axes
  link : t.link = s.link
  check : t.check = s.check
  wheels : t.wheels = s.wheels
  pass : SamePass s.log t.log
  lines : t.lines = (s.fireCues 0).lines
  play : s.ctrl.pass = some .play → t.store = s.store ∧ t.gen = s.gen
  mon : s.log.heldSlot = none → t.mon = s.mon
  settings : t.mon.settings = s.mon.settings
  detached : t.mon.detached = s.mon.detached
  roomy : s.console.Roomy 43 0 → t.console.Roomy 45 0

/-- The pass start up to its REPEAT evaluations. -/
def State.passBegun (s : State) : State :=
  ((s.recordFrame (s.crossingAt 0) (State.frameRecord (s.crossingAt 0) s.startSample)).fireCues 0).startCapture

/-- R151, R153: the REPEAT evaluations of pass frame 0. -/
def State.startEvaluations (s : State) : List Evidence :=
  repeatEvaluations s.log s.mon (State.frameRecord (s.crossingAt 0) s.startSample)

theorem passStart_eq (s : State) : s.passStart = s.passBegun.evaluateEvent s.startEvaluations := rfl

theorem mem_repeatEvaluations {l : PassLog} {mon : Mon} {r : FrameRec} {e : Evidence} (h : e ∈ repeatEvaluations l mon r) :
    ∃ (a : Axis) (threshold dev : Nat), e = repeatEvidence a threshold dev := by
  unfold repeatEvaluations at h
  split at h
  · cases h
  · split at h
    · cases h
    · obtain ⟨a, -, ha⟩ := List.mem_filterMap.mp h
      obtain ⟨d, -, hd⟩ := Option.map_eq_some_iff.mp ha
      exact ⟨a, _, _, hd.symm⟩

theorem passBegun_starts (s : State) :
    ∃ c log st gen, s.passBegun =
        { s with console := c, log := log, lines := (s.fireCues 0).lines, store := st, gen := gen } ∧ SamePass s.log log ∧
      (s.ctrl.pass = some .play → st = s.store ∧ gen = s.gen) ∧ (s.console.Roomy 43 0 → c.Roomy 44 0) := by
  obtain ⟨d, hd⟩ := recordFrame_spec s (s.crossingAt 0) (State.frameRecord (s.crossingAt 0) s.startSample)
  have hroomy := fun h => recordFrame_roomy (s := s) (n := 43) h (by decide) (s.crossingAt 0)
    (State.frameRecord (s.crossingAt 0) s.startSample)
  have hfired : (s.recordFrame (s.crossingAt 0) (State.frameRecord (s.crossingAt 0) s.startSample)).fireCues 0 =
      { s with
        console := d, log := writeRecord s.log (State.frameRecord (s.crossingAt 0) s.startSample)
        lines := (s.fireCues 0).lines } := by
    rw [hd]
    unfold State.fireCues
    simp only
    split <;> rfl
  rw [hd] at hroomy
  obtain ⟨st, gen, log, hc, hsame, hplay⟩ := startCapture_spec
    { s with
      console := d, log := writeRecord s.log (State.frameRecord (s.crossingAt 0) s.startSample)
      lines := (s.fireCues 0).lines }
  refine ⟨d, log, st, gen, ?_, (writeRecord_samePass _ _).trans hsame, hplay, hroomy⟩
  rw [State.passBegun, hfired, hc]

theorem passStart_starts (hp : s.ctrl.pass.isSome = true)
    (hno : s.log.heldSlot = none ∨ ∀ a : Axis, inForce s.mon.settings[condOn .repeatDev a] = none) :
    StartsPass s s.passStart := by
  obtain ⟨c, log, st, gen, hb, hsame, hplay, hroomy⟩ := passBegun_starts s
  have hes : s.log.heldSlot = none → s.startEvaluations = [] := fun h => repeatEvaluations_nil h _ _
  have hcalm : ∀ e ∈ s.startEvaluations, e.truth = true → inForce s.mon.settings[e.id] = none := by
    intro e he _
    obtain hn | hn := hno
    · rw [hes hn] at he
      cases he
    · obtain ⟨a, _, _, rfl⟩ := mem_repeatEvaluations he
      exact hn a
  have hev : s.passStart = (s.passBegun.recorded s.startEvaluations).reportFaultsIf
      (evaluateAll s.passBegun.mon s.passBegun.stampNow s.startEvaluations).changed := by
    rw [passStart_eq]
    refine evaluateEvent_of_pass ?_ _ ?_ <;> rw [hb]
    · exact hp
    · exact hcalm
  have hsame_mon : s.log.heldSlot = none → s.passStart.mon = s.mon := fun h => by
    rw [passStart_eq, hes h, evaluateEvent_nil (by rw [hb]; exact hp), hb]
  obtain ⟨insts, hmon⟩ := evaluateAll_mon s.mon s.passBegun.stampNow s.startEvaluations
  have hrec : s.passBegun.recorded s.startEvaluations =
      { s with
        console := c, log := log, lines := (s.fireCues 0).lines, store := st, gen := gen
        mon := { s.mon with insts := insts } } := by
    rw [← hmon]
    simp only [State.recorded, hb]
  rw [hrec] at hev
  have hroom := fun h => Console.Roomy.reportFaultsIf
    (s := { s with
      console := c, log := log, lines := (s.fireCues 0).lines, store := st, gen := gen
      mon := { s.mon with insts := insts } }) (hroomy h) (by decide)
      (evaluateAll s.passBegun.mon s.passBegun.stampNow s.startEvaluations).changed
  obtain ⟨c', hreport, -⟩ := State.reportFaultsIf_spec
    { s with
      console := c, log := log, lines := (s.fireCues 0).lines, store := st, gen := gen
      mon := { s.mon with insts := insts } }
    (evaluateAll s.passBegun.mon s.passBegun.stampNow s.startEvaluations).changed
  rw [hreport] at hev hroom
  rw [hev] at hsame_mon ⊢
  exact ⟨rfl, rfl, rfl, rfl, rfl, rfl, hsame, rfl, hplay, hsame_mon, rfl, rfl, hroom⟩

/-! ### GO in ARMED -/

/-- R48: the place of the clock at GO from ARMED. -/
theorem startPassClock_fields (c : Clock) (e : RunEntry) :
    (startPassClock c e).time = e.startFrame * subframes ∧ (startPassClock c e).dir = entryDirection e ∧
      (startPassClock c e).travel = 0 ∧ (startPassClock c e).passFrame = 0 ∧ (startPassClock c e).rem = 0 ∧
      (startPassClock c e).budget = 0 ∧ (startPassClock c e).ramp = .none ∧ (startPassClock c e).lock = none := by
  unfold startPassClock
  split <;> exact ⟨rfl, rfl, rfl, rfl, rfl, rfl, rfl, rfl⟩

theorem targetSpeed_of_ne {cfg : ClockSettings} (e : RunEntry) (h : cfg.sync ≠ .follower) :
    targetSpeed cfg e = e.speed * 1000 := if_neg h

/-- R48: but in FOLLOWER mode the clock advances at once, at the entry's target. -/
theorem startPassClock_advancing {c : Clock} (e : RunEntry) (h : c.cfg.sync ≠ .follower) :
    (startPassClock c e).state = .advancing ∧ (startPassClock c e).speed = e.speed * 1000 := by
  obtain ⟨-, hstate, hspeed⟩ | ⟨hf, -⟩ := startPassClock_start c e
  · exact ⟨hstate, hspeed.trans (targetSpeed_of_ne e h)⟩
  · exact absurd hf h

theorem startPassClock_master {c : Clock} (e : RunEntry) (h : c.cfg.sync = .master) :
    (startPassClock c e).trigger = some c.cfg.trigWidth := by
  simp only [startPassClock, h]

theorem startPassClock_follower {c : Clock} (e : RunEntry) (h : c.cfg.sync = .follower) :
    (startPassClock c e).state = .waiting ∧ (startPassClock c e).speed = 0 ∧
      (startPassClock c e).lostTimer = some (lostTime c.cfg) := by
  simp only [startPassClock, h, and_self]

/-- The run controller's record when a pass of a kind begins. -/
def begunCtrl (c : Ctrl) (kind : PassKind) : Ctrl :=
  { c with entry := 1, landing := false, pass := some kind, state := .running, stopForm := none }

/-- The rig's lines when the cues of pass frame 0 of a pass have fired. -/
def firedLines (l : Lines) (kind : PassKind) : Lines := { l with lines := (cuesAt l.cues 0 kind).foldl fireCue l.lines }

theorem fireCues_lines {kind : PassKind} (h : s.ctrl.pass = some kind) : (s.fireCues 0).lines = firedLines s.lines kind := by
  simp only [State.fireCues, h]
  rfl

/-- From s to t a pass of a kind has begun in entry e. -/
structure BeginsPass (s t : State) (e : RunEntry) (kind : PassKind) : Prop where
  ctrl : t.ctrl = begunCtrl s.ctrl kind
  clock : t.clock = startPassClock s.clock e
  axes : t.axes = s.axes
  link : t.link = s.link
  check : t.check = s.check
  wheels : t.wheels = s.wheels
  counter : t.log.counter = nextNumber s.log.counter
  recording : t.log.recording.isSome = true
  lines : t.lines = if s.clock.cfg.sync = .follower then s.lines else firedLines s.lines kind
  play : kind = .play → t.store = s.store ∧ t.gen = s.gen
  mon : kind = .capture ∨ s.clock.cfg.sync = .follower ∨ s.log.reference = none → t.mon = s.mon
  settings : t.mon.settings = s.mon.settings
  detached : t.mon.detached = s.mon.detached
  roomy : s.console.Roomy 41 0 → t.console.Roomy 45 0

/-- The log, the clock and the controller begin a pass; the pass start is still to come. -/
def State.passOpened (s : State) (e : RunEntry) (kind : PassKind) (c : Console) (log : PassLog) : State :=
  { s with ctrl := begunCtrl s.ctrl kind, clock := startPassClock s.clock e, console := c, log := log }

theorem startPass_opened (e : RunEntry) :
    ∃ c log, (s.startPass e =
        if s.clock.cfg.sync = .follower then s.passOpened e s.purposeKind c log
        else (s.passOpened e s.purposeKind c log).passStart) ∧
      log.counter = nextNumber s.log.counter ∧ log.recording.isSome = true ∧
      (s.purposeKind = .capture ∨ s.log.reference = none → log.heldSlot = none) ∧
      (s.console.Roomy 41 0 → c.Roomy 43 0) := by
  have ho := beginPass_opens
    { s with ctrl := { s.ctrl with entry := 1, landing := false, pass := some s.purposeKind } } s.purposeKind
  obtain ⟨hsame, hcounter, hrec, hheld, hroomy⟩ := ho
  simp only [State.startPass]
  generalize State.beginPass _ s.purposeKind = u at hsame hcounter hrec hheld hroomy ⊢
  have hcfg : (({ u with clock := startPassClock u.clock e } : State).enter .running).clock.cfg = s.clock.cfg := by
    rw [hsame]
    exact startPassClock_cfg s.clock e
  have hopened : (({ u with clock := startPassClock u.clock e } : State).enter .running) =
      s.passOpened e s.purposeKind (queueStateReport u.console .running (some s.purposeKind) 1) u.log := by
    rw [hsame]
    rfl
  rw [hcfg, hopened]
  exact ⟨_, u.log, rfl, hcounter, hrec, hheld, fun h => (hroomy h).queueStateReport (by decide) _ _ _⟩

theorem startPass_begins {e : RunEntry} {kind : PassKind} (hk : s.purposeKind = kind)
    (hno : kind = .play → s.clock.cfg.sync ≠ .follower → s.log.reference ≠ none →
      ∀ a : Axis, inForce s.mon.settings[condOn .repeatDev a] = none) : BeginsPass s (s.startPass e) e kind := by
  obtain ⟨c, log, heq, hcounter, hrec, hheld, hroomy⟩ := startPass_opened (s := s) e
  rw [hk] at heq hheld
  rw [heq]
  by_cases hf : s.clock.cfg.sync = .follower
  · rw [if_pos hf]
    exact ⟨rfl, rfl, rfl, rfl, rfl, rfl, hcounter, hrec, (if_pos hf).symm, fun _ => ⟨rfl, rfl⟩, fun _ => rfl, rfl, rfl,
      fun h => (hroomy h).mono (by decide)⟩
  · rw [if_neg hf]
    have hcalm : (s.passOpened e kind c log).log.heldSlot = none ∨
        ∀ a : Axis, inForce (s.passOpened e kind c log).mon.settings[condOn .repeatDev a] = none := by
      by_cases hr : s.log.reference = none
      · exact .inl (hheld (.inr hr))
      · cases kind with
        | capture => exact .inl (hheld (.inl rfl))
        | play => exact .inr (hno rfl hf hr)
    have hs := passStart_starts (s := s.passOpened e kind c log) rfl hcalm
    generalize State.passStart _ = t at hs ⊢
    refine ⟨hs.ctrl, hs.clock, hs.axes, hs.link, hs.check, hs.wheels, hs.pass.counter.trans hcounter, ?_, ?_, fun h => ?_,
      fun h => hs.mon (hheld (h.imp_right fun h => h.resolve_left hf)), hs.settings, hs.detached, fun h => hs.roomy (hroomy h)⟩
    · rw [hs.pass.recording]
      exact hrec
    · rw [hs.lines, if_neg hf]
      exact fireCues_lines rfl
    · exact hs.play (congrArg some h)

/-! ### GO elsewhere -/

theorem go_eq (tag : Byte) : go tag [] s = need .wrongState (s.takeGo fun t => t.reply Kind.go tag .ok []) := rfl

theorem go_accepted {tag : Byte} (h : s.takeGo (fun t => t.reply Kind.go tag .ok []) = some t) :
    exec (.go tag []) s = .next t :=
  conclude_of_accepted (kind := Kind.go) (tag := tag) (by rw [go_eq, h]; rfl)

theorem go_refused {tag : Byte} (h : s.takeGo (fun t => t.reply Kind.go tag .ok []) = none) :
    exec (.go tag []) s = .next (s.reply Kind.go tag .wrongState []) :=
  conclude_of_refused (kind := Kind.go) (tag := tag) (by rw [go_eq, h]; rfl)

/-- R194: the output queue after GO's reply, the skipped count being 0. -/
theorem goReply_roomy (tag : Byte) (hh : s.console.held = []) (hl : s.console.outQ.length ≤ 40) :
    (s.reply Kind.go tag .ok []).clearSkipped.console.Roomy 41 0 := by
  have h : s.console.Roomy 40 s.console.skipped := ⟨hh, hl, rfl⟩
  obtain ⟨h1, h2, -⟩ := h.queueMessage (by decide) (.reply (Kind.go ||| 0x80#8) tag [statusCode .ok])
  exact ⟨h1, h2, rfl⟩

theorem takeGo_resumes {e : RunEntry} (he : s.currentEntry? = some e)
    (h : s.ctrl.state = .holding ∨ (s.ctrl.state = .held ∧ s.ctrl.ret = none ∧ s.ctrl.landing = false)) (ok : State → State) :
    s.takeGo ok = some ((ok s).clearSkipped.resumePass e) := by
  obtain h | ⟨h, hr, hl⟩ := h
  · simp only [State.takeGo, h, he, Option.map_some]
  · simp only [State.takeGo, h, he, hr, hl, Option.map_some, Option.isSome_none, Bool.false_eq_true, if_false]

theorem takeGo_next {e : RunEntry} (he : s.runEntry? (s.ctrl.entry + 1) = some e) (h : s.ctrl.state = .held)
    (hr : s.ctrl.ret = none) (hl : s.ctrl.landing = true) (ok : State → State) :
    s.takeGo ok = some ((ok s).clearSkipped.nextEntry e) := by
  simp only [State.takeGo, h, he, hr, hl, Option.map_some, Option.isSome_none, Bool.false_eq_true, if_false, if_true]

theorem takeGo_none (h : (s.ctrl.state ≠ .armed ∧ s.ctrl.state ≠ .holding ∧ s.ctrl.state ≠ .held) ∨
    (s.ctrl.state = .held ∧ s.ctrl.ret.isSome = true)) (ok : State → State) : s.takeGo ok = none := by
  obtain ⟨h1, h2, h3⟩ | ⟨h, hr⟩ := h
  · unfold State.takeGo
    split
    · next h => exact absurd h h1
    · next h => exact absurd h h2
    · next h => exact absurd h h3
    · rfl
  · simp only [State.takeGo, h, hr, if_true]

/-- R56: the place of the clock at GO after a landing. -/
theorem startEntryClock_fields (c : Clock) (e : RunEntry) :
    (startEntryClock c e).time = e.startFrame * subframes ∧ (startEntryClock c e).dir = entryDirection e ∧
      (startEntryClock c e).rem = 0 ∧ (startEntryClock c e).speed = 0 ∧ (startEntryClock c e).travel = c.travel ∧
      (startEntryClock c e).passFrame = c.passFrame := by
  unfold startEntryClock
  split <;> exact ⟨rfl, rfl, rfl, rfl, rfl, rfl⟩

theorem startEntryClock_advancing {c : Clock} (e : RunEntry) (h : c.cfg.sync ≠ .follower) :
    (startEntryClock c e).state = .advancing ∧
      (startEntryClock c e).ramp = .up (e.speed * 1000) (ceilDiv (e.speed * 1000) c.cfg.resumeRamp) := by
  rw [← targetSpeed_of_ne e h]
  exact ((startEntryClock_start c e).resolve_right fun hf => h hf.1).2

theorem startEntryClock_follower {c : Clock} (e : RunEntry) (h : c.cfg.sync = .follower) :
    (startEntryClock c e).state = .waiting ∧ (startEntryClock c e).ramp = .none :=
  ((startEntryClock_start c e).resolve_left fun hf => hf.1 h).2

theorem go_begins {e : RunEntry} {es : List RunEntry} {kind : PassKind} (tag : Byte) (hs : s.ctrl.state = .armed)
    (hr : s.ctrl.runList = e :: es) (hk : s.ctrl.purpose = some (.arm kind))
    (hno : kind = .play → s.clock.cfg.sync ≠ .follower → s.log.reference ≠ none →
      ∀ a : Axis, inForce s.mon.settings[condOn .repeatDev a] = none) :
    ∃ t, exec (.go tag []) s = .next t ∧ BeginsPass (s.reply Kind.go tag .ok []).clearSkipped t e kind := by
  refine ⟨_, exec_go_armed tag hs hr, startPass_begins ?_ hno⟩
  have : (s.reply Kind.go tag .ok []).clearSkipped.ctrl.purpose = some (.arm kind) := hk
  simp only [State.purposeKind, this]

/-- Settles O23: GO from ARMED, from HOLDING and HELD, and its refusals. -/
theorem goBeginsAndResumesThePass : Obligations.GoBeginsAndResumesThePass := by
  unfold Obligations.GoBeginsAndResumesThePass
  refine ⟨fun tag s e es kind hs hr hk hno => ?_, fun tag s => ⟨fun e he hst => ?_, fun e he hst hret hl => ?_, fun hst => ?_⟩⟩
  · obtain ⟨t, ht, hb⟩ := go_begins tag hs hr hk hno
    obtain ⟨h1, h2, h3, h4, h5, h6, h7, h8⟩ := startPassClock_fields s.clock e
    have hclock : t.clock = startPassClock s.clock e := hb.clock
    have hctrl : t.ctrl = begunCtrl s.ctrl kind := hb.ctrl
    have hlines : t.lines = if s.clock.cfg.sync = .follower then s.lines else firedLines s.lines kind := hb.lines
    refine ⟨t, ht, ?_⟩
    rw [hclock, hctrl]
    refine ⟨rfl, rfl, rfl, rfl, rfl, h1, h2, h3, h4, h5, h6, h7, h8, startPassClock_cfg _ e, startPassClock_advancing e,
      startPassClock_master e, startPassClock_follower e, hb.counter, hb.recording, hb.axes, hb.link, hb.check, hb.wheels, hb.mon,
      hb.settings, hb.detached, fun hh hq => (hb.roomy (goReply_roomy tag hh hq)).skipped, ?_, fun l => ?_, hb.play⟩ <;> rw [hlines]
    · split <;> rfl
    · split
      · rfl
      · exact foldl_fireCue _ _ _ _ _
  · refine ⟨_, go_accepted (takeGo_resumes he hst _), rfl, rfl, fun hh hq => ?_, rfl⟩
    exact ((goReply_roomy tag hh hq).queueStateReport (by decide) _ _ _).skipped
  · obtain ⟨h1, h2, h3, h4, h5, h6⟩ := startEntryClock_fields s.clock e
    refine ⟨_, go_accepted (takeGo_next he hst hret hl _), rfl, h1, h2, h3, h4, h5, h6, startEntryClock_advancing e,
      startEntryClock_follower e, fun hh hq => ?_, rfl⟩
    exact ((goReply_roomy tag hh hq).queueStateReport (by decide) _ _ _).skipped
  · exact go_refused (takeGo_none hst _)

end Sys2Proof.Machine
end

/-! SUPPORT. Latches stay through what an evaluation event brings about (R137 to R139): only CLEAR_FAULTS and the resets unlatch. -/
section
namespace Sys2Proof.Machine

variable {s t u : State}

/-- From s to t every instance keeps its latch. -/
def KeepsLatches (s t : State) : Prop := ∀ i : CondId, (t.mon.insts[i]).latched = (s.mon.insts[i]).latched

namespace KeepsLatches

theorem of_insts (h : t.mon.insts = s.mon.insts) : KeepsLatches s t := fun i => by rw [h]

theorem refl (s : State) : KeepsLatches s s := fun _ => rfl

theorem trans (h : KeepsLatches s t) (h' : KeepsLatches t u) : KeepsLatches s u := fun i => (h' i).trans (h i)

/-- R137: instances that pass out of evaluation keep their latches. -/
theorem of_passOut {ids : List CondId} (h : t.mon.insts = (passOut s.mon ids).insts) : KeepsLatches s t := fun i => by
  rw [h, passOut_inst]
  split <;> rfl

theorem foldl {α : Type} {f : State → α → State} (h : ∀ s x, KeepsLatches s (f s x)) (xs : List α) :
    ∀ s, KeepsLatches s (xs.foldl f s) := by
  induction xs with
  | nil => exact refl
  | cons x xs ih => exact fun s => (h s x).trans (ih _)

end KeepsLatches

open KeepsLatches (of_insts of_passOut)

theorem settleFaults_latches (s : State) (b : Bool) : KeepsLatches s (s.settleFaults b) := of_insts (s.settleFaults_insts b)

theorem reportState_latches (s : State) : KeepsLatches s s.reportState := of_insts rfl

theorem endPassAfterLog_insts (s : State) (kind : PassKind) (keep : Bool) :
    (s.endPassAfterLog kind keep).mon.insts = (passOut (s.endCapture kind keep).mon passEndConds).insts := by
  rw [State.endPassAfterLog, State.passOutConds_insts]
  generalize s.endCapture kind keep = u
  rfl

theorem endPass_latches (s : State) (o : PassOutcome) : KeepsLatches s (s.endPass o) := by
  cases hk : s.ctrl.pass with
  | none =>
    rw [endPass_of_none o hk]
    exact .refl s
  | some kind =>
    obtain ⟨c, log, hclose, -, -⟩ := closePass_spec s o
    simp only [State.endPass, hk, hclose]
    have hmon : (State.endCapture { s with console := c, log := log } kind (!(o = .faulted))).mon = s.mon := by
      cases kind with
      | play => rfl
      | capture => simp [State.endCapture]
    refine of_passOut (ids := passEndConds) ?_
    rw [endPassAfterLog_insts, hmon]

theorem withCtrl_endPass_latches (s : State) (cs : CtrlState) (form : Option StopForm) (o : PassOutcome) :
    KeepsLatches s ((s.withCtrl cs form).endPass o).reportState :=
  (endPass_latches (s.withCtrl cs form) o).trans (reportState_latches _)

theorem cancelCheck_latches (s : State) : KeepsLatches s s.cancelCheck := by
  obtain ⟨c, check, n, h, -⟩ := cancelCheck_spec s
  rw [h]
  exact of_insts rfl

theorem genRestAll_latches (s : State) : KeepsLatches s s.genRestAll := of_insts (congrArg Mon.insts s.genRestAll_mon)

theorem endPass_rest_latches (h : KeepsLatches s t) (o : PassOutcome) :
    KeepsLatches s (t.endPass o).genRestAll.reportState :=
  h.trans ((endPass_latches t o).trans ((genRestAll_latches _).trans (reportState_latches _)))

theorem takeAtRest_latches (s : State) : KeepsLatches s s.takeAtRest := by
  unfold State.takeAtRest
  split
  · exact of_insts rfl
  · exact withCtrl_endPass_latches { s with clock := stopClock s.clock } _ _ _
  · exact withCtrl_endPass_latches { s with clock := stopClock s.clock } _ _ _
  · exact .refl s

theorem atRestIfStill_latches (s : State) : KeepsLatches s s.atRestIfStill := by
  unfold State.atRestIfStill
  split
  · exact takeAtRest_latches s
  · exact .refl s

theorem faultRampStop_latches (s : State) : KeepsLatches s s.faultRampStop := by
  have h : KeepsLatches s
      (({ s with clock := startFaultRamp s.clock } : State).genEndFollowing.enterStop .faultStopping .path) :=
    of_insts (by simp)
  exact h.trans (atRestIfStill_latches _)

theorem pathStop_latches (s : State) : KeepsLatches s s.pathStop := by
  unfold State.pathStop
  split
  case h_3 => exact (cancelCheck_latches s).trans (of_insts rfl)
  case h_4 => exact (genRestAll_latches { s with ctrl := { s.ctrl with inPos := 0 } }).trans (of_insts rfl)
  case h_5 =>
    split
    · exact faultRampStop_latches s
    · exact withCtrl_endPass_latches s _ _ _
  case h_6 => exact faultRampStop_latches s
  case h_7 => exact withCtrl_endPass_latches s _ _ _
  case h_10 =>
    split
    · exact of_insts rfl
    · exact faultRampStop_latches s
  case h_11 =>
    split
    · exact .refl s
    · exact atRestIfStill_latches { s with clock := startFaultRamp s.clock }
  case h_12 => exact .refl s
  case h_1 => exact of_insts rfl
  case h_2 => exact of_insts rfl
  all_goals exact endPass_rest_latches (of_insts rfl) _

theorem controllerDriveOff_latches (s : State) : KeepsLatches s s.controllerDriveOff := by
  unfold State.controllerDriveOff
  split
  · exact .refl s
  · have h1 : KeepsLatches s ({ s with clock := stopClock s.clock } : State).cancelCheck :=
      cancelCheck_latches { s with clock := stopClock s.clock }
    generalize State.cancelCheck _ = u at h1 ⊢
    exact h1.trans ((endPass_latches (u.withCtrl .faulted none) .faulted).trans (of_insts (by simp)))

theorem genDriveLeft_mon (s : State) (a : Axis) : (s.genDriveLeft a).mon = s.mon := by
  unfold State.genDriveLeft
  simp only
  split <;> rfl

theorem turnOffAxis_latches (s : State) (a : Axis) : KeepsLatches s (s.turnOffAxis a) := by
  unfold State.turnOffAxis
  split
  · exact .refl s
  · exact of_insts rfl
  · refine of_passOut (ids := [condOn .follow a]) ?_
    simp only [genDriveLeft_mon]
    rfl

theorem driveLeftOn_latches (s : State) : KeepsLatches s s.driveLeftOn := by
  unfold State.driveLeftOn
  split
  · exact of_insts rfl
  · exact withCtrl_endPass_latches s _ _ _
  · split
    · exact endPass_latches s _
    · exact .refl s
  · exact .refl s

theorem turnOff_latches (s : State) (axes : List Axis) : KeepsLatches s (s.turnOff axes) := by
  refine KeepsLatches.trans ?_ (settleFaults_latches _ _)
  have h := KeepsLatches.foldl turnOffAxis_latches axes s
  split
  · exact h
  · exact h.trans (driveLeftOn_latches _)

theorem linkDriveOff_latches (s : State) : KeepsLatches s s.linkDriveOff := by
  obtain ⟨c, period, h⟩ := (s.turnOff allAxes).abortQueue_spec fun _ => true
  rw [State.linkDriveOff, h]
  exact (turnOff_latches s allAxes).trans (of_insts rfl)

theorem detach_latches (s : State) (i : CondId) : KeepsLatches s (s.detach i) := by
  unfold State.detach
  simp only
  split <;> exact of_insts rfl

/-- R139: no action unlatches. -/
theorem actOn_latches (s : State) (ids : List CondId) (changed : Bool) : KeepsLatches s (s.actOn ids changed) := by
  unfold State.actOn
  simp only
  generalize ids.filter (hasAction s.mon .axisHalt) = halts
  have h1 := KeepsLatches.foldl detach_latches halts s
  refine KeepsLatches.trans ?_ (settleFaults_latches _ _)
  have h2 : KeepsLatches s (if (!halts.isEmpty && (halts.foldl State.detach s).ctrl.state = .armed) = true then
      (halts.foldl State.detach s).abandonArm else halts.foldl State.detach s) := by
    split
    · exact h1.trans (of_insts rfl)
    · exact h1
  split
  · exact h2.trans ((controllerDriveOff_latches _).trans (linkDriveOff_latches _))
  · split
    · exact h2.trans (pathStop_latches _)
    · exact h2

end Sys2Proof.Machine
end

/-! SUPPORT. The camera (R59 to R62, R135, R184): what a pulse and the expiry of the camera-lost timer do to the clock and to
CAMERA_LOST. -/
section
namespace Sys2Proof.Machine

variable {s t : State}

/-! ### One evaluation -/

/-- R136: an evaluation counts the runs, whatever it activates or deactivates. -/
theorem evaluateInst_runs (m : Monitor) (stamp : Stamp) (i : CondInst) (e : Evidence) :
    (evaluateInst m stamp i e).last = (countRun i e.truth).last ∧
      (evaluateInst m stamp i e).trueRun = (countRun i e.truth).trueRun ∧
      (evaluateInst m stamp i e).falseRun = (countRun i e.truth).falseRun := by
  unfold evaluateInst
  simp only
  split
  · exact ⟨rfl, rfl, rfl⟩
  · split <;> exact ⟨rfl, rfl, rfl⟩

theorem countRun_true (i : CondInst) :
    countRun i true = { i with trueRun := min 16 (i.trueRun + 1), falseRun := 0, last := true } := rfl

theorem countRun_false (i : CondInst) :
    countRun i false = { i with falseRun := min 16 (i.falseRun + 1), trueRun := 0, last := false } := rfl

/-- R136: with a deglitch of 1 at most a true evaluation leaves its instance active. -/
theorem evaluateInst_active {m : Monitor} {e : Evidence} (stamp : Stamp) (i : CondInst) (ht : e.truth = true)
    (hd : m.deglitch ≤ 1) : (evaluateInst m stamp i e).active = true := by
  have hrun : m.deglitch ≤ (countRun i e.truth).trueRun := by
    rw [ht, countRun_true]
    exact hd.trans (Nat.le_min.mpr ⟨by decide, Nat.le_add_left 1 _⟩)
  simp only [evaluateInst, activates, deactivates, ht] at hrun ⊢
  cases hi : i.active with
  | true => simp [hi]
  | false => simp [hi, hrun]

/-- R138: at its activation in mode LATCHED an instance latches with its monitor's action. -/
theorem evaluateInst_latched {m : Monitor} {e : Evidence} {i : CondInst} (stamp : Stamp)
    (ha : activates m (countRun i e.truth) e = true) (hm : m.mode = .latched) :
    (evaluateInst m stamp i e).latched = some m.action := by
  simp only [evaluateInst, ha, if_true, hm]

/-- R130: one evaluation evaluates its instance. -/
theorem evaluateAll_single {mon : Mon} {e : Evidence} (stamp : Stamp) (hm : (mon.settings[e.id]).mode ≠ .off) :
    (evaluateAll mon stamp [e]).mon.insts[e.id] = evaluateInst mon.settings[e.id] stamp mon.insts[e.id] e := by
  simp only [evaluateAll, List.foldl_cons, List.foldl_nil, evaluateOne, if_neg hm]
  exact put_get_same ..

theorem evaluateAll_not_activated {mon : Mon} {e : Evidence} (stamp : Stamp)
    (h : activates mon.settings[e.id] (countRun mon.insts[e.id] e.truth) e = false) :
    (evaluateAll mon stamp [e]).activated = [] := by
  simp only [evaluateAll, List.foldl_cons, List.foldl_nil, evaluateOne, h]
  split <;> rfl

/-! ### The expiry of the camera-lost timer -/

theorem lossDue_of_le {n : Nat} (h : s.clock.lostTimer = some n) (hn : n ≤ s.clock.period) : s.lossDue = true := by
  simp only [State.lossDue, h, decide_eq_true hn]

theorem lossDue_of_lt (h : ∀ n ∈ s.clock.lostTimer, s.clock.period < n) : s.lossDue = false := by
  unfold State.lossDue
  split
  · next n hn => exact decide_eq_false (Nat.not_le.mpr (h n hn))
  · rfl

theorem cameraLostExpiry_eq : exec .cameraLostExpiry s = .next (if s.lossDue then s.cameraLost else s) := rfl

/-- The state in which the expiry evaluates CAMERA_LOST. -/
def State.cameraGone (s : State) : State := { s with clock := loseCamera s.clock }

theorem cameraLost_eq (s : State) : s.cameraLost = s.cameraGone.evaluateEvent [cameraLostEvidence true] := rfl

/-- R135, R136: where CAMERA_LOST has no action in force, stands active, or has not run long enough, its evaluation brings about no
action. -/
theorem cameraLost_no_action
    (h : (s.mon.settings[cameraLostCond]).mode = .reportOnly ∨ (s.mon.settings[cameraLostCond]).mode = .off ∨
      (s.mon.insts[cameraLostCond]).active = true ∨
      (s.mon.insts[cameraLostCond]).trueRun + 1 < (s.mon.settings[cameraLostCond]).deglitch) (stamp : Stamp) :
    ∀ i ∈ (evaluateAll s.mon stamp [cameraLostEvidence true]).activated, inForce s.mon.settings[i] = none := by
  have quiet : activates s.mon.settings[cameraLostCond] (countRun s.mon.insts[cameraLostCond] true) (cameraLostEvidence true) = false →
      ∀ i ∈ (evaluateAll s.mon stamp [cameraLostEvidence true]).activated, inForce s.mon.settings[i] = none := fun ha i hi => by
    rw [evaluateAll_not_activated (e := cameraLostEvidence true) stamp ha] at hi
    cases hi
  have unforced : inForce s.mon.settings[cameraLostCond] = none →
      ∀ i ∈ (evaluateAll s.mon stamp [cameraLostEvidence true]).activated, inForce s.mon.settings[i] = none := fun hn i hi => by
    obtain ⟨e, he, rfl, -⟩ := mem_evaluateAll_activated hi
    obtain rfl := List.mem_singleton.mp he
    exact hn
  obtain h | h | h | h := h
  · exact unforced (by rw [inForce, h])
  · exact unforced (by rw [inForce, h])
  · refine quiet ?_
    rw [countRun_true]
    simp only [activates, h, Bool.not_true, Bool.and_false, Bool.false_and]
  · refine quiet ?_
    have hrun : ¬(s.mon.settings[cameraLostCond]).deglitch ≤ min 16 ((s.mon.insts[cameraLostCond]).trueRun + 1) := fun hle => by
      have := Nat.min_le_right 16 ((s.mon.insts[cameraLostCond]).trueRun + 1)
      omega
    rw [countRun_true]
    simp only [activates, cameraLostEvidence, decide_eq_false hrun, Bool.or_self, Bool.and_false]

/-! ### Pulses -/

/-- The state in which the clock takes a pulse: L0's pin is high, and its edge detector waits for a low sample. -/
def State.pulsed (s : State) : State :=
  { s with lines := { s.lines with pins := s.lines.pins ||| 1#12, edgeArmed := false } }

theorem cameraPulse_pulse (h : s.isPulse = true) : exec .cameraPulse s = .next s.pulsed.takePulse := by
  have : exec .cameraPulse s = .next s.cameraRise := rfl
  rw [this, State.cameraRise, h]
  rfl

theorem cameraPulse_unarmed (h : s.isPulse = false) :
    exec .cameraPulse s = .next { s with lines := { s.lines with pins := s.lines.pins ||| 1#12 } } := by
  have : exec .cameraPulse s = .next s.cameraRise := rfl
  rw [this, State.cameraRise, h]
  rfl

theorem takePulse_waiting (h : s.clock.state = .waiting) : s.takePulse = s.endLoss.startAtPulse := by
  simp only [State.takePulse, h]

theorem takePulse_locked {l : Lock} (h : s.clock.state = .advancing) (hl : s.clock.lock = some l) :
    s.takePulse = ({ s with clock := pulseLock s.clock l } : State).evaluateEvent
      (s.slipEvaluations (phaseError (l.pulses + 1) l.base s.clock.travel)) := by
  simp only [State.takePulse, h, hl]

theorem takePulse_unlocked (h : s.clock.state = .advancing) (hl : s.clock.lock = none)
    (hr : ∀ k d, s.clock.ramp ≠ .down k d) :
    s.takePulse = { s.endLoss with clock := formLock s.endLoss.clock } := by
  unfold State.takePulse
  rw [h, hl]
  cases hramp : s.clock.ramp with
  | none => rfl
  | up t d => rfl
  | down k d => exact absurd hramp (hr k d)

theorem takePulse_ignored (h : s.clock.state = .stopped ∨ s.clock.state = .atRest ∨
    (s.clock.state = .advancing ∧ s.clock.lock = none ∧ ∃ k d, s.clock.ramp = .down k d)) : s.takePulse = s := by
  obtain h | h | ⟨h, hl, k, d, hr⟩ := h
  · simp only [State.takePulse, h]
  · simp only [State.takePulse, h]
  · simp only [State.takePulse, h, hl, hr]

/-- R135: no evaluation of a pulse inside the slip threshold is true. -/
theorem slipEvaluations_calm {eps : Int} (h : eps.natAbs ≤ (s.mon.settings[cameraSlipCond]).threshold) :
    ∀ e ∈ s.slipEvaluations eps, e.truth = false := by
  intro e he
  obtain rfl | he := List.mem_cons.mp he
  · exact decide_eq_false (Nat.not_lt.mpr h)
  · split at he
    · cases he
    · obtain rfl := List.mem_singleton.mp he
      rfl

theorem evaluateEvent_calm (es : List Evidence) (h : ∀ e ∈ es, e.truth = false) :
    ∃ c recs det,
      s.evaluateEvent es =
        { s with
          console := c, gen := { s.gen with recs := recs }
          mon := { (evaluateAll s.mon s.stampNow es).mon with detached := det } } :=
  evaluateEvent_spec es fun i hi => by
    obtain ⟨e, he, -, ht⟩ := mem_evaluateAll_activated hi
    rw [h e he] at ht
    cases ht

/-- R61, R135: what the pulse after a loss leaves. -/
theorem endLoss_spec (s : State) : ∃ c gen mon,
    s.endLoss = { s with console := c, gen := gen, mon := mon } ∧ (s.clock.lost = false → mon = s.mon) ∧
      (s.clock.lost = true → (s.mon.settings[cameraLostCond]).mode ≠ .off →
        (mon.insts[cameraLostCond]).last = false ∧ (mon.insts[cameraLostCond]).trueRun = 0 ∧
          (mon.insts[cameraLostCond]).falseRun = min 16 ((s.mon.insts[cameraLostCond]).falseRun + 1)) := by
  unfold State.endLoss
  split
  · next hlost =>
    obtain ⟨c, recs, det, h⟩ := evaluateEvent_calm (s := s) [cameraLostEvidence false] (by simp [cameraLostEvidence])
    refine ⟨c, _, _, h, fun hn => absurd hlost (by simp [hn]), fun _ hm => ?_⟩
    have hinst := evaluateAll_single (mon := s.mon) (e := cameraLostEvidence false) s.stampNow hm
    obtain ⟨h1, h2, h3⟩ := evaluateInst_runs s.mon.settings[cameraLostCond] s.stampNow s.mon.insts[cameraLostCond]
      (cameraLostEvidence false)
    have hget : ({ (evaluateAll s.mon s.stampNow [cameraLostEvidence false]).mon with detached := det } : Mon).insts[cameraLostCond] =
        evaluateInst s.mon.settings[cameraLostCond] s.stampNow s.mon.insts[cameraLostCond] (cameraLostEvidence false) := hinst
    rw [hget]
    exact ⟨h1, h2, h3⟩
  · next hlost => exact ⟨_, _, _, rfl, fun _ => rfl, fun h => absurd h hlost⟩

/-- From s to t a pulse has started the clock that waited. -/
structure StartsFollower (s t : State) : Prop where
  clock : t.clock = startFollower s.clock
  ctrl : t.ctrl = s.ctrl
  axes : t.axes = s.axes
  link : t.link = s.link
  wheels : t.wheels = s.wheels
  check : t.check = s.check
  mon : t.mon = s.mon
  lines : t.lines = if s.clock.travel = 0 then (s.fireCues 0).lines else s.lines

theorem startAtPulse_starts (hp : s.ctrl.pass.isSome = true) (h : s.clock.travel ≠ 0 ∨ s.log.heldSlot = none) :
    StartsFollower s s.startAtPulse := by
  unfold State.startAtPulse
  simp only
  split
  · next ht =>
    have hheld := h.resolve_left (fun hne => hne ht)
    have hs := passStart_starts (s := { s with clock := startFollower s.clock }) hp (.inl hheld)
    refine ⟨hs.clock, hs.ctrl, hs.axes, hs.link, hs.wheels, hs.check, hs.mon hheld, ?_⟩
    rw [hs.lines, if_pos ht]
    obtain ⟨kind, hk⟩ := Option.isSome_iff_exists.mp hp
    rw [fireCues_lines hk, fireCues_lines (s := { s with clock := startFollower s.clock }) hk]
  · next ht => exact ⟨rfl, rfl, rfl, rfl, rfl, rfl, rfl, (if_neg ht).symm⟩

/-- R59, R61: a pulse in WAITING. -/
theorem pulse_starts_follower (hpulse : s.isPulse = true) (hw : s.clock.state = .waiting) (hp : s.ctrl.pass.isSome = true)
    (h : s.clock.travel ≠ 0 ∨ s.log.heldSlot = none) :
    ∃ u t, exec .cameraPulse s = .next t ∧ StartsFollower u t ∧ ∃ c gen mon,
      u = { s.pulsed with console := c, gen := gen, mon := mon } ∧ (s.clock.lost = false → mon = s.mon) ∧
        (s.clock.lost = true → (s.mon.settings[cameraLostCond]).mode ≠ .off →
          (mon.insts[cameraLostCond]).last = false ∧ (mon.insts[cameraLostCond]).trueRun = 0 ∧
            (mon.insts[cameraLostCond]).falseRun = min 16 ((s.mon.insts[cameraLostCond]).falseRun + 1)) := by
  obtain ⟨c, gen, mon, hu, hkept, hlost⟩ := endLoss_spec s.pulsed
  refine ⟨s.pulsed.endLoss, _, cameraPulse_pulse hpulse, ?_, c, gen, mon, hu, hkept, hlost⟩
  rw [takePulse_waiting (by exact hw)]
  exact startAtPulse_starts (by rw [hu]; exact hp) (by rw [hu]; exact h)

/-- R61: where the expiry brings about no action. -/
theorem cameraLost_spec (h : ∀ i ∈ (evaluateAll s.mon s.cameraGone.stampNow [cameraLostEvidence true]).activated,
    inForce s.mon.settings[i] = none) :
    ∃ c recs det, s.cameraLost =
      { s with
        clock := loseCamera s.clock, console := c, gen := { s.gen with recs := recs }
        mon := { (evaluateAll s.mon s.cameraGone.stampNow [cameraLostEvidence true]).mon with detached := det } } :=
  evaluateEvent_spec (s := s.cameraGone) [cameraLostEvidence true] h

/-- R138: the expiry latches CAMERA_LOST, and no action that it brings about unlatches it. -/
theorem cameraLost_latches (hm : (s.mon.settings[cameraLostCond]).mode = .latched)
    (hd : (s.mon.settings[cameraLostCond]).deglitch ≤ 1) (ha : (s.mon.insts[cameraLostCond]).active = false) :
    (s.cameraLost.mon.insts[cameraLostCond]).latched = some (s.mon.settings[cameraLostCond]).action := by
  have hact : activates s.mon.settings[cameraLostCond] (countRun s.mon.insts[cameraLostCond] true) (cameraLostEvidence true) = true := by
    have hrun : (s.mon.settings[cameraLostCond]).deglitch ≤ min 16 ((s.mon.insts[cameraLostCond]).trueRun + 1) :=
      hd.trans (Nat.le_min.mpr ⟨by decide, Nat.le_add_left 1 _⟩)
    rw [countRun_true]
    simp only [activates, cameraLostEvidence, ha, decide_eq_true hrun, Bool.not_false, Bool.true_or, Bool.and_self]
  have hlatched := evaluateInst_latched (e := cameraLostEvidence true) s.cameraGone.stampNow hact hm
  have hinst := evaluateAll_single (mon := s.mon) (e := cameraLostEvidence true) s.cameraGone.stampNow
    (show (s.mon.settings[cameraLostCond]).mode ≠ .off by rw [hm]; decide)
  have hkept := actOn_latches (s.cameraGone.recorded [cameraLostEvidence true])
    (evaluateAll s.mon s.cameraGone.stampNow [cameraLostEvidence true]).activated
    (evaluateAll s.mon s.cameraGone.stampNow [cameraLostEvidence true]).changed cameraLostCond
  exact hkept.trans ((congrArg CondInst.latched hinst).trans hlatched)

/-- Settles O20: a pulse by the clock's state, and the expiry of the camera-lost timer. -/
theorem cameraPulsesAndTheirLoss : Obligations.CameraPulsesAndTheirLoss := by
  unfold Obligations.CameraPulsesAndTheirLoss
  refine ⟨fun s => ⟨fun hpulse hw hp h => ?_, fun l hpulse ha hl heps => ?_, fun hpulse ha hl hr => ?_, fun hpulse h => ?_,
    cameraPulse_unarmed, fun h => ?_⟩, fun s n hn hle => ⟨fun h => ?_, fun hm hd ha => ?_⟩⟩
  · obtain ⟨u, t, ht, hf, c, gen, mon, rfl, hkept, hlost⟩ := pulse_starts_follower hpulse hw hp h
    obtain ⟨kind, hk⟩ := Option.isSome_iff_exists.mp hp
    have hclock : t.clock = startFollower s.clock := hf.clock
    have hmon : t.mon = mon := hf.mon
    have hlines : t.lines = if s.clock.travel = 0 then firedLines s.pulsed.lines kind else s.pulsed.lines := by
      rw [hf.lines, fireCues_lines (by exact hk)]
      rfl
    refine ⟨t, ht, ?_⟩
    rw [hclock, hmon]
    refine ⟨?_, rfl, rfl, rfl, rfl, rfl, rfl, hf.ctrl, hf.axes, hf.link, hf.wheels, hf.check, fun kind' hk' l => ?_, hkept,
      fun hl hm => ⟨rfl, hlost hl hm⟩⟩ <;> rw [hlines]
    · split <;> rfl
    · rw [hk] at hk'
      cases hk'
      split
      · exact foldl_fireCue _ _ _ _ _
      · rfl
  · obtain ⟨c, recs, det, he⟩ := evaluateEvent_calm (s := ({ s.pulsed with clock := pulseLock s.clock l } : State))
      (s.slipEvaluations (phaseError (l.pulses + 1) l.base s.clock.travel)) (slipEvaluations_calm heps)
    have ht := cameraPulse_pulse hpulse
    rw [takePulse_locked (by exact ha) (by exact hl)] at ht
    exact ⟨_, ht.trans (congrArg _ he), rfl, rfl, rfl⟩
  · obtain ⟨c, gen, mon, hu, -, -⟩ := endLoss_spec s.pulsed
    have ht := cameraPulse_pulse hpulse
    rw [takePulse_unlocked (by exact ha) (by exact hl) (by exact hr), hu] at ht
    exact ⟨_, ht, rfl, rfl, rfl⟩
  · rw [cameraPulse_pulse hpulse, takePulse_ignored (by exact h)]
    rfl
  · rw [cameraLostExpiry_eq, lossDue_of_lt h]
    rfl
  · obtain ⟨c, recs, det, hl⟩ := cameraLost_spec (cameraLost_no_action h s.cameraGone.stampNow)
    have hclock : loseCamera s.clock =
        { s.clock with
          lock := none, budget := 0, lostTimer := some (n + 1500000000 / s.clock.cfg.frameRate), lost := true } := by
      simp only [loseCamera, hn]
      rfl
    have hexp := cameraLostExpiry_eq (s := s)
    rw [lossDue_of_le hn hle, if_pos rfl, hl] at hexp
    refine ⟨_, hexp, hclock, rfl, fun hm => ?_, fun hm hd => ?_⟩
    · obtain ⟨h1, h2, h3⟩ := evaluateInst_runs s.mon.settings[cameraLostCond] s.cameraGone.stampNow s.mon.insts[cameraLostCond]
        (cameraLostEvidence true)
      have hinst := evaluateAll_single (mon := s.mon) (e := cameraLostEvidence true) s.cameraGone.stampNow hm
      have hget : ∀ d,
          ({ (evaluateAll s.mon s.cameraGone.stampNow [cameraLostEvidence true]).mon with detached := d } : Mon).insts[cameraLostCond] =
            evaluateInst s.mon.settings[cameraLostCond] s.cameraGone.stampNow s.mon.insts[cameraLostCond] (cameraLostEvidence true) :=
        fun _ => hinst
      rw [hget]
      exact ⟨h1, h3, h2⟩
    · have hinst := evaluateAll_single (mon := s.mon) (e := cameraLostEvidence true) s.cameraGone.stampNow
        (show (s.mon.settings[cameraLostCond]).mode ≠ .off by rw [hm]; decide)
      exact (congrArg CondInst.active hinst).trans (evaluateInst_active _ _ rfl hd)
  · have hexp := cameraLostExpiry_eq (s := s)
    rw [lossDue_of_le hn hle, if_pos rfl] at hexp
    exact ⟨_, hexp, cameraLost_latches hm hd ha⟩

end Sys2Proof.Machine
end

/-! SUPPORT. How a servo period opens (R44, R58, R61, R134, R182, R184, R187): the counts, the sample of the pins and the e-stop
evaluation. -/
section
namespace Sys2Proof.Machine

variable {s t u : State}

/-! ### The sample of the pins -/

theorem filterOf_putFilter (ls : Lines) (l k : Line) (f : Filter) :
    filterOf (putFilter ls l f) k = if k = l then (filterOf ls l).map fun _ => f else filterOf ls k := by
  by_cases h1 : l = 1
  · subst h1
    by_cases hk : k = 1 <;> simp [filterOf, putFilter, hk]
  · by_cases h2 : l = 2
    · subst h2
      by_cases hk : k = 2 <;> simp [filterOf, putFilter, hk]
    · by_cases h3 : l = 3
      · subst h3
        by_cases hk : k = 3 <;> simp [filterOf, putFilter, hk]
      · by_cases hk : k = l <;> simp [filterOf, putFilter, h1, h2, h3, hk]

/-- R182: a filter after the sample of a line's pin, when the line's function is selected. -/
def sampledFilter (pins : BitVec 12) (selected : Bool) (l : Line) (f : Filter) : Filter :=
  if selected then stepFilter f (readsActive l (pins.getLsbD l.val)) else f

/-- From s to t the lines of a list have had their filters updated with a sample: of the lines nothing else has changed. -/
structure FiltersSampled (ks : List Line) (s t : State) : Prop where
  same : t = { s with lines := t.lines }
  pins : t.lines.pins = s.lines.pins
  cues : t.lines.cues = s.lines.cues
  lines : t.lines.lines = s.lines.lines
  edgeArmed : t.lines.edgeArmed = s.lines.edgeArmed
  filters : ∀ l : Line, filterOf t.lines l =
    if l ∈ ks then (filterOf s.lines l).map (sampledFilter s.lines.pins (s.lines.lines[l]).selected l)
    else filterOf s.lines l

theorem putFilter_rest (ls : Lines) (l : Line) (f : Filter) :
    (putFilter ls l f).pins = ls.pins ∧ (putFilter ls l f).cues = ls.cues ∧ (putFilter ls l f).lines = ls.lines ∧
      (putFilter ls l f).edgeArmed = ls.edgeArmed := by
  unfold putFilter
  split
  · exact ⟨rfl, rfl, rfl, rfl⟩
  · split
    · exact ⟨rfl, rfl, rfl, rfl⟩
    · split <;> exact ⟨rfl, rfl, rfl, rfl⟩

theorem sampleFilter_sampled (s : State) (l : Line) : FiltersSampled [l] s (s.sampleFilter l) := by
  unfold State.sampleFilter
  split
  · next f hf =>
    split
    · next hsel =>
      obtain ⟨h1, h2, h3, h4⟩ := putFilter_rest s.lines l (stepFilter f (readsActive l (s.lines.pins.getLsbD l.val)))
      refine ⟨rfl, h1, h2, h3, h4, fun k => ?_⟩
      refine (filterOf_putFilter _ _ _ _).trans ?_
      by_cases hk : k = l
      · subst hk
        simp only [List.mem_singleton, if_true, hf, Option.map_some, sampledFilter, hsel]
      · simp only [List.mem_singleton, if_neg hk]
    · next hsel =>
      refine ⟨rfl, rfl, rfl, rfl, rfl, fun k => ?_⟩
      by_cases hk : k = l
      · subst hk
        simp only [List.mem_singleton, if_true, hf, Option.map_some, sampledFilter, if_neg hsel]
      · simp only [List.mem_singleton, if_neg hk]
  · next hf =>
    refine ⟨rfl, rfl, rfl, rfl, rfl, fun k => ?_⟩
    by_cases hk : k = l
    · subst hk
      simp only [List.mem_singleton, if_true, hf, Option.map_none]
    · simp only [List.mem_singleton, if_neg hk]

theorem FiltersSampled.trans {ks ks' : List Line} (h : FiltersSampled ks s t) (h' : FiltersSampled ks' t u)
    (hd : ∀ l ∈ ks, l ∉ ks') : FiltersSampled (ks ++ ks') s u where
  same := by rw [h'.same, h.same]
  pins := h'.pins.trans h.pins
  cues := h'.cues.trans h.cues
  lines := h'.lines.trans h.lines
  edgeArmed := h'.edgeArmed.trans h.edgeArmed
  filters l := by
    rw [h'.filters, h.filters, h.pins, h.lines]
    by_cases hl : l ∈ ks
    · simp [hl, hd l hl]
    · simp [hl]

theorem foldl_sampleFilter (s : State) : FiltersSampled [1, 2, 3] s (([1, 2, 3] : List Line).foldl State.sampleFilter s) := by
  have h1 := sampleFilter_sampled s 1
  have h2 := sampleFilter_sampled (s.sampleFilter 1) 2
  have h3 := sampleFilter_sampled ((s.sampleFilter 1).sampleFilter 2) 3
  exact (h1.trans h2 (by decide)).trans h3 (by decide)

theorem filterOf_some {ls : Lines} {l : Line} {f : Filter} (h : filterOf ls l = some f) : l ∈ ([1, 2, 3] : List Line) := by
  unfold filterOf at h
  split at h
  · next hl => simp [hl]
  · split at h
    · next hl => simp [hl]
    · split at h
      · next hl => simp [hl]
      · cases h

/-- From s to t the pins have been sampled. -/
structure PinsSampled (s t : State) (pins : BitVec 12) : Prop where
  same : t = { s with lines := t.lines }
  levels : t.lines.pins = pins
  cues : t.lines.cues = s.lines.cues
  lines : t.lines.lines = s.lines.lines
  edgeArmed : t.lines.edgeArmed =
    (s.lines.edgeArmed || ((s.lines.lines[(0 : Line)]).selected && decide (s.clock.cfg.sync = .follower) && !pins.getLsbD 0))
  filters : ∀ (l : Line) (f : Filter), filterOf s.lines l = some f →
    filterOf t.lines l = some (sampledFilter pins (s.lines.lines[l]).selected l f)

theorem samplePins_sampled (s : State) (pins : BitVec 12) : PinsSampled s (s.samplePins pins) pins := by
  have h := foldl_sampleFilter (s.seePins pins)
  unfold State.samplePins State.armDetector
  generalize List.foldl State.sampleFilter _ _ = u at h ⊢
  obtain ⟨hsame, hpins, hcues, hlines, harmed, hfilters⟩ := h
  have hsync : u.clock.cfg.sync = s.clock.cfg.sync := by rw [hsame]; rfl
  have hsel : (u.lines.lines[(0 : Line)]).selected = (s.lines.lines[(0 : Line)]).selected := by rw [hlines]; rfl
  have hf : ∀ (l : Line) (f : Filter), filterOf s.lines l = some f →
      filterOf u.lines l = some (sampledFilter pins (s.lines.lines[l]).selected l f) := fun l f hl => by
    have hl' : filterOf (s.seePins pins).lines l = some f := hl
    rw [hfilters, if_pos (filterOf_some hl), hl']
    rfl
  rw [hsync, hsel, hpins]
  split
  · next hc =>
    refine ⟨by rw [hsame]; rfl, hpins, hcues, hlines, ?_, hf⟩
    have hc' : ((s.lines.lines[(0 : Line)]).selected && decide (s.clock.cfg.sync = .follower) && !pins.getLsbD 0) = true := hc
    rw [hc', Bool.or_true]
  · next hc =>
    refine ⟨by rw [hsame]; rfl, hpins, hcues, hlines, ?_, hf⟩
    have hc' : ((s.lines.lines[(0 : Line)]).selected && decide (s.clock.cfg.sync = .follower) && !pins.getLsbD 0) = false :=
      Bool.not_eq_true _ ▸ hc
    rw [hc', Bool.or_false]
    exact harmed

/-- R182: the sampled filter by its count. -/
theorem sampledFilter_eq (pins : BitVec 12) (selected : Bool) (l : Line) (f : Filter) :
    some (sampledFilter pins selected l f) =
      if selected = true then
        some
          { active := f.active
            count := if (pins.getLsbD l.val != decide (l = 1)) = f.active then 0 else min 4 (f.count + 1) }
      else some f := by
  have hread : readsActive l (pins.getLsbD l.val) = (pins.getLsbD l.val != decide (l = 1)) := by
    unfold readsActive
    by_cases hl : l = 1 <;> simp [hl]
  unfold sampledFilter
  split
  · rw [hread, stepFilter]
    split <;> rfl
  · rfl

/-! ### The opening -/

theorem settleFaults_periodCount (s : State) (b : Bool) : (s.settleFaults b).mon.periodCount = s.mon.periodCount := by
  obtain ⟨c, recs, det, h⟩ := settleFaults_spec s b
  rw [h]

/-- R61, R103, R168: the wall-time timers fall. -/
theorem fallTimers_falls (s : State) : ∃ check n,
    s.fallTimers =
      { s with
        clock := { s.clock with lostTimer := fallTimer s.clock.period s.clock.lostTimer }
        gen :=
          { s.gen with
            recs := tabulate fun a => { s.gen.recs[a] with refresh := fallTimer s.clock.period (s.gen.recs[a]).refresh } }
        check := check, openReads := n } := by
  unfold State.fallTimers State.advanceWalk
  split <;> exact ⟨_, _, rfl⟩

/-- From s to t a servo period has been opened. -/
structure Opens (s t : State) (pins : BitVec 12) : Prop where
  ticks : Ticks s t
  link : t.link = s.link
  log : t.log = s.log
  periodCount : t.mon.periodCount = s.mon.periodCount + 1
  levels : t.lines.pins = pins
  cues : t.lines.cues = s.lines.cues
  lines : ∀ l : Line, t.lines.lines[l] =
    { s.lines.lines[l] with pendingClear := (s.lines.lines[l]).pendingClear.map (· - 1) }
  edgeArmed : t.lines.edgeArmed =
    (s.lines.edgeArmed || ((s.lines.lines[(0 : Line)]).selected && decide (s.clock.cfg.sync = .follower) && !pins.getLsbD 0))
  filters : ∀ (l : Line) (f : Filter), filterOf s.lines l = some f →
    filterOf t.lines l = some (sampledFilter pins (s.lines.lines[l]).selected l f)
  base : t.gen.captureBase = s.gen.captureBase
  interval : t.console.interval = s.console.interval
  mask : t.console.mask = s.console.mask
  grows : s.console.Grows t.console
  attached : ∀ a : Axis, s.mon.detached[a] = [] →
    t.mon.detached[a] = [] ∧ ∃ x, t.gen.recs[a] = { s.gen.recs[a] with refresh := x }

/-- The state whose pins an expiry samples: the timers and the counts have fallen. -/
def State.counted (s : State) : State := s.fallTimers.countPeriod

theorem tick_eq {pins : BitVec 12} (hT : s.clock.period = periodOf s.clock.cfg.servoRate) :
    s.tick pins = (s.counted.samplePins pins).estopAtExpiry := by
  obtain ⟨check, k, hf⟩ := fallTimers_falls s
  have hp : s.fallTimers.takePeriod = s.fallTimers := by
    rw [hf]
    exact if_pos hT.symm
  rw [State.tick, hp]
  rfl

/-- R134: what the e-stop evaluation of an expiry leaves with L1 inactive. -/
theorem estopAtExpiry_spec (h : s.lines.filterL1.active = false) :
    ∃ insts, SettlesFaults { s with mon := { s.mon with insts := insts } } s.estopAtExpiry ∧
      s.estopAtExpiry.mon.periodCount = s.mon.periodCount := by
  unfold State.estopAtExpiry
  split
  · exact ⟨s.mon.insts, .refl s, rfl⟩
  · rw [State.evaluateEstop, evaluateEvent_false _ _ h]
    obtain ⟨insts, hm⟩ := evaluateAll_mon s.mon s.stampNow [estopEvidence s.estopActive]
    rw [hm]
    exact ⟨insts, settleFaults_settles _ _, settleFaults_periodCount _ _⟩

theorem tick_opens (pins : BitVec 12) (hl : s.lines.filterL1.active = false)
    (hT : s.clock.period = periodOf s.clock.cfg.servoRate) : Opens s (s.tick pins) pins := by
  have hticks := tick_ticks pins hl hT
  obtain ⟨check, k, hf⟩ := fallTimers_falls s
  have hs := samplePins_sampled s.counted pins
  obtain ⟨ls, hls, ha⟩ := samplePins_spec s.counted pins
  have hactive : (s.counted.samplePins pins).lines.filterL1.active = false := by
    rw [hls]
    refine ha.trans ?_
    rw [State.counted, hf]
    exact hl
  obtain ⟨insts, he, hcount⟩ := estopAtExpiry_spec hactive
  rw [tick_eq hT] at hticks ⊢
  generalize State.estopAtExpiry _ = t at he hcount hticks ⊢
  generalize s.counted.samplePins pins = v at hs he hcount
  obtain ⟨hsame, hpins, hcues, hlines, harmed, hfilters⟩ := hs
  have hline : ∀ l : Line, s.counted.lines.lines[l] =
      { s.lines.lines[l] with pendingClear := (s.lines.lines[l]).pendingClear.map (· - 1) } := fun l => by
    rw [State.counted, hf]
    exact tabulate_get _ l
  have hsel : ∀ l : Line, (s.counted.lines.lines[l]).selected = (s.lines.lines[l]).selected := fun l => by rw [hline]
  have hfilter : ∀ l : Line, filterOf s.counted.lines l = filterOf s.lines l := fun l => by
    rw [State.counted, hf]
    rfl
  have hcounted : s.counted.lines.cues = s.lines.cues ∧ s.counted.lines.edgeArmed = s.lines.edgeArmed ∧
      s.counted.clock.cfg = s.clock.cfg ∧ s.counted.link = s.link ∧ s.counted.log = s.log ∧
      s.counted.console = s.console ∧ s.counted.mon.periodCount = s.mon.periodCount + 1 ∧
      s.counted.gen.captureBase = s.gen.captureBase ∧ s.counted.mon.detached = s.mon.detached := by
    rw [State.counted, hf]
    exact ⟨rfl, rfl, rfl, rfl, rfl, rfl, rfl, rfl, rfl⟩
  have hgen : ∀ a : Axis, s.counted.gen.recs[a] =
      { s.gen.recs[a] with refresh := fallTimer s.clock.period (s.gen.recs[a]).refresh } := fun a => by
    rw [State.counted, hf]
    exact tabulate_get _ a
  obtain ⟨h1, h2, h3, h4, h5, h6, h7, h8, h9⟩ := hcounted
  generalize s.counted = w at *
  rw [hsame] at he hcount
  have hgrows : s.console.Grows t.console := by rw [← h6]; exact he.grows
  refine ⟨hticks, he.link.trans h4, he.log.trans h5, hcount.trans h7, ?_, ?_, fun l => ?_, ?_, fun l f hlf => ?_, he.base.trans h8,
    hgrows.interval, hgrows.mask, hgrows, fun a ha => ?_⟩
  · rw [he.lines]
    exact hpins
  · rw [he.lines]
    exact hcues.trans h1
  · rw [he.lines]
    refine Eq.trans ?_ (hline l)
    rw [← hlines]
  · rw [he.lines]
    rw [hsel, h2, h3] at harmed
    exact harmed
  · rw [he.lines]
    rw [← hsel]
    exact hfilters l f ((hfilter l).trans hlf)
  · obtain ⟨hrec, hdet⟩ := he.attached a (by rw [← ha, ← h9])
    exact ⟨hdet, _, hrec.trans (hgen a)⟩

end Sys2Proof.Machine
end

/-! SUPPORT. The course of a servo period (R49, R67, R78, R83, R162): the advance, the generator's steps, the setpoints, the hand-over and
"all at rest", each by what it changes. -/
section
namespace Sys2Proof.Machine

variable {s t u x y : State} {a : Axis}

/-! ### The advance -/

theorem crossFrame_frame (c : Clock) : ∃ n, (crossFrame c).1 = { c with passFrame := n } := ⟨_, crossFrame_clock c⟩

/-- R49: an advance keeps the settings and the period in force. -/
theorem advanceClock_settings (c : Clock) (n : Nat) (e : RunEntry) (next : Option RunEntry) :
    (advanceClock c n e next).1.cfg = c.cfg ∧ (advanceClock c n e next).1.period = c.period := by
  obtain ⟨-, h⟩ | ⟨-, e', -, -, h⟩ | ⟨-, -, h⟩ := advanceClock_cases c n e next
  · obtain ⟨f, hf⟩ := crossFrame_frame (goneOnClock c e)
    rw [h, hf, goneOnClock_eq]
    exact ⟨rfl, rfl⟩
  · obtain ⟨f, hf⟩ := crossFrame_frame (carriedClock c e e')
    rw [h, hf, carriedClock_eq]
    exact ⟨rfl, rfl⟩
  · obtain ⟨f, hf⟩ := crossFrame_frame (landedClock c e)
    rw [h, hf, landedClock_eq]
    exact ⟨rfl, rfl⟩

/-- R56: a clock that lands rests on the end frame of its entry. -/
theorem advanceClock_landed {c : Clock} {n : Nat} {e : RunEntry} {next : Option RunEntry}
    (hl : (advanceClock c n e next).2.landed = true) :
    (advanceClock c n e next).1.time = e.endFrame * subframes ∧ (advanceClock c n e next).1.state = .atRest ∧
      (advanceClock c n e next).2.entry = n := by
  obtain ⟨-, h⟩ | ⟨-, e', -, -, h⟩ | ⟨-, -, h⟩ := advanceClock_cases c n e next
  · rw [h] at hl
    cases hl
  · rw [h] at hl
    cases hl
  · obtain ⟨f, hf⟩ := crossFrame_frame (landedClock c e)
    rw [h, hf, landedClock_eq]
    exact ⟨rfl, rfl, rfl⟩

/-- R49: the advance of a clock at its entry's speed, with no lock to trim it, that stays inside the entry. -/
theorem advanceClock_goesOn {c : Clock} {n inc : Nat} {e : RunEntry} {next : Option RunEntry} (hs : c.cfg.sync ≠ .follower)
    (hr : c.ramp = .none) (hi : inc = (nominal c.cfg c.period (e.speed * 1000) + c.rem) / 1000000000000000)
    (hlt : inc < toEntryEnd c e) :
    (advanceClock c n e next).1.state = c.state ∧ (advanceClock c n e next).1.speed = e.speed * 1000 ∧
      (advanceClock c n e next).1.time = moveTime c.dir c.time inc ∧
      (advanceClock c n e next).1.rem = (nominal c.cfg c.period (e.speed * 1000) + c.rem) % 1000000000000000 ∧
      (advanceClock c n e next).2.landed = false := by
  have hramp : rampStep c (targetSpeed c.cfg e) = { c with speed := e.speed * 1000 } := by
    rw [targetSpeed_of_ne e hs, rampStep, hr]
  have htake := takeIncrement_plain (c := { c with speed := e.speed * 1000 }) fun h => hs h.1
  have hinc : incrementOf c e = inc := by rw [incrementOf, hramp, htake, hi]; rfl
  have hstep : steppedClock c e =
      { c with
        speed := e.speed * 1000, rem := (nominal c.cfg c.period (e.speed * 1000) + c.rem) % 1000000000000000 } := by
    rw [steppedClock, hramp, htake]
  obtain ⟨-, h⟩ | ⟨hle, -⟩ | ⟨hle, -⟩ := advanceClock_cases c n e next
  · obtain ⟨f, hf⟩ := crossFrame_frame (goneOnClock c e)
    rw [h, hf, goneOnClock_eq, hstep, hinc]
    exact ⟨rfl, rfl, rfl, rfl, rfl⟩
  · exact absurd hlt (Nat.not_lt.mpr (hinc ▸ hle))
  · exact absurd hlt (Nat.not_lt.mpr (hinc ▸ hle))

theorem advance_moves {e : RunEntry} (ha : s.clock.state = .advancing) (he : s.currentEntry? = some e) :
    s.advance =
      ({ s with
        clock := (advanceClock s.clock s.ctrl.entry e (s.runEntry? (s.ctrl.entry + 1))).1
        ctrl :=
          { s.ctrl with entry := (advanceClock s.clock s.ctrl.entry e (s.runEntry? (s.ctrl.entry + 1))).2.entry } },
        some (advanceClock s.clock s.ctrl.entry e (s.runEntry? (s.ctrl.entry + 1))).2) := by
  simp only [State.advance, ha, he]

theorem advance_stands (h : s.clock.state ≠ .advancing) : s.advance = (s, none) := by
  unfold State.advance
  split
  · next ha _ => exact absurd ha h
  · rfl

/-- R49: an advance changes the clock and the current entry alone. -/
theorem advance_spec (s : State) : ∃ c n, s.advance.1 = { s with clock := c, ctrl := { s.ctrl with entry := n } } ∧
    c.cfg = s.clock.cfg ∧ c.period = s.clock.period := by
  unfold State.advance
  split
  · next e _ _ =>
    obtain ⟨h1, h2⟩ := advanceClock_settings s.clock s.ctrl.entry e (s.runEntry? (s.ctrl.entry + 1))
    exact ⟨_, _, rfl, h1, h2⟩
  · exact ⟨_, _, rfl, rfl, rfl⟩

/-! ### The steps and the setpoints -/

/-- The record of an axis after the generator's step of a period. -/
def State.steppedRec (s : State) (a : Axis) : GenRec :=
  stepRecord s.axes.recs[a] s.wheels s.gen.captureBase s.clock.period (s.driveOf a) (s.currentSetpoint a) a s.gen.recs[a]

/-- The entry whose path gives the setpoints of a period: the current one, when the clock has handed over a move time. -/
def State.pathEntry (s : State) : Option RunEntry :=
  match s.advance.2 with
  | some _ => s.advance.1.stepGen.currentEntry?
  | none => none

/-- R67, R162: the state of a period with the clock advanced, the generator stepped and the setpoints formed. -/
def State.formed (s : State) : State := s.advance.1.stepGen.formSetpoints s.pathEntry

/-- R49, stage 6: with what the hand-over brings. -/
def State.handed (s : State) : State :=
  match s.advance.2 with
  | some h => s.formed.takeHandOver h
  | none => s.formed

theorem runPeriod_eq (s : State) : s.runPeriod = s.handed.afterSteps := rfl

/-- From s to t the clock has advanced, the generator stepped and the setpoints been formed. -/
structure Forms (s t : State) : Prop where
  store : t.store = s.store
  axes : t.axes = s.axes
  check : t.check = s.check
  link : t.link = s.link
  mon : t.mon = s.mon
  log : t.log = s.log
  wheels : t.wheels = s.wheels
  lines : t.lines = s.lines
  console : t.console = s.console
  clock : t.clock = s.advance.1.clock
  ctrl : t.ctrl = { s.advance.1.ctrl with setpoints := t.ctrl.setpoints, clamped := t.ctrl.clamped }
  recs : ∀ a : Axis, t.gen.recs[a] = s.steppedRec a
  unconfigured : ∀ a : Axis, s.configured a = false → t.ctrl.setpoints[a] = s.ctrl.setpoints[a]
  source : ∀ a : Axis, s.configured a = true →
    (t.ctrl.setpoints[a], t.ctrl.clamped[a]) = s.advance.1.stepGen.sourceSetpoint s.pathEntry a

theorem stepGen_rec (s : State) (a : Axis) : s.stepGen.gen.recs[a] = s.steppedRec a := by
  rw [State.stepGen, State.mapGen_gen]
  exact tabulate_get _ a

theorem stepGen_advance_rec (s : State) (a : Axis) : s.advance.1.stepGen.gen.recs[a] = s.steppedRec a := by
  obtain ⟨c, n, h, -, hp⟩ := advance_spec s
  rw [stepGen_rec, State.steppedRec, State.steppedRec, h, ← hp]
  rfl

theorem formed_forms (s : State) : Forms s s.formed := by
  have hrec := stepGen_advance_rec s
  obtain ⟨c, n, h, -, -⟩ := advance_spec s
  have hget : ∀ (v : State) (path : Option RunEntry) (a : Axis),
      (v.formSetpoints path).ctrl.setpoints[a] = (if v.configured a then (v.sourceSetpoint path a).1 else v.ctrl.setpoints[a]) ∧
        (v.formSetpoints path).ctrl.clamped[a] = (if v.configured a then (v.sourceSetpoint path a).2 else v.ctrl.clamped[a]) :=
    fun v path a => by
      simp only [State.formSetpoints]
      exact ⟨(tabulate_get _ a).trans (by rw [tabulate_get]), (tabulate_get _ a).trans (by rw [tabulate_get])⟩
  have hconf : ∀ a, s.advance.1.stepGen.configured a = s.configured a := fun a => by
    simp only [State.configured, State.stepGen, State.mapGen_axes, h]
  refine ⟨?_, ?_, ?_, ?_, ?_, ?_, ?_, ?_, ?_, ?_, ?_, hrec, fun a ha => ?_, fun a ha => ?_⟩
  case refine_12 =>
    rw [State.formed, (hget _ _ a).1, hconf, ha, h]
    simp [State.stepGen]
  case refine_13 =>
    rw [State.formed, (hget _ _ a).1, (hget _ _ a).2, hconf, ha]
    simp
  all_goals simp [State.formed, State.formSetpoints, State.stepGen, h]

end Sys2Proof.Machine
end

/-! SUPPORT. The end of a servo period: where a setpoint comes from (R67), what a crossing and a landing bring (R78, R150, R186), "all at
rest" (R79, R83, R163), and the first slot (R108, R111). -/
section
namespace Sys2Proof.Machine

variable {s t u x y : State} {a : Axis}

/-! ### Where a setpoint comes from -/

theorem stepRecord_idle (r : AxisRec) (w : Wheels) (bases : List (BitVec 32)) (period : Nat) (drive : DriveState) (driven : Int)
    (a : Axis) {g : GenRec} (h : g.mode = .idle) : stepRecord r w bases period drive driven a g = g := by
  simp only [stepRecord, h]

/-- R162: a step keeps the mode. -/
theorem stepRecord_mode (r : AxisRec) (w : Wheels) (bases : List (BitVec 32)) (period : Nat) (drive : DriveState) (driven : Int)
    (a : Axis) (g : GenRec) : (stepRecord r w bases period drive driven a g).mode = g.mode := by
  unfold stepRecord
  split
  · rfl
  · split <;> rfl
  all_goals rfl

/-- R161, R162: a step does not look at the refresh timer. -/
theorem stepRecord_refresh (r : AxisRec) (w : Wheels) (bases : List (BitVec 32)) (period : Nat) (drive : DriveState) (driven : Int)
    (a : Axis) (g : GenRec) (n : Option Nat) :
    stepRecord r w bases period drive driven a { g with refresh := n } =
      { stepRecord r w bases period drive driven a g with refresh := n } := by
  obtain ⟨mode, _, _, _, _, _, _, _, _⟩ := g
  cases mode
  case halt =>
    simp only [stepRecord]
    split <;> rfl
  all_goals rfl

theorem advance_drive (s : State) (a : Axis) : s.advance.1.stepGen.driveOf a = s.driveOf a ∧
    s.advance.1.stepGen.currentSetpoint a = s.currentSetpoint a := by
  obtain ⟨c, n, h, -, -⟩ := advance_spec s
  simp only [State.driveOf, State.currentSetpoint, State.stepGen, State.mapGen_link, State.mapGen_ctrl, h, and_self]

namespace Forms

/-- R67: with its drive not ON an axis has the setpoint its drive gives it. -/
theorem driven (h : Forms s t) (hc : s.configured a = true) (hd : s.driveOf a ≠ .on) :
    t.ctrl.setpoints[a] = s.currentSetpoint a ∧ t.ctrl.clamped[a] = false := by
  have hs := h.source a hc
  obtain ⟨h1, h2⟩ := advance_drive s a
  simp only [State.sourceSetpoint, h1, h2, decide_eq_false hd, Bool.not_false, if_true] at hs
  exact Prod.mk.injEq .. ▸ hs

/-- R67: in any mode but IDLE an axis has its generator's setpoint. -/
theorem generated (h : Forms s t) (hc : s.configured a = true) (hd : s.driveOf a = .on) (hm : (s.gen.recs[a]).mode ≠ .idle) :
    t.ctrl.setpoints[a] = (s.steppedRec a).x ∧ t.ctrl.clamped[a] = false := by
  have hs := h.source a hc
  have hmode : (s.steppedRec a).mode ≠ .idle := by rw [State.steppedRec, stepRecord_mode]; exact hm
  simp only [State.sourceSetpoint, (advance_drive s a).1, stepGen_advance_rec, hd, decide_true, Bool.not_true, Bool.false_eq_true,
    if_false, decide_eq_false hmode, Bool.not_false, if_true] at hs
  exact Prod.mk.injEq .. ▸ hs

/-- R67: in IDLE an axis has the path's setpoint. -/
theorem idle_path (h : Forms s t) (hc : s.configured a = true) (hd : s.driveOf a = .on) (hm : (s.gen.recs[a]).mode = .idle)
    {e : RunEntry} (hp : s.pathEntry = some e) :
    (t.ctrl.setpoints[a], t.ctrl.clamped[a]) = s.advance.1.stepGen.pathSetpoint e a := by
  have hs := h.source a hc
  have hmode : (s.steppedRec a).mode = .idle := by rw [State.steppedRec, stepRecord_mode]; exact hm
  simp only [State.sourceSetpoint, (advance_drive s a).1, stepGen_advance_rec, hd, decide_true, Bool.not_true, Bool.false_eq_true,
    if_false, hmode, hp] at hs
  exact hs

/-- R67: with no advance an axis in IDLE keeps its setpoint. -/
theorem idle_stands (h : Forms s t) (hc : s.configured a = true) (hd : s.driveOf a = .on) (hm : (s.gen.recs[a]).mode = .idle)
    (ha : s.clock.state ≠ .advancing) : t.ctrl.setpoints[a] = s.ctrl.setpoints[a] ∧ t.ctrl.clamped[a] = false := by
  have hs := h.source a hc
  have hmode : (s.steppedRec a).mode = .idle := by rw [State.steppedRec, stepRecord_mode]; exact hm
  have hpath : s.pathEntry = none := by rw [State.pathEntry, advance_stands ha]
  simp only [State.sourceSetpoint, (advance_drive s a).1, stepGen_advance_rec, hd, decide_true, Bool.not_true, Bool.false_eq_true,
    if_false, hmode, hpath] at hs
  have hk : s.stepGen.ctrl.setpoints = s.ctrl.setpoints := by simp [State.stepGen]
  simp only [advance_stands ha, hk] at hs
  exact Prod.mk.injEq .. ▸ hs

/-- R34, R67: with an advance an axis in IDLE has the setpoint of the path at the new move time. -/
theorem idle_moves (h : Forms s t) (hc : s.configured a = true) (hd : s.driveOf a = .on) (hm : (s.gen.recs[a]).mode = .idle)
    {e e' : RunEntry} {c' : Clock} {ho : HandOver} (ha : s.clock.state = .advancing) (he : s.currentEntry? = some e)
    (hadv : advanceClock s.clock s.ctrl.entry e (s.runEntry? (s.ctrl.entry + 1)) = (c', ho))
    (he' : s.runEntry? ho.entry = some e') {held : Int}
    (hheld : held = (match s.ctrl.armSetpoints with
      | some arm => if ho.entry = 1 then arm[a] else s.ctrl.setpoints[a]
      | none => s.ctrl.setpoints[a])) :
    t.ctrl.setpoints[a] =
        (evaluateTrack s.axes.recs[a] s.axes.maps[a] (s.trackOf e'.slot a) c'.time (held - (s.axes.recs[a]).origin)).setpoint ∧
      t.ctrl.clamped[a] =
        (evaluateTrack s.axes.recs[a] s.axes.maps[a] (s.trackOf e'.slot a) c'.time (held - (s.axes.recs[a]).origin)).clamped := by
  have hmove := advance_moves ha he
  rw [hadv] at hmove
  have hpath : s.pathEntry = some e' := by
    simp only [State.pathEntry, hmove, State.currentEntry?, State.runEntry?, State.stepGen, State.mapGen_ctrl]
    exact he'
  have hs := h.idle_path hc hd hm hpath
  rw [hmove] at hs
  subst hheld
  simp only [State.pathSetpoint, State.evaluate, State.heldValue, State.heldSetpoint, State.trackOf, State.stepGen, State.mapGen_ctrl,
    State.mapGen_axes, State.mapGen_store, State.mapGen_clock, Prod.mk.injEq] at hs
  exact hs

end Forms

/-! ### What stands through the end of a period -/

/-- From s to t the counts, the tables, the settings, the lines, the link and the setpoints stand. -/
structure Stands (s t : State) : Prop where
  periodCount : t.mon.periodCount = s.mon.periodCount
  axes : t.axes = s.axes
  wheels : t.wheels = s.wheels
  lines : t.lines = s.lines
  link : t.link = s.link
  cfg : t.clock.cfg = s.clock.cfg
  period : t.clock.period = s.clock.period
  setpoints : t.ctrl.setpoints = s.ctrl.setpoints
  clamped : t.ctrl.clamped = s.ctrl.clamped

namespace Stands

theorem refl (s : State) : Stands s s := ⟨rfl, rfl, rfl, rfl, rfl, rfl, rfl, rfl, rfl⟩

theorem trans (h : Stands s t) (h' : Stands t u) : Stands s u where
  periodCount := h'.periodCount.trans h.periodCount
  axes := h'.axes.trans h.axes
  wheels := h'.wheels.trans h.wheels
  lines := h'.lines.trans h.lines
  link := h'.link.trans h.link
  cfg := h'.cfg.trans h.cfg
  period := h'.period.trans h.period
  setpoints := h'.setpoints.trans h.setpoints
  clamped := h'.clamped.trans h.clamped

end Stands

theorem settleFaults_stands (s : State) (b : Bool) : Stands s (s.settleFaults b) := by
  obtain ⟨c, recs, det, h⟩ := settleFaults_spec s b
  rw [h]
  exact ⟨rfl, rfl, rfl, rfl, rfl, rfl, rfl, rfl, rfl⟩

theorem passOutConds_periodCount (s : State) (ids : List CondId) :
    (s.passOutConds ids).mon.periodCount = s.mon.periodCount := by
  rw [State.passOutConds, settleFaults_periodCount]
  rfl

theorem endPassAfterLog_periodCount (s : State) (kind : PassKind) (keep : Bool) :
    (s.endPassAfterLog kind keep).mon.periodCount = (s.endCapture kind keep).mon.periodCount := by
  rw [State.endPassAfterLog, passOutConds_periodCount]
  generalize s.endCapture kind keep = u
  rfl

theorem endPass_periodCount (s : State) (o : PassOutcome) : (s.endPass o).mon.periodCount = s.mon.periodCount := by
  cases hk : s.ctrl.pass with
  | none => rw [endPass_of_none o hk]
  | some kind =>
    obtain ⟨c, log, hclose, -, -⟩ := closePass_spec s o
    have hmon : (State.endCapture { s with console := c, log := log } kind (!(o = .faulted))).mon = s.mon := by
      cases kind with
      | play => rfl
      | capture => simp [State.endCapture]
    simp only [State.endPass, hk, hclose]
    rw [endPassAfterLog_periodCount, hmon]

theorem endPass_stands (s : State) (o : PassOutcome) : Stands s (s.endPass o) := by
  have hcount := endPass_periodCount s o
  cases hk : s.ctrl.pass with
  | none =>
    rw [endPass_of_none o hk]
    exact .refl s
  | some kind =>
    have h := endPass_ends s o hk
    refine ⟨hcount, h.axes, h.wheels, h.lines, h.link, ?_, ?_, ?_, ?_⟩
    · rw [h.clock]; rfl
    · rw [h.clock]; rfl
    · rw [h.ctrl]; rfl
    · rw [h.ctrl]; rfl

theorem reportState_stands (s : State) : Stands s s.reportState := ⟨rfl, rfl, rfl, rfl, rfl, rfl, rfl, rfl, rfl⟩

theorem withCtrl_stands (s : State) (cs : CtrlState) (form : Option StopForm) : Stands s (s.withCtrl cs form) :=
  ⟨rfl, rfl, rfl, rfl, rfl, rfl, rfl, rfl, rfl⟩

theorem withCtrl_endPass_stands (s : State) (cs : CtrlState) (form : Option StopForm) (o : PassOutcome) :
    Stands s ((s.withCtrl cs form).endPass o).reportState :=
  (withCtrl_stands s cs form).trans ((endPass_stands _ o).trans (reportState_stands _))

theorem takeLanding_stands (s : State) : Stands s s.takeLanding := by
  unfold State.takeLanding
  split
  · exact withCtrl_endPass_stands s _ _ _
  · exact withCtrl_endPass_stands s _ _ _
  · split
    · exact withCtrl_endPass_stands s _ _ _
    · exact ⟨rfl, rfl, rfl, rfl, rfl, rfl, rfl, rfl, rfl⟩

theorem enter_stands (s : State) (cs : CtrlState) : Stands s (s.enter cs) := ⟨rfl, rfl, rfl, rfl, rfl, rfl, rfl, rfl, rfl⟩

theorem genReleaseAll_stands (s : State) : Stands s s.genReleaseAll := by
  constructor <;> simp

theorem takeAllAtRest_stands (s : State) : Stands s s.takeAllAtRest := by
  have henter : ∀ (v : State) (cs : CtrlState), Stands v (v.genReleaseAll.enter cs) := fun v cs =>
    (genReleaseAll_stands v).trans (enter_stands _ cs)
  unfold State.takeAllAtRest
  split
  · unfold State.settleJogging
    split
    · exact henter s _
    · next r _ =>
      exact (show Stands s (s.restoreFrom r) from ⟨rfl, rfl, rfl, rfl, rfl, rfl, rfl, rfl, rfl⟩).trans (henter _ _)
  · exact henter s _
  · exact henter s _
  · exact .refl s

theorem afterSteps_stands (s : State) : Stands s s.afterSteps := by
  unfold State.afterSteps
  split
  · exact (takeAllAtRest_stands s).trans (settleFaults_stands _ _)
  · exact settleFaults_stands s _

/-! ### "All at rest" -/

theorem takeAllAtRest_elsewhere (hj : s.ctrl.state ≠ .jogging)
    (hg : s.ctrl.state = .stopping ∨ s.ctrl.state = .faultStopping → s.ctrl.stopForm ≠ some .generator) :
    s.takeAllAtRest = s := by
  unfold State.takeAllAtRest
  split
  · next h => exact absurd h hj
  · next h hf => exact absurd hf (hg (.inl h))
  · next h hf => exact absurd hf (hg (.inr h))
  · rfl

theorem afterSteps_elsewhere (hj : s.ctrl.state ≠ .jogging)
    (hg : s.ctrl.state = .stopping ∨ s.ctrl.state = .faultStopping → s.ctrl.stopForm ≠ some .generator) :
    SettlesFaults s s.afterSteps := by
  rw [State.afterSteps, takeAllAtRest_elsewhere hj hg, ite_self]
  exact settleFaults_settles s false

theorem afterSteps_atRest (h : s.allAtRest = true) : SettlesFaults s.takeAllAtRest s.afterSteps := by
  rw [State.afterSteps, if_pos h]
  exact settleFaults_settles _ false

/-- R83: only JOGGING with a return record moves the clock as it settles. -/
theorem afterSteps_clock (h : s.ctrl.state ≠ .jogging ∨ s.ctrl.ret = none) : s.afterSteps.clock = s.clock := by
  have hrest : s.takeAllAtRest.clock = s.clock := by
    unfold State.takeAllAtRest
    split
    · next hj =>
      have hret := h.resolve_left fun hne => hne hj
      simp only [State.settleJogging, hret]
      simp
    · simp
    · simp
    · rfl
  unfold State.afterSteps
  split
  · exact (settleFaults_settles _ false).clock.trans hrest
  · exact (settleFaults_settles s false).clock

end Sys2Proof.Machine
end

/-! SUPPORT. What the hand-over of a servo period brings (R49, R78, R150, R186), its first slot (R108, R111), and the period as a whole. -/
section
namespace Sys2Proof.Machine

variable {s t u x y : State} {a : Axis}

/-! ### The crossing -/

theorem stageCrossing_spec (s : State) (n : Nat) :
    ∃ st log, s.stageCrossing n = { s with store := st, log := log } ∧ SamePass s.log log := by
  unfold State.stageCrossing
  split
  · obtain ⟨st, log, h, -⟩ := stageKeys_spec s n
    have hsame := stageKeys_samePass s n
    rw [h] at hsame ⊢
    exact ⟨st, log, rfl, hsame⟩
  · exact ⟨_, _, rfl, ⟨rfl, rfl⟩⟩

theorem takeCrossing_spec (s : State) (n : Nat) :
    ∃ st log, s.takeCrossing n =
        { s with
          store := st, log := { log with crossing := some (s.crossingAt n) }, lines := (s.fireCues n).lines
          clock := beginTrigger s.clock } ∧ SamePass s.log log := by
  obtain ⟨st, log, h, hsame⟩ := stageCrossing_spec s n
  refine ⟨st, log, ?_, hsame⟩
  simp only [State.takeCrossing, h, State.fireCues]
  cases s.ctrl.pass <;> rfl

/-- R49, R150, R186: what a hand-over's crossing brings. -/
def State.crossed (s : State) (h : HandOver) : State :=
  match h.crossing with
  | some n => s.takeCrossing n
  | none => s

theorem crossed_none {h : HandOver} (hn : h.crossing = none) : s.crossed h = s := by
  simp only [State.crossed, hn]

theorem crossed_some {h : HandOver} {n : Nat} (hn : h.crossing = some n) : s.crossed h = s.takeCrossing n := by
  simp only [State.crossed, hn]

theorem takeHandOver_eq (s : State) (h : HandOver) :
    s.takeHandOver h = if h.landed then (s.crossed h).takeLanding else s.crossed h := rfl

theorem beginTrigger_place (c : Clock) : (beginTrigger c).cfg = c.cfg ∧ (beginTrigger c).period = c.period ∧
    (beginTrigger c).state = c.state ∧ (beginTrigger c).time = c.time := by
  unfold beginTrigger
  split <;> exact ⟨rfl, rfl, rfl, rfl⟩

/-- From s to t a crossing may have been taken: the controller, the monitor unit, the console and the link stand, and of the lines only
their latches have changed. -/
structure Crosses (s t : State) : Prop where
  ctrl : t.ctrl = s.ctrl
  mon : t.mon = s.mon
  console : t.console = s.console
  link : t.link = s.link
  axes : t.axes = s.axes
  wheels : t.wheels = s.wheels
  cfg : t.clock.cfg = s.clock.cfg
  period : t.clock.period = s.clock.period
  clockState : t.clock.state = s.clock.state
  time : t.clock.time = s.clock.time
  recording : t.log.recording = s.log.recording
  lines : t.lines = { s.lines with lines := t.lines.lines }

theorem fireCues_rest (s : State) (n : Nat) : (s.fireCues n).lines = { s.lines with lines := (s.fireCues n).lines.lines } := by
  unfold State.fireCues
  split <;> rfl

theorem crossed_crosses (s : State) (h : HandOver) : Crosses s (s.crossed h) := by
  cases hn : h.crossing with
  | none =>
    rw [crossed_none hn]
    exact ⟨rfl, rfl, rfl, rfl, rfl, rfl, rfl, rfl, rfl, rfl, rfl, rfl⟩
  | some n =>
    obtain ⟨st, log, ht, hsame⟩ := takeCrossing_spec s n
    obtain ⟨h1, h2, h3, h4⟩ := beginTrigger_place s.clock
    rw [crossed_some hn, ht]
    exact ⟨rfl, rfl, rfl, rfl, rfl, rfl, h1, h2, h3, h4, hsame.recording, fireCues_rest s n⟩

/-! ### What stands through a hand-over -/

/-- From s to t what a servo period hands on has been taken: of the lines only their latches have changed, and the counts, the tables, the
settings, the link and the setpoints stand. -/
structure Hands (s t : State) : Prop where
  periodCount : t.mon.periodCount = s.mon.periodCount
  axes : t.axes = s.axes
  wheels : t.wheels = s.wheels
  link : t.link = s.link
  cfg : t.clock.cfg = s.clock.cfg
  period : t.clock.period = s.clock.period
  setpoints : t.ctrl.setpoints = s.ctrl.setpoints
  clamped : t.ctrl.clamped = s.ctrl.clamped
  lines : t.lines = { s.lines with lines := t.lines.lines }

theorem Stands.hands (h : Stands s t) : Hands s t :=
  ⟨h.periodCount, h.axes, h.wheels, h.link, h.cfg, h.period, h.setpoints, h.clamped, by rw [h.lines]⟩

theorem Crosses.hands (h : Crosses s t) : Hands s t :=
  ⟨by rw [h.mon], h.axes, h.wheels, h.link, h.cfg, h.period, by rw [h.ctrl], by rw [h.ctrl], h.lines⟩

theorem Hands.trans (h : Hands s t) (h' : Hands t u) : Hands s u where
  periodCount := h'.periodCount.trans h.periodCount
  axes := h'.axes.trans h.axes
  wheels := h'.wheels.trans h.wheels
  link := h'.link.trans h.link
  cfg := h'.cfg.trans h.cfg
  period := h'.period.trans h.period
  setpoints := h'.setpoints.trans h.setpoints
  clamped := h'.clamped.trans h.clamped
  lines := by rw [h'.lines, h.lines]

theorem takeHandOver_hands (s : State) (h : HandOver) : Hands s (s.takeHandOver h) := by
  rw [takeHandOver_eq]
  split
  · exact (crossed_crosses s h).hands.trans (takeLanding_stands _).hands
  · exact (crossed_crosses s h).hands

theorem handed_of_none (h : s.advance.2 = none) : s.handed = s.formed := by
  simp only [State.handed, h]

theorem handed_of_some {h : HandOver} (hh : s.advance.2 = some h) : s.handed = s.formed.takeHandOver h := by
  simp only [State.handed, hh]

theorem handed_hands (s : State) : Hands s.formed s.handed := by
  cases h : s.advance.2 with
  | none =>
    rw [handed_of_none h]
    exact (Stands.refl _).hands
  | some ho =>
    rw [handed_of_some h]
    exact takeHandOver_hands _ _

/-- R79, R163: what the end of a period leaves of the formed state. -/
theorem runPeriod_hands (s : State) : Hands s.formed s.runPeriod := by
  rw [runPeriod_eq]
  exact (handed_hands s).trans (afterSteps_stands s.handed).hands

/-! ### The first slot -/

theorem grantSlot_link (s : State) (p : LinkPeriod) : ∃ l, s.grantSlot p = { s with link := l } := by
  have hset : ∀ (v : State) (b : Axis), ∃ l, v.sendSetpoint b = { v with link := l } := fun v b => by
    unfold State.sendSetpoint
    simp only
    split <;> exact ⟨_, rfl⟩
  have hacyclic : ∀ v : State, ∃ l, v.sendAcyclic p = { v with link := l } := fun v => by
    unfold State.sendAcyclic
    split <;> exact ⟨_, rfl⟩
  unfold State.grantSlot
  simp only
  split
  · obtain ⟨l, h⟩ := hset { s with link := { s.link with period := some (grantIn p (nextGrant p s.link.queue)) } } _
    exact ⟨l, h⟩
  · obtain ⟨l, h⟩ := hset { s with link := { s.link with period := some (grantIn p (nextGrant p s.link.queue)) } } _
    exact ⟨l, h⟩
  · obtain ⟨l, h⟩ := hacyclic { s with link := { s.link with period := some (grantIn p (nextGrant p s.link.queue)) } }
    exact ⟨l, h⟩
  · obtain ⟨l, h⟩ := hacyclic { s with link := { s.link with period := some (grantIn p (nextGrant p s.link.queue)) } }
    exact ⟨l, h⟩
  · exact ⟨_, rfl⟩

theorem startPeriod_link (s : State) : ∃ l, s.startPeriod = { s with link := l } := grantSlot_link s _

/-- R112: a setpoint transaction of a configured axis. -/
theorem sendSetpoint_configured (h : s.configured a = true) :
    s.sendSetpoint a =
      { s with
        link :=
          { s.link with
            recs := put s.link.recs a { s.link.recs[a] with lastSent := s.currentSetpoint a }
            sent := setpointFrame a (s.currentSetpoint a) (!(s.driveOf a = .off)) } } := by
  simp only [State.sendSetpoint, h, if_true]
  rfl

/-- R111: the first attempt of the lowest configured axis is granted, and sends its setpoint. -/
theorem startPeriod_first {rest : List Axis} (h : s.configuredAxes = a :: rest) :
    s.startPeriod.link.period =
        some
          { left := s.clock.period / 25 - 1, axes := a :: rest, first := rest, retries := [], good := []
            current := .setpoint a false, agedDone := false } ∧
      (s.startPeriod.link.recs[a]).lastSent = s.startPeriod.currentSetpoint a := by
  have hconf : s.configured a = true := by
    have : a ∈ s.configuredAxes := by rw [h]; exact List.mem_cons_self
    exact (List.mem_filter.mp this).2
  have hrun : s.startPeriod =
      { s with
        link :=
          { s.link with
            period :=
              some
                { left := slotsOf s.clock.period - 1, axes := a :: rest, first := rest, retries := [], good := []
                  current := .setpoint a false, agedDone := false }
            recs := put s.link.recs a { s.link.recs[a] with lastSent := s.currentSetpoint a }
            sent := setpointFrame a (s.currentSetpoint a) (!(s.driveOf a = .off)) } } := by
    rw [State.startPeriod, State.grantSlot, h]
    exact sendSetpoint_configured
      (s := { s with
        link :=
          { s.link with
            period :=
              some
                { left := slotsOf s.clock.period - 1, axes := a :: rest, first := rest, retries := [], good := []
                  current := .setpoint a false, agedDone := false } } }) hconf
  have hrec : s.startPeriod.link.recs[a] = { s.link.recs[a] with lastSent := s.currentSetpoint a } := by
    rw [hrun]
    exact put_get_same ..
  have hcur : s.startPeriod.currentSetpoint a = s.currentSetpoint a := by
    have hctrl : s.startPeriod.ctrl = s.ctrl := startPeriod_ctrl s
    rw [State.currentSetpoint, hrec, hctrl]
    rfl
  rw [hcur, hrec]
  refine ⟨?_, rfl⟩
  rw [hrun]
  rfl

end Sys2Proof.Machine
end

/-! SUPPORT. A servo period after its opening, by what it meets: an advance that goes on, a landing, a clock that stands, all axes at rest.
-/
section
namespace Sys2Proof.Machine

variable {s t u : State} {a : Axis} {e : RunEntry} {c' : Clock} {h : HandOver}

/-- R154: a pass that ends while a crossing's record waits is held open. -/
theorem endPass_log_of_crossing {v : State} (o : PassOutcome) (hp : v.ctrl.pass.isSome = true) (hx : v.log.crossing.isSome = true) :
    (v.endPass o).log = { v.log with closing := some o } := by
  obtain ⟨kind, hk⟩ := Option.isSome_iff_exists.mp hp
  simp only [State.endPass, hk, State.closePass, hx, if_true]
  exact (endPassAfterLog_settles _ _ _).log.trans (passEnded_spec _ _ _).log

/-! ### An advance -/

section
variable (ha : u.clock.state = .advancing) (he : u.currentEntry? = some e)
  (hadv : advanceClock u.clock u.ctrl.entry e (u.runEntry? (u.ctrl.entry + 1)) = (c', h))
include ha he hadv

theorem advance_of_advancing : u.advance = ({ u with clock := c', ctrl := { u.ctrl with entry := h.entry } }, some h) := by
  rw [advance_moves ha he, hadv]

/-- The clock and the controller once an advance's setpoints are formed. -/
theorem formed_of_advancing : u.formed.clock = c' ∧
    u.formed.ctrl =
      { u.ctrl with entry := h.entry, setpoints := u.formed.ctrl.setpoints, clamped := u.formed.ctrl.clamped } := by
  have hf := formed_forms u
  have hclock := hf.clock
  have hctrl := hf.ctrl
  rw [advance_of_advancing ha he hadv] at hclock hctrl
  exact ⟨hclock, hctrl⟩

theorem handed_of_advancing : u.handed = u.formed.takeHandOver h :=
  handed_of_some (by rw [advance_of_advancing ha he hadv])

/-- R186: the lines after the advance's crossing. -/
theorem handed_lines : u.handed.lines =
    match h.crossing with
    | some n => (u.formed.fireCues n).lines
    | none => u.formed.lines := by
  have hcross : (u.formed.crossed h).lines =
      match h.crossing with
      | some n => (u.formed.fireCues n).lines
      | none => u.formed.lines := by
    cases hn : h.crossing with
    | none => rw [crossed_none hn]
    | some n =>
      obtain ⟨st, log, ht, -⟩ := takeCrossing_spec u.formed n
      rw [crossed_some hn, ht]
  rw [handed_of_advancing ha he hadv, takeHandOver_eq]
  split
  · exact (takeLanding_stands _).lines.trans hcross
  · exact hcross

theorem runPeriod_lines : u.runPeriod.lines =
    match h.crossing with
    | some n => (u.formed.fireCues n).lines
    | none => u.formed.lines := by
  rw [runPeriod_eq]
  exact (afterSteps_stands u.handed).lines.trans (handed_lines ha he hadv)

/-- R78: an advance that does not land, outside a jog and a stop of the generator. -/
theorem runPeriod_goesOn (hl : h.landed = false) (hj : u.ctrl.state ≠ .jogging)
    (hg : u.ctrl.state = .stopping ∨ u.ctrl.state = .faultStopping → u.ctrl.stopForm ≠ some .generator) :
    SettlesFaults (u.formed.crossed h) u.runPeriod := by
  have hy : u.handed = u.formed.crossed h := by
    rw [handed_of_advancing ha he hadv, takeHandOver_eq, hl]
    rfl
  obtain ⟨-, hctrl⟩ := formed_of_advancing ha he hadv
  have hstate : (u.formed.crossed h).ctrl.state = u.ctrl.state := by rw [(crossed_crosses u.formed h).ctrl, hctrl]
  have hform : (u.formed.crossed h).ctrl.stopForm = u.ctrl.stopForm := by rw [(crossed_crosses u.formed h).ctrl, hctrl]
  rw [runPeriod_eq, hy]
  exact afterSteps_elsewhere (by rw [hstate]; exact hj) fun hs => by rw [hform]; exact hg (hstate ▸ hs)

/-- R78: what such an advance leaves. -/
theorem runPeriod_goesOn_spec (hl : h.landed = false) (hj : u.ctrl.state ≠ .jogging)
    (hg : u.ctrl.state = .stopping ∨ u.ctrl.state = .faultStopping → u.ctrl.stopForm ≠ some .generator) :
    u.runPeriod.ctrl.state = u.ctrl.state ∧ u.runPeriod.ctrl.entry = h.entry ∧
      (h.crossing = none → u.runPeriod.clock = c' ∧ u.runPeriod.log = u.log) ∧
      (∀ n, h.crossing = some n →
        u.runPeriod.clock = beginTrigger c' ∧
        u.runPeriod.log.crossing =
          some
            { passFrame := n, entry := h.entry, time := c'.time, interval := u.console.interval, mask := u.console.mask }) := by
  obtain ⟨hclock, hctrl⟩ := formed_of_advancing ha he hadv
  have hf := formed_forms u
  have hc := crossed_crosses u.formed h
  have hs := runPeriod_goesOn ha he hadv hl hj hg
  refine ⟨?_, ?_, fun hn => ⟨?_, ?_⟩, fun n hn => ⟨?_, ?_⟩⟩
  · rw [hs.ctrl, hc.ctrl, hctrl]
  · rw [hs.ctrl, hc.ctrl, hctrl]
  · rw [hs.clock, crossed_none hn, hclock]
  · rw [hs.log, crossed_none hn, hf.log]
  · obtain ⟨st, log, ht, -⟩ := takeCrossing_spec u.formed n
    rw [hs.clock, crossed_some hn, ht, ← hclock]
  · obtain ⟨st, log, ht, -⟩ := takeCrossing_spec u.formed n
    rw [hs.log, crossed_some hn, ht]
    simp only [State.crossingAt, hclock, hf.console]
    rw [hctrl]

/-! ### A landing in RUNNING -/

/-- R78, Table 4-4: where a landing in RUNNING takes the controller. -/
theorem runPeriod_lands (hl : h.landed = true) (hst : u.ctrl.state = .running) :
    SettlesFaults
      (if (u.formed.crossed h).onLastEntry then (((u.formed.crossed h).withCtrl .idle none).endPass .complete).reportState
      else { u.formed.crossed h with ctrl := { (u.formed.crossed h).ctrl with landing := true } }.enter .held)
      u.runPeriod := by
  obtain ⟨-, hctrl⟩ := formed_of_advancing ha he hadv
  have hstate : (u.formed.crossed h).ctrl.state = .running := by rw [(crossed_crosses u.formed h).ctrl, hctrl]; exact hst
  have hy : u.handed = (u.formed.crossed h).takeLanding := by
    rw [handed_of_advancing ha he hadv, takeHandOver_eq, hl]
    rfl
  have hland : (u.formed.crossed h).takeLanding =
      if (u.formed.crossed h).onLastEntry then (((u.formed.crossed h).withCtrl .idle none).endPass .complete).reportState
      else { u.formed.crossed h with ctrl := { (u.formed.crossed h).ctrl with landing := true } }.enter .held := by
    simp only [State.takeLanding, hstate]
  rw [runPeriod_eq, hy, hland]
  split
  · have hend : ((((u.formed.crossed h).withCtrl .idle none).endPass .complete).reportState).ctrl.state = .idle :=
      (endPass_any ((u.formed.crossed h).withCtrl .idle none) .complete).state
    exact afterSteps_elsewhere (by rw [hend]; decide) fun hs => by rw [hend] at hs; cases hs <;> contradiction
  · exact afterSteps_elsewhere (by simp [State.enter, State.withCtrl, State.reportState])
      fun hs => by simp [State.enter, State.withCtrl, State.reportState] at hs

/-- R78: a landing before the last entry leads to HELD. -/
theorem runPeriod_lands_held (hl : h.landed = true) (hst : u.ctrl.state = .running) (hlast : h.entry < u.ctrl.runList.length) :
    u.runPeriod.ctrl.state = .held ∧ u.runPeriod.ctrl.landing = true ∧ u.runPeriod.ctrl.entry = h.entry ∧
      u.runPeriod.clock.state = c'.state ∧ u.runPeriod.clock.time = c'.time := by
  obtain ⟨hclock, hctrl⟩ := formed_of_advancing ha he hadv
  have hc := crossed_crosses u.formed h
  have hs := runPeriod_lands ha he hadv hl hst
  have hcc : (u.formed.crossed h).ctrl.entry = h.entry ∧ (u.formed.crossed h).ctrl.runList = u.ctrl.runList := by
    rw [hc.ctrl, hctrl]
    exact ⟨rfl, rfl⟩
  obtain ⟨hentry, hlist⟩ := hcc
  rw [State.onLastEntry, hentry, hlist, if_neg (by simpa using hlast)] at hs
  rw [hs.ctrl, hs.clock]
  exact ⟨rfl, rfl, hentry, hc.clockState.trans (by rw [hclock]), hc.time.trans (by rw [hclock])⟩

/-- R78: a landing on the last entry ends the pass COMPLETE. -/
theorem runPeriod_lands_last (hl : h.landed = true) (hst : u.ctrl.state = .running) (hp : u.ctrl.pass.isSome = true)
    (hlast : u.ctrl.runList.length ≤ h.entry) :
    u.runPeriod.ctrl.state = .idle ∧ u.runPeriod.ctrl.pass = none ∧ u.runPeriod.clock.state = .stopped ∧
      u.runPeriod.clock.time = c'.time ∧ (h.crossing = none → PassCloses u u.runPeriod .complete) ∧
      (h.crossing.isSome = true →
        u.runPeriod.log.closing = some .complete ∧ u.runPeriod.log.recording = u.log.recording) := by
  obtain ⟨hclock, hctrl⟩ := formed_of_advancing ha he hadv
  have hf := formed_forms u
  have hc := crossed_crosses u.formed h
  have hs := runPeriod_lands ha he hadv hl hst
  have hcc : (u.formed.crossed h).ctrl.entry = h.entry ∧ (u.formed.crossed h).ctrl.runList = u.ctrl.runList ∧
      (u.formed.crossed h).ctrl.pass = u.ctrl.pass := by
    rw [hc.ctrl, hctrl]
    exact ⟨rfl, rfl, rfl⟩
  obtain ⟨hentry, hlist, hpass⟩ := hcc
  rw [State.onLastEntry, hentry, hlist, if_pos (decide_eq_true hlast)] at hs
  have hend := endPass_endsRun (s := u.formed.crossed h) .idle none .complete (by rw [hpass]; exact hp)
  rw [hs.ctrl, hs.clock, hend.state, hend.pass, hend.clock]
  refine ⟨rfl, rfl, rfl, hc.time.trans (by rw [hclock]), fun hn => ?_, fun hx => ?_⟩
  · have hlog : (u.formed.crossed h).log = u.log := by rw [crossed_none hn]; exact hf.log
    exact (hend.closes.later hs.log hs.grows).of_log hlog
  · obtain ⟨n, hn⟩ := Option.isSome_iff_exists.mp hx
    have hcrossing : (u.formed.crossed h).log.crossing.isSome = true := by
      obtain ⟨st, log, ht, -⟩ := takeCrossing_spec u.formed n
      rw [crossed_some hn, ht]
      rfl
    have hlog := endPass_log_of_crossing (v := (u.formed.crossed h).withCtrl .idle none) .complete
      (by rw [← hpass] at hp; exact hp) hcrossing
    have hl' : u.runPeriod.log = { (u.formed.crossed h).log with closing := some .complete } := hs.log.trans hlog
    rw [hl']
    exact ⟨rfl, hc.recording.trans (by rw [hf.log])⟩

end

/-! ### A clock that stands -/

theorem formed_of_standing (h : u.clock.state ≠ .advancing) : u.formed.clock = u.clock ∧
    u.formed.ctrl = { u.ctrl with setpoints := u.formed.ctrl.setpoints, clamped := u.formed.ctrl.clamped } := by
  have hf := formed_forms u
  have hclock := hf.clock
  have hctrl := hf.ctrl
  rw [advance_stands h] at hclock hctrl
  exact ⟨hclock, hctrl⟩

theorem runPeriod_of_standing (h : u.clock.state ≠ .advancing) : u.runPeriod = u.formed.afterSteps := by
  rw [runPeriod_eq, handed_of_none (by rw [advance_stands h])]

theorem runPeriod_standing_clock (h : u.clock.state ≠ .advancing) (hj : u.ctrl.state ≠ .jogging ∨ u.ctrl.ret = none) :
    u.runPeriod.clock = u.clock := by
  obtain ⟨hclock, hctrl⟩ := formed_of_standing h
  rw [runPeriod_of_standing h, afterSteps_clock (by rw [hctrl]; exact hj), hclock]

theorem runPeriod_standing_state (h : u.clock.state ≠ .advancing) (hj : u.ctrl.state ≠ .jogging) (hg : u.ctrl.stopForm = none) :
    u.runPeriod.ctrl.state = u.ctrl.state := by
  obtain ⟨-, hctrl⟩ := formed_of_standing h
  have hs := afterSteps_elsewhere (s := u.formed) (by rw [hctrl]; exact hj) fun _ => by rw [hctrl, hg]; simp
  rw [runPeriod_of_standing h, hs.ctrl, hctrl]

/-! ### "All at rest" -/

theorem allAtRest_formed (h : ∀ a, u.configured a = true → genAtRest (u.steppedRec a) = true ∧ jogInForce (u.steppedRec a) = false) :
    u.formed.allAtRest = true := by
  have hf := formed_forms u
  rw [State.allAtRest, List.all_eq_true]
  intro a ha
  have hconf : u.configured a = true := by
    have : u.formed.configured a = true := (List.mem_filter.mp ha).2
    rwa [State.configured, hf.axes] at this
  obtain ⟨h1, h2⟩ := h a hconf
  rw [hf.recs a, h1, h2]
  rfl

/-- R79, R83, R163: what "all at rest" ends. -/
theorem runPeriod_atRest (h : u.clock.state ≠ .advancing)
    (hr : ∀ a, u.configured a = true → genAtRest (u.steppedRec a) = true ∧ jogInForce (u.steppedRec a) = false) :
    (u.ctrl.state = .stopping → u.ctrl.stopForm = some .generator → u.runPeriod.ctrl.state = .idle) ∧
      (u.ctrl.state = .faultStopping → u.ctrl.stopForm = some .generator → u.runPeriod.ctrl.state = .faulted) ∧
      (u.ctrl.state = .jogging → u.ctrl.ret = none → u.runPeriod.ctrl.state = .idle) ∧
      (∀ r, u.ctrl.state = .jogging → u.ctrl.ret = some r →
        u.runPeriod.ctrl.state = .held ∧ u.runPeriod.ctrl.entry = r.entry ∧ u.runPeriod.ctrl.ret = some r ∧
          u.runPeriod.clock.state = .atRest ∧ u.runPeriod.clock.time = r.time) := by
  obtain ⟨hclock, hctrl⟩ := formed_of_standing h
  have hs := afterSteps_atRest (allAtRest_formed hr)
  have hstate : u.formed.ctrl.state = u.ctrl.state := by rw [hctrl]
  have hform : u.formed.ctrl.stopForm = u.ctrl.stopForm := by rw [hctrl]
  have hret : u.formed.ctrl.ret = u.ctrl.ret := by rw [hctrl]
  rw [runPeriod_of_standing h, hs.ctrl, hs.clock]
  refine ⟨fun h1 h2 => ?_, fun h1 h2 => ?_, fun h1 h2 => ?_, fun r h1 h2 => ?_⟩
  · simp [State.takeAllAtRest, hstate, h1, hform, h2]
  · simp [State.takeAllAtRest, hstate, h1, hform, h2]
  · simp [State.takeAllAtRest, State.settleJogging, hstate, h1, hret, h2]
  · simp [State.takeAllAtRest, State.settleJogging, State.restoreFrom, restoreClock, hstate, h1, hret, h2]

/-! ### The period as a whole -/

theorem servoTimerExpiry_eq (pins : BitVec 12) : exec (.servoTimerExpiry pins) s = .next (s.servoPeriod pins) := rfl

/-- R184: with nothing left of the period before, an expiry opens a period, runs it and begins its slots. -/
theorem servoPeriod_opens (pins : BitVec 12) (hq : Quiet s) (hlink : s.link.period = none)
    (hl : s.lines.filterL1.active = false) (hT : s.clock.period = 1000000 / s.clock.cfg.servoRate) :
    ∃ u, Opens s u pins ∧ s.servoPeriod pins = u.runPeriod.startPeriod := by
  refine ⟨s.tick pins, tick_opens pins hl hT, ?_⟩
  rw [State.servoPeriod, hq.finishBefore hlink]

/-- R161, R162: the step of an attached axis, as the opening leaves it. -/
theorem Opens.steppedRec {pins : BitVec 12} (h : Opens s u pins) (hd : s.mon.detached[a] = []) :
    ∃ x, u.steppedRec a = { s.steppedRec a with refresh := x } := by
  obtain ⟨-, x, hx⟩ := h.attached a hd
  refine ⟨x, ?_⟩
  have hdrive : u.driveOf a = s.driveOf a := by rw [State.driveOf, h.link]; rfl
  have hcur : u.currentSetpoint a = s.currentSetpoint a := by
    rw [State.currentSetpoint, h.link, h.ticks.ctrl]
    rfl
  have hperiod : u.clock.period = s.clock.period := by rw [h.ticks.clock]; rfl
  rw [State.steppedRec, hx, h.ticks.axes, h.ticks.wheels, h.base, hperiod, hdrive, hcur, stepRecord_refresh]
  rfl

end Sys2Proof.Machine
end

/-! A servo period: O59. -/
section
namespace Sys2Proof.Machine

variable {s u : State} {pins : BitVec 12} {a : Axis} {e : RunEntry} {c' : Clock} {h : HandOver}

/-! ### What the opening leaves for the advance -/

namespace Opens

theorem runEntry (ho : Opens s u pins) (n : Nat) : u.runEntry? n = s.runEntry? n := by
  rw [State.runEntry?, ho.ticks.ctrl]
  rfl

theorem currentEntry (ho : Opens s u pins) : u.currentEntry? = s.currentEntry? := by
  rw [State.currentEntry?, ho.runEntry, ho.ticks.ctrl]
  rfl

theorem configured (ho : Opens s u pins) (a : Axis) : u.configured a = s.configured a := by
  rw [State.configured, ho.ticks.axes]
  rfl

theorem driveOf (ho : Opens s u pins) (a : Axis) : u.driveOf a = s.driveOf a := by
  rw [State.driveOf, ho.link]
  rfl

theorem currentSetpoint (ho : Opens s u pins) (a : Axis) : u.currentSetpoint a = s.currentSetpoint a := by
  rw [State.currentSetpoint, ho.link, ho.ticks.ctrl]
  rfl

theorem mode (ho : Opens s u pins) (hd : s.mon.detached[a] = []) : (u.gen.recs[a]).mode = (s.gen.recs[a]).mode := by
  obtain ⟨-, x, hx⟩ := ho.attached a hd
  rw [hx]

theorem advances (ho : Opens s u pins) (ha : s.clock.state = .advancing) (he : s.currentEntry? = some e)
    (hadv : advanceClock (fallenClock s.clock) s.ctrl.entry e (s.runEntry? (s.ctrl.entry + 1)) = (c', h)) :
    u.clock.state = .advancing ∧ u.currentEntry? = some e ∧
      advanceClock u.clock u.ctrl.entry e (u.runEntry? (u.ctrl.entry + 1)) = (c', h) := by
  rw [ho.currentEntry, ho.runEntry, ho.ticks.clock, ho.ticks.ctrl]
  exact ⟨ha, he, hadv⟩

theorem standing (ho : Opens s u pins) (h : s.clock.state ≠ .advancing) : u.clock.state ≠ .advancing := by
  rw [ho.ticks.clock]
  exact h

/-- R162: what holds of the step of every attached axis, whatever its refresh timer, holds of it after the opening. -/
theorem stepped_atRest (ho : Opens s u pins) (hd : ∀ a : Axis, s.mon.detached[a] = [])
    (hr : ∀ a, s.configured a = true → genAtRest (s.steppedRec a) = true ∧ jogInForce (s.steppedRec a) = false) :
    ∀ a, u.configured a = true → genAtRest (u.steppedRec a) = true ∧ jogInForce (u.steppedRec a) = false := by
  intro a ha
  obtain ⟨x, hx⟩ := ho.steppedRec (hd a)
  rw [hx]
  exact hr a (by rw [← ho.configured]; exact ha)

end Opens

/-! ### The lines of a period -/

/-- R182, R184, R187: what a period leaves of the lines but for their latches. -/
theorem period_lines (ho : Opens s u pins) : u.runPeriod.lines.pins = pins ∧ u.runPeriod.lines.cues = s.lines.cues ∧
    u.runPeriod.lines.edgeArmed =
      (s.lines.edgeArmed ||
        ((s.lines.lines[(0 : Line)]).selected && decide (s.clock.cfg.sync = .follower) && !pins.getLsbD 0)) ∧
    ∀ (l : Line) (f : Filter), filterOf s.lines l = some f → filterOf u.runPeriod.lines l =
      if (s.lines.lines[l]).selected = true then
        some
          { active := f.active
            count := if (pins.getLsbD l.val != decide (l = 1)) = f.active then 0 else min 4 (f.count + 1) }
      else some f := by
  have hl : u.runPeriod.lines = { u.lines with lines := u.runPeriod.lines.lines } := by
    have := (runPeriod_hands u).lines
    rwa [(formed_forms u).lines] at this
  rw [hl]
  refine ⟨ho.levels, ho.cues, ho.edgeArmed, fun l f hf => ?_⟩
  rw [← sampledFilter_eq]
  exact ho.filters l f hf

/-- R186: with no cues, or a clock that stands, a period touches no latch. -/
theorem period_lines_still (hs : u.lines.cues = [] ∨ u.clock.state ≠ .advancing) : u.runPeriod.lines = u.lines := by
  have hf := formed_forms u
  by_cases ha : u.clock.state = .advancing
  · have hcues := hs.resolve_right fun hne => hne ha
    cases he : u.currentEntry? with
    | none =>
      have hnone : u.advance.2 = none := by simp only [State.advance, ha, he]
      rw [runPeriod_eq, (afterSteps_stands _).lines, handed_of_none hnone, hf.lines]
    | some e =>
      rw [runPeriod_lines ha he rfl]
      have hfire : ∀ n, (u.formed.fireCues n).lines = u.lines := fun n => by
        unfold State.fireCues
        split
        · exact hf.lines
        · next kind _ =>
          have hnone : cuesAt u.formed.lines.cues n kind = [] := by rw [hf.lines, hcues]; rfl
          rw [hnone]
          exact hf.lines
      split
      · exact hfire _
      · exact hf.lines
  · rw [runPeriod_of_standing ha, (afterSteps_stands _).lines, hf.lines]

/-- R186: the cues of an advance's crossing. -/
theorem period_lines_cues {kind : PassKind} (ha : u.clock.state = .advancing) (he : u.currentEntry? = some e)
    (hp : u.ctrl.pass = some kind)
    (hadv : advanceClock u.clock u.ctrl.entry e (u.runEntry? (u.ctrl.entry + 1)) = (c', h)) (l : Line) :
    u.runPeriod.lines.lines[l] =
      match h.crossing with
      | none => u.lines.lines[l]
      | some n => lineAfterCues u.lines.cues n kind l u.lines.lines[l] := by
  have hf := formed_forms u
  obtain ⟨-, hctrl⟩ := formed_of_advancing ha he hadv
  rw [runPeriod_lines ha he hadv]
  cases h.crossing with
  | none => simp only [hf.lines]
  | some n =>
    refine (fireCues_line u.formed n kind (by rw [hctrl]; exact hp) l).trans ?_
    rw [hf.lines]

/-! ### The advance of a period -/

/-- R78: an advance that does not land, by what it leaves of the opening. -/
theorem period_moves (ho : Opens s u pins) (ha : s.clock.state = .advancing) (he : s.currentEntry? = some e)
    (hadv : advanceClock (fallenClock s.clock) s.ctrl.entry e (s.runEntry? (s.ctrl.entry + 1)) = (c', h))
    (hl : h.landed = false) (hj : s.ctrl.state ≠ .jogging)
    (hg : s.ctrl.state = .stopping ∨ s.ctrl.state = .faultStopping → s.ctrl.stopForm ≠ some .generator) :
    u.runPeriod.ctrl.state = s.ctrl.state ∧ u.runPeriod.ctrl.entry = h.entry ∧
      (h.crossing = none → u.runPeriod.clock = c' ∧ u.runPeriod.log = s.log) ∧
      (∀ n, h.crossing = some n →
        u.runPeriod.clock = (if s.clock.cfg.sync = .master then { c' with trigger := some s.clock.cfg.trigWidth } else c') ∧
        u.runPeriod.log.crossing =
          some
            { passFrame := n, entry := h.entry, time := c'.time, interval := s.console.interval, mask := s.console.mask }) := by
  obtain ⟨ha', he', hadv'⟩ := ho.advances ha he hadv
  have hcfg : c'.cfg = s.clock.cfg := by
    have := (advanceClock_settings (fallenClock s.clock) s.ctrl.entry e (s.runEntry? (s.ctrl.entry + 1))).1
    rw [hadv] at this
    exact this
  obtain ⟨h1, h2, h3, h4⟩ := runPeriod_goesOn_spec ha' he' hadv' hl (by rw [ho.ticks.ctrl]; exact hj)
    (by rw [ho.ticks.ctrl]; exact hg)
  rw [ho.ticks.ctrl] at h1
  rw [ho.log] at h3
  rw [ho.interval, ho.mask] at h4
  refine ⟨h1, h2, h3, fun n hn => ⟨?_, (h4 n hn).2⟩⟩
  rw [(h4 n hn).1, beginTrigger, hcfg]

/-- R78: a landing in RUNNING. -/
theorem period_lands (ho : Opens s u pins) (ha : s.clock.state = .advancing) (he : s.currentEntry? = some e)
    (hadv : advanceClock (fallenClock s.clock) s.ctrl.entry e (s.runEntry? (s.ctrl.entry + 1)) = (c', h))
    (hl : h.landed = true) (hr : s.ctrl.state = .running) (hp : s.ctrl.pass.isSome = true) :
    u.runPeriod.clock.time = e.endFrame * 65536 ∧
      (s.ctrl.entry < s.ctrl.runList.length →
        u.runPeriod.ctrl.state = .held ∧ u.runPeriod.ctrl.landing = true ∧ u.runPeriod.ctrl.entry = s.ctrl.entry ∧
          u.runPeriod.clock.state = .atRest) ∧
      (s.ctrl.runList.length ≤ s.ctrl.entry →
        u.runPeriod.ctrl.state = .idle ∧ u.runPeriod.ctrl.pass = none ∧ u.runPeriod.clock.state = .stopped ∧
          (h.crossing = none → PassCloses s u.runPeriod .complete) ∧
          (h.crossing.isSome = true →
            u.runPeriod.log.closing = some .complete ∧ u.runPeriod.log.recording = s.log.recording)) := by
  obtain ⟨ha', he', hadv'⟩ := ho.advances ha he hadv
  have hland := advanceClock_landed (c := fallenClock s.clock) (n := s.ctrl.entry) (e := e)
    (next := s.runEntry? (s.ctrl.entry + 1)) (by rw [hadv]; exact hl)
  rw [hadv] at hland
  obtain ⟨htime, hrest, hentry⟩ := hland
  have hlist : u.ctrl.runList = s.ctrl.runList := by rw [ho.ticks.ctrl]
  have hr' : u.ctrl.state = .running := by rw [ho.ticks.ctrl]; exact hr
  have hp' : u.ctrl.pass.isSome = true := by rw [ho.ticks.ctrl]; exact hp
  have hheld := runPeriod_lands_held ha' he' hadv' hl hr'
  have hlast := runPeriod_lands_last ha' he' hadv' hl hr' hp'
  rw [hlist, hentry, hrest, htime] at hheld
  rw [hlist, hentry, htime, ho.log] at hlast
  refine ⟨?_, fun hlt => ?_, fun hle => ?_⟩
  · obtain hlt | hle := Nat.lt_or_ge s.ctrl.entry s.ctrl.runList.length
    · obtain ⟨-, -, -, -, h⟩ := hheld hlt
      exact h
    · obtain ⟨-, -, -, h, -⟩ := hlast hle
      exact h
  · obtain ⟨h1, h2, h3, h4, -⟩ := hheld hlt
    exact ⟨h1, h2, h3, h4⟩
  · obtain ⟨h1, h2, h3, -, h4, h5⟩ := hlast hle
    exact ⟨h1, h2, h3, fun hn => (h4 hn).of_log ho.log, h5⟩

/-- R34, R67: the setpoint of an attached axis in IDLE after an advance. -/
theorem period_setpoint_moves (ho : Opens s u pins) (ha : s.clock.state = .advancing) (he : s.currentEntry? = some e)
    (hadv : advanceClock (fallenClock s.clock) s.ctrl.entry e (s.runEntry? (s.ctrl.entry + 1)) = (c', h)) {e' : RunEntry}
    (hconf : s.configured a = true) (hon : s.driveOf a = .on) (hd : s.mon.detached[a] = []) (hm : (s.gen.recs[a]).mode = .idle)
    (he' : s.runEntry? h.entry = some e') {held : Int} {v : Evaluation}
    (hheld : held = (match s.ctrl.armSetpoints with
      | some arm => if h.entry = 1 then arm[a] else s.ctrl.setpoints[a]
      | none => s.ctrl.setpoints[a]))
    (hv : v = evaluateTrack s.axes.recs[a] s.axes.maps[a] (s.trackOf e'.slot a) c'.time (held - (s.axes.recs[a]).origin)) :
    u.formed.ctrl.setpoints[a] = v.setpoint ∧ u.formed.ctrl.clamped[a] = v.clamped := by
  obtain ⟨ha', hce, hadv'⟩ := ho.advances ha he hadv
  have hs := (formed_forms u).idle_moves (held := held) (e' := e') (by rw [ho.configured]; exact hconf)
    (by rw [ho.driveOf]; exact hon) ((ho.mode hd).trans hm) ha' hce hadv' (by rw [ho.runEntry]; exact he')
    (by rw [ho.ticks.ctrl]; exact hheld)
  have htrack : u.trackOf e'.slot a = s.trackOf e'.slot a := by rw [State.trackOf, ho.ticks.store]; rfl
  rw [htrack, ho.ticks.axes, ← hv] at hs
  exact hs

/-- R49: with no lock and no ramp, an advance inside the entry. -/
theorem period_inside (ho : Opens s u pins) {inc : Nat} (hr : s.ctrl.state = .running) (ha : s.clock.state = .advancing)
    (hsync : s.clock.cfg.sync ≠ .follower) (hramp : s.clock.ramp = .none) (he : s.currentEntry? = some e)
    (hi : inc = (nominal s.clock.cfg s.clock.period (e.speed * 1000) + s.clock.rem) / 1000000000000000)
    (hlt : inc < toEntryEnd s.clock e) :
    u.runPeriod.ctrl.state = .running ∧ u.runPeriod.clock.state = .advancing ∧ u.runPeriod.clock.speed = e.speed * 1000 ∧
      u.runPeriod.clock.time = moveTime s.clock.dir s.clock.time inc ∧
      u.runPeriod.clock.rem = (nominal s.clock.cfg s.clock.period (e.speed * 1000) + s.clock.rem) % 1000000000000000 := by
  obtain ⟨h1, h2, h3, h4, hl⟩ := advanceClock_goesOn (c := fallenClock s.clock) (n := s.ctrl.entry)
    (next := s.runEntry? (s.ctrl.entry + 1)) hsync hramp hi hlt
  obtain ⟨hstate, -, hno, hcross⟩ := period_moves ho ha he rfl hl (by rw [hr]; decide) (by rw [hr]; simp)
  have hclock : ∀ x, u.runPeriod.clock =
      { (advanceClock (fallenClock s.clock) s.ctrl.entry e (s.runEntry? (s.ctrl.entry + 1))).1 with trigger := x } →
      u.runPeriod.clock.state = .advancing ∧ u.runPeriod.clock.speed = e.speed * 1000 ∧
        u.runPeriod.clock.time = moveTime s.clock.dir s.clock.time inc ∧
        u.runPeriod.clock.rem = (nominal s.clock.cfg s.clock.period (e.speed * 1000) + s.clock.rem) % 1000000000000000 :=
    fun x hx => by
      rw [hx]
      exact ⟨h1.trans ha, h2, h3, h4⟩
  refine ⟨hstate.trans hr, ?_⟩
  cases hn : (advanceClock (fallenClock s.clock) s.ctrl.entry e (s.runEntry? (s.ctrl.entry + 1))).2.crossing with
  | none => exact hclock _ (hno hn).1
  | some n =>
    have ht := (hcross n hn).1
    split at ht
    · exact hclock _ ht
    · exact hclock _ ht

/-! ### A period with the clock standing, and the generator's share -/

/-- R67, R78: a clock that stands, and the setpoint of an attached axis in IDLE. -/
theorem period_stands (ho : Opens s u pins) (ha : s.clock.state ≠ .advancing) :
    ((s.ctrl.state ≠ .jogging ∨ s.ctrl.ret = none) → u.runPeriod.clock = fallenClock s.clock) ∧
      (s.ctrl.state ≠ .jogging → s.ctrl.stopForm = none → u.runPeriod.ctrl.state = s.ctrl.state) ∧
      (∀ a, s.configured a = true → s.driveOf a = .on → s.mon.detached[a] = [] → (s.gen.recs[a]).mode = .idle →
        u.formed.ctrl.setpoints[a] = s.ctrl.setpoints[a] ∧ u.formed.ctrl.clamped[a] = false) := by
  have hclock := runPeriod_standing_clock (ho.standing ha)
  have hstate := runPeriod_standing_state (ho.standing ha)
  rw [ho.ticks.ctrl, ho.ticks.clock] at hclock
  rw [ho.ticks.ctrl] at hstate
  refine ⟨hclock, hstate, fun a hconf hon hd hm => ?_⟩
  have hs := (formed_forms u).idle_stands (by rw [ho.configured]; exact hconf) (by rw [ho.driveOf]; exact hon)
    ((ho.mode hd).trans hm) (ho.standing ha)
  rw [ho.ticks.ctrl] at hs
  exact hs

/-- R67: the setpoint of an attached axis whose generator is in use. -/
theorem period_generated (ho : Opens s u pins) (hconf : s.configured a = true) (hon : s.driveOf a = .on)
    (hd : s.mon.detached[a] = []) (hm : (s.gen.recs[a]).mode ≠ .idle) :
    u.formed.ctrl.setpoints[a] = (s.steppedRec a).x ∧ u.formed.ctrl.clamped[a] = false := by
  obtain ⟨x, hx⟩ := ho.steppedRec hd
  have hs := (formed_forms u).generated (by rw [ho.configured]; exact hconf) (by rw [ho.driveOf]; exact hon)
    (by rw [ho.mode hd]; exact hm)
  rw [hx] at hs
  exact hs

/-- R79, R83, R163: what "all at rest" ends. -/
theorem period_atRest (ho : Opens s u pins) (ha : s.clock.state ≠ .advancing) (hd : ∀ a : Axis, s.mon.detached[a] = [])
    (hr : ∀ a, s.configured a = true → genAtRest (s.steppedRec a) = true ∧ jogInForce (s.steppedRec a) = false) :
    (s.ctrl.state = .stopping → s.ctrl.stopForm = some .generator → u.runPeriod.ctrl.state = .idle) ∧
      (s.ctrl.state = .faultStopping → s.ctrl.stopForm = some .generator → u.runPeriod.ctrl.state = .faulted) ∧
      (s.ctrl.state = .jogging → s.ctrl.ret = none → u.runPeriod.ctrl.state = .idle) ∧
      (∀ r, s.ctrl.state = .jogging → s.ctrl.ret = some r →
        u.runPeriod.ctrl.state = .held ∧ u.runPeriod.ctrl.entry = r.entry ∧ u.runPeriod.ctrl.ret = some r ∧
          u.runPeriod.clock.state = .atRest ∧ u.runPeriod.clock.time = r.time) := by
  have hs := runPeriod_atRest (ho.standing ha) (ho.stepped_atRest hd hr)
  rw [ho.ticks.ctrl] at hs
  exact hs

/-- R111: the first slot of a period. -/
theorem period_first {rest : List Axis} (haxes : u.runPeriod.axes = s.axes)
    (hperiod : u.runPeriod.clock.period = s.clock.period) (h : s.configuredAxes = a :: rest) :
    u.runPeriod.startPeriod.link.period =
        some
          { left := s.clock.period / 25 - 1, axes := a :: rest, first := rest, retries := [], good := []
            current := .setpoint a false, agedDone := false } ∧
      (u.runPeriod.startPeriod.link.recs[a]).lastSent = u.runPeriod.startPeriod.currentSetpoint a := by
  have hconf : u.runPeriod.configuredAxes = s.configuredAxes := by
    unfold State.configuredAxes State.configured
    rw [haxes]
  rw [← hperiod]
  exact startPeriod_first (hconf.trans h)

/-- Settles O59: the opening, the advance, the setpoints, what they bring, and the first slot. -/
theorem servoPeriodAdvancesTheClock : Obligations.ServoPeriodAdvancesTheClock := by
  unfold Obligations.ServoPeriodAdvancesTheClock
  intro pins s c hc hq hlink hl hT
  have hc : c = fallenClock s.clock := hc
  subst hc
  obtain ⟨u, ho, hrun⟩ := servoPeriod_opens pins hq hlink hl hT
  have hf := formed_forms u
  have hh := runPeriod_hands u
  have hcfg : u.runPeriod.clock.cfg = s.clock.cfg ∧ u.runPeriod.clock.period = s.clock.period := by
    obtain ⟨k, n, hk, h1, h2⟩ := advance_spec u
    rw [hh.cfg, hh.period, hf.clock, hk]
    exact ⟨h1.trans (by rw [ho.ticks.clock]; rfl), h2.trans (by rw [ho.ticks.clock]; rfl)⟩
  obtain ⟨hcfg, hperiod⟩ := hcfg
  have haxes : u.runPeriod.axes = s.axes := hh.axes.trans (hf.axes.trans ho.ticks.axes)
  have hcount : u.runPeriod.mon.periodCount = s.mon.periodCount + 1 :=
    hh.periodCount.trans ((congrArg (·.periodCount) hf.mon).trans ho.periodCount)
  have hfirst := fun (a : Axis) (rest : List Axis) (h : s.configuredAxes = a :: rest) => period_first haxes hperiod h
  obtain ⟨link, ht⟩ := startPeriod_link u.runPeriod
  rw [servoTimerExpiry_eq, hrun]
  refine ⟨_, rfl, ?_⟩
  have hcloses : ∀ o, PassCloses s u.runPeriod o → PassCloses s u.runPeriod.startPeriod o := fun o h => by
    rw [ht]
    exact h.later rfl (.refl _)
  have hproj : u.runPeriod.startPeriod.clock = u.runPeriod.clock ∧ u.runPeriod.startPeriod.ctrl = u.runPeriod.ctrl ∧
      u.runPeriod.startPeriod.lines = u.runPeriod.lines ∧ u.runPeriod.startPeriod.log = u.runPeriod.log ∧
      u.runPeriod.startPeriod.mon = u.runPeriod.mon ∧ u.runPeriod.startPeriod.axes = u.runPeriod.axes ∧
      u.runPeriod.startPeriod.wheels = u.runPeriod.wheels := by
    rw [ht]
    exact ⟨rfl, rfl, rfl, rfl, rfl, rfl, rfl⟩
  obtain ⟨hclock, hctrl, hlines, hlog, hmon, hax, hwh⟩ := hproj
  generalize u.runPeriod.startPeriod = t at *
  rw [hclock, hctrl, hlines, hlog, hmon, hax, hwh, hh.setpoints, hh.clamped]
  obtain ⟨hl1, hl2, hl3, hl4⟩ := period_lines ho
  refine ⟨hcount, haxes, hcfg, hperiod, hh.wheels.trans (hf.wheels.trans ho.ticks.wheels),
    ⟨hl1, hl2, hl3, hl4, fun hs l => ?_⟩, ?_, ?_, ?_, period_stands ho, ?_, ?_, ?_, hfirst⟩
  · have hs' : u.lines.cues = [] ∨ u.clock.state ≠ .advancing := hs.imp (fun h => ho.cues.trans h) ho.standing
    rw [period_lines_still hs']
    exact ho.lines l
  · intro e c' h kind ha he hp hadv l counted hcounted
    obtain ⟨ha', he', hadv'⟩ := ho.advances ha he hadv
    have hline := period_lines_cues ha' he' (by rw [ho.ticks.ctrl]; exact hp) hadv' l
    rw [ho.lines l, ← hcounted, ho.cues] at hline
    exact hline
  · intro e c' h ha he hadv
    refine ⟨fun hl' hj hg => period_moves ho ha he hadv hl' hj fun _ => hg, fun hl' hr hp => ?_, ?_⟩
    · obtain ⟨h1, h2, h3⟩ := period_lands ho ha he hadv hl' hr hp
      refine ⟨h1, h2, fun hle => ?_⟩
      obtain ⟨h4, h5, h6, h7, h8⟩ := h3 hle
      exact ⟨h4, h5, h6, fun hn => hcloses _ (h7 hn), h8⟩
    · intro a e' hconf hon hd hm he' held v hheld hv
      exact period_setpoint_moves ho ha he hadv hconf hon hd hm he' hheld hv
  · intro e inc hr ha hsync hramp he hi hlt
    exact period_inside ho hr ha hsync hramp he hi hlt
  · intro a hn
    rw [hf.unconfigured a (by rw [ho.configured]; exact hn), ho.ticks.ctrl]
  · intro a hconf hoff
    rw [← ho.currentSetpoint]
    exact hf.driven (by rw [ho.configured]; exact hconf) (by rw [ho.driveOf]; exact hoff)
  · intro stepped hstepped
    obtain rfl : stepped = s.steppedRec := funext hstepped
    exact ⟨fun a => period_generated ho, period_atRest ho⟩

end Sys2Proof.Machine
end

/-! SUPPORT. The run list round its bytes (R64, R65, Table 11-3), and the entries that name an empty slot (R64, R69, R70). -/
section
namespace Sys2Proof.Machine

/-! ### Run entries (Table 11-3) -/

/-- The record whose fields a run entry's bytes carry. -/
def rawOfEntry (e : RunEntry) : RawEntry :=
  { slot := e.slot.val + 1, startFrame := e.startFrame, endFrame := e.endFrame, speed := e.speed
    hold := if e.holdAtEnd then 1 else 0 }

theorem entryBytes_ne_nil (e : RunEntry) : entryBytes e ≠ [] := by simp [entryBytes, u8_eq]

theorem readEntry_entryBytes (e : RunEntry) (rest : List Byte) (h : entryInRange e = true) :
    readEntry (entryBytes e ++ rest) = some (rawOfEntry e, rest) := by
  obtain ⟨hs, he, -, hv, -⟩ := (entryInRange_iff e).mp h
  have hhold : (if e.holdAtEnd then (1 : Byte) else 0).toNat = if e.holdAtEnd then 1 else 0 := by cases e.holdAtEnd <;> rfl
  simp only [entryBytes, u8_eq, u16_eq, flag_eq, List.cons_append, List.nil_append, readEntry, slot_byte,
    beNat_u16 e.startFrame (by omega), beNat_u16 e.endFrame (by omega), beNat_u16 e.speed (by omega), hhold]
  rfl

theorem entryOfRaw_rawOfEntry {e : RunEntry} (h : entryInRange e = true) : entryOfRaw (rawOfEntry e) = some e := by
  obtain ⟨-, -, hlow, hhigh, hne⟩ := (entryInRange_iff e).mp h
  simp only [entryOfRaw, rawOfEntry, moveSlotOf_number, boolOf_flag]
  exact if_pos ⟨hlow, hhigh, hne⟩

section
variable {es : List RunEntry} (h : es.all entryInRange = true)
include h

theorem readAll_entries (fuel : Nat) (hf : es.length ≤ fuel) :
    readAll readEntry fuel (es.flatMap entryBytes) = some (es.map rawOfEntry) := by
  have hread := readAll_flatMap readEntry (fun e : { e : RunEntry // entryInRange e = true } => entryBytes e.1)
    (rawOfEntry ∘ Subtype.val) (fun e rest => readEntry_entryBytes e.1 rest e.2) (fun e => entryBytes_ne_nil e.1)
    (es.attachWith _ (List.all_eq_true.mp h)) fuel (by rwa [List.length_attachWith])
  rwa [← List.flatMap_map Subtype.val, ← List.map_map, List.attachWith_map_subtype_val] at hread

theorem entriesOfRaw_entries : entriesOfRaw (es.map rawOfEntry) = some es := by
  induction es with
  | nil => rfl
  | cons e es ih =>
    rw [List.all_cons, Bool.and_eq_true] at h
    simp only [List.map_cons, entriesOfRaw, entryOfRaw_rawOfEntry h.1, ih h.2]

theorem takeLoadOperands_entries (h1 : 1 ≤ es.length) (h20 : es.length ≤ 20) :
    takeLoadOperands (u16 es.length ++ es.flatMap entryBytes) = some (es.map rawOfEntry) := by
  simp only [u16_eq, List.cons_append, List.nil_append, takeLoadOperands, beNat_u16 es.length (by omega),
    readAll_entries h _ (length_le_flatMap entryBytes entryBytes_ne_nil es), List.length_map]
  exact if_pos ⟨h1, h20, trivial⟩

end

/-! ### Entries that name an empty slot -/

section
variable {s : State} {es : List RunEntry}

theorem entriesExist_of_all (h : ∀ e ∈ es, s.store.moves[e.slot].isSome = true) : s.entriesExist es = .ok () := by
  have hnone : s.firstEmptyEntry es = none := by
    rw [State.firstEmptyEntry, List.find?_eq_none.mpr, Option.map_none]
    intro p hp
    rw [Option.isNone_eq_false_iff.mpr (h p.2 (List.of_mem_zip hp).2)]
    exact Bool.false_ne_true
  rw [State.entriesExist, hnone]

/-- R64: the number of the first entry whose slot is empty goes with the refusal. -/
theorem entriesExist_of_empty {before after : List RunEntry} {e : RunEntry} (hes : es = before ++ e :: after)
    (hb : ∀ b ∈ before, s.store.moves[b.slot].isSome = true) (he : s.store.moves[e.slot] = none) :
    s.entriesExist es = .error { status := .noSuch, extra := u8 (before.length + 1) } := by
  have hsplit : (List.range es.length).zip es =
      (List.range before.length).zip before ++
        (before.length, e) :: (List.range' (before.length + 1) after.length).zip after := by
    subst hes
    rw [List.length_append, List.range_eq_range', List.range_eq_range', ← List.range'_append_1,
      List.zip_append List.length_range', List.length_cons, List.range'_succ, Nat.zero_add]
    rfl
  have hfind : s.firstEmptyEntry es = some (before.length + 1) := by
    rw [State.firstEmptyEntry, hsplit, List.find?_append, List.find?_eq_none.mpr, Option.none_or,
      List.find?_cons_of_pos (by simp [he]), Option.map_some]
    intro p hp
    rw [Option.isNone_eq_false_iff.mpr (hb p.2 (List.of_mem_zip hp).2)]
    exact Bool.false_ne_true
  rw [State.entriesExist, hfind]

end

/-! ### TAKE_LOAD and TAKE_GET -/

section
variable {s : State} {es : List RunEntry} {tag : Byte}

theorem takeGet_answer : takeGet tag [] s = .ok (s.reply Kind.takeGet tag .ok (counted entryBytes s.ctrl.runList)) := rfl

section
variable (h1 : 1 ≤ es.length) (h20 : es.length ≤ 20) (hin : es.all entryInRange = true)
include h1 h20 hin

/-- R64: a TAKE_LOAD with a body in range goes on with the test of the state. -/
theorem takeLoad_entries :
    takeLoad tag (u16 es.length ++ es.flatMap entryBytes) s =
      ensure .wrongState (s.ctrl.state = .idle || s.ctrl.state = .faulted) >>= fun _ =>
        s.entriesExist es >>= fun _ =>
          .ok ({ s with ctrl := { s.ctrl with runList := es } }.reply Kind.takeLoad tag .ok (u8 es.length)) := by
  simp only [takeLoad, takeLoadOperands_entries hin h1 h20, need_some_bind, entriesOfRaw_entries hin]
  rfl

theorem takeLoad_elsewhere (hi : s.ctrl.state ≠ .idle) (hf : s.ctrl.state ≠ .faulted) :
    takeLoad tag (u16 es.length ++ es.flatMap entryBytes) s = refusedWith .wrongState := by
  rw [takeLoad_entries h1 h20 hin, decide_eq_false hi, decide_eq_false hf]
  rfl

variable (hst : s.ctrl.state = .idle ∨ s.ctrl.state = .faulted)
include hst

theorem takeLoad_loads :
    takeLoad tag (u16 es.length ++ es.flatMap entryBytes) s =
      s.entriesExist es >>= fun _ =>
        .ok ({ s with ctrl := { s.ctrl with runList := es } }.reply Kind.takeLoad tag .ok (u8 es.length)) := by
  have htest : (decide (s.ctrl.state = .idle) || decide (s.ctrl.state = .faulted)) = true := by
    simpa only [Bool.or_eq_true, decide_eq_true_eq] using hst
  rw [takeLoad_entries h1 h20 hin, htest]
  rfl

theorem takeLoad_accepted (hall : ∀ e ∈ es, s.store.moves[e.slot].isSome = true) :
    takeLoad tag (u16 es.length ++ es.flatMap entryBytes) s =
      .ok ({ s with ctrl := { s.ctrl with runList := es } }.reply Kind.takeLoad tag .ok (u8 es.length)) := by
  rw [takeLoad_loads h1 h20 hin hst, entriesExist_of_all hall]
  rfl

theorem takeLoad_emptySlot {before after : List RunEntry} {e : RunEntry} (hes : es = before ++ e :: after)
    (hb : ∀ b ∈ before, s.store.moves[b.slot].isSome = true) (he : s.store.moves[e.slot] = none) :
    takeLoad tag (u16 es.length ++ es.flatMap entryBytes) s =
      .error { status := .noSuch, extra := u8 (before.length + 1) } := by
  rw [takeLoad_loads h1 h20 hin hst, entriesExist_of_empty hes hb he]
  rfl

end

end

/-- Settles O21, from the outcomes of TAKE_LOAD and TAKE_GET. -/
theorem takeLoadAndGet : Obligations.TakeLoadAndGet := by
  unfold Obligations.TakeLoadAndGet
  refine fun es tag s => ⟨fun h1 h20 hin => ⟨fun hst hall => conclude_of_accepted (takeLoad_accepted h1 h20 hin hst hall),
    fun hi hf => conclude_of_refused (takeLoad_elsewhere h1 h20 hin hi hf), fun before e after hes hst hb he => ?_⟩,
    conclude_of_accepted (kind := Kind.takeGet) (tag := tag) (s := s) takeGet_answer⟩
  exact congrArg (conclude s Kind.takeLoad tag) (takeLoad_emptySlot h1 h20 hin hst hes hb he)

end Sys2Proof.Machine
end

/-! CHECK and ARM (R69 to R71, R91, R92, R103): O22. -/
section
namespace Sys2Proof.Machine

/-! ### The configured axes -/

theorem mem_configuredAxes {s : State} {a : Axis} : a ∈ s.configuredAxes ↔ s.configured a = true := by
  simp [State.configuredAxes, mem_allAxes]

theorem allDrivesOn_iff {s : State} : s.allDrivesOn = true ↔ ∀ a : Axis, s.configured a = true → s.driveOf a = .on := by
  simp [State.allDrivesOn, List.all_eq_true, mem_configuredAxes]

theorem mem_allConds (i : CondId) : i ∈ allConds := List.mem_finRange i

theorem anyDetached_eq_false {s : State} (h : ∀ a : Axis, s.mon.detached[a] = []) : allAxes.any s.isDetached = false := by
  rw [List.any_eq_false]
  exact fun a _ => by simp [isDetached_false (h a)]

theorem anyDetached_of {s : State} {a : Axis} (h : s.mon.detached[a] ≠ []) : allAxes.any s.isDetached = true :=
  List.any_eq_true.mpr ⟨a, mem_allAxes a, isDetached_iff.mpr h⟩

/-! ### The tests of CHECK and ARM -/

section
variable {s : State} {tag : Byte} {kind : PassKind}

theorem passKindOf_number (kind : PassKind) : passKindOf (passKindNumber kind) = some kind := by cases kind <;> rfl

theorem arm_elsewhere (h : s.ctrl.state ≠ .idle) : arm tag (u8 (passKindNumber kind)) s = refusedWith .wrongState := by
  have hbyte : oneByte (u8 (passKindNumber kind)) = some (passKindNumber kind) :=
    oneByte_bytes _ (by cases kind <;> decide)
  simp only [arm, hbyte, need_some_bind, passKindOf_number, decide_eq_false h, Bool.false_and, ensure_false_bind, refusedWith]

theorem check_elsewhere (h : s.ctrl.state ≠ .idle) : check tag [] s = refusedWith .wrongState := by
  have hbody : noFields [] = some () := rfl
  simp only [check, hbody, need_some_bind, decide_eq_false h, Bool.false_and, ensure_false_bind, refusedWith]

/-- R70, test 6: no condition is latched, none that is active stops the run, and no axis is detached. -/
theorem faultBarsArm_eq_false
    (hc : ∀ i : CondId, (s.mon.insts[i]).latched = none ∧
      ((s.mon.insts[i]).active = true → hasAction s.mon .pathStop i = false ∧ hasAction s.mon .driveOff i = false))
    (hd : ∀ a : Axis, s.mon.detached[a] = []) : s.faultBarsArm = false := by
  rw [State.faultBarsArm, anyDetached_eq_false hd, Bool.or_false, List.any_eq_false]
  intro i _
  obtain ⟨hl, ha⟩ := hc i
  rw [hl]
  cases hact : (s.mon.insts[i]).active with
  | false => simp
  | true =>
    obtain ⟨hp, ho⟩ := ha hact
    simp [hp, ho]

/-- R70, test 7: one entry, run forward, and bindings of configured axes with no lens map. -/
theorem captureAllowed_of {e : RunEntry} (hl : s.ctrl.runList = [e]) (he : e.startFrame < e.endFrame)
    (hne : s.wheels.bindings ≠ [])
    (hb : ∀ b ∈ s.wheels.bindings, s.configured b.axis = true ∧ s.axes.maps[b.axis] = none) : s.captureAllowed = true := by
  have hall : (s.wheels.bindings.all fun b => s.configured b.axis && s.axes.maps[b.axis].isNone) = true := by
    rw [List.all_eq_true]
    intro b hm
    obtain ⟨hc, hmap⟩ := hb b hm
    rw [hc, hmap]
    rfl
  rw [State.captureAllowed, hl, hall]
  simp [entryDirection, he, hne]

section
variable (hi : s.ctrl.state = .idle) (hne : s.ctrl.runList ≠ [])
  (hall : ∀ e ∈ s.ctrl.runList, s.store.moves[e.slot].isSome = true)
include hi hne hall

theorem check_accepted :
    check tag [] s = .ok ((s.reply Kind.check tag .accepted []).beginCheck .check s.currentSetpoints) := by
  have hbody : noFields [] = some () := rfl
  have hlist : s.ctrl.runList.isEmpty = false := List.isEmpty_eq_false_iff.mpr hne
  simp only [check, hbody, need_some_bind, hi, decide_true, hlist, Bool.not_false, Bool.and_self, ensure_true_bind,
    entriesExist_of_all hall]
  rfl

theorem arm_accepted (hax : s.configuredAxes ≠ []) (hon : s.allDrivesOn = true) (hbars : s.faultBarsArm = false)
    (hkind : kind = .play ∨ s.captureAllowed = true) :
    arm tag (u8 (passKindNumber kind)) s =
      .ok ({ s.reply Kind.arm tag .accepted [] with
        ctrl := { s.ctrl with armSetpoints := some s.currentSetpoints } }.beginCheck (.arm kind) s.currentSetpoints) := by
  have hbyte : oneByte (u8 (passKindNumber kind)) = some (passKindNumber kind) :=
    oneByte_bytes _ (by cases kind <;> decide)
  have hlist : s.ctrl.runList.isEmpty = false := List.isEmpty_eq_false_iff.mpr hne
  have haxes : s.configuredAxes.isEmpty = false := List.isEmpty_eq_false_iff.mpr hax
  have hlast : (decide (kind = .play) || s.captureAllowed) = true := by simpa using hkind
  simp only [arm, hbyte, need_some_bind, passKindOf_number, hi, decide_true, hlist, haxes, hon, hbars, hlast, Bool.not_false,
    Bool.and_self, ensure_true_bind, entriesExist_of_all hall]
  rfl

end

end

/-- Settles O22: what an accepted CHECK and an accepted ARM begin, and their refusal outside IDLE. -/
theorem checkAndArmStartTheCheck : Obligations.CheckAndArmStartTheCheck := by
  unfold Obligations.CheckAndArmStartTheCheck
  refine fun tag s => ⟨fun hi hne hall => ⟨⟨_, conclude_of_accepted (check_accepted hi hne hall), rfl, rfl, rfl⟩, ?_⟩,
    fun hi => ⟨conclude_of_refused (check_elsewhere hi), fun kind => conclude_of_refused (arm_elsewhere hi)⟩⟩
  intro kind hax hon hc hd hkind
  have hallowed : kind = .play ∨ s.captureAllowed = true :=
    hkind.imp_right fun ⟨_, hl, he, hb, hbind⟩ => captureAllowed_of hl he hb hbind
  exact ⟨_, conclude_of_accepted (arm_accepted hi hne hall hax (allDrivesOn_iff.mpr hon) (faultBarsArm_eq_false hc hd) hallowed),
    rfl, rfl, rfl⟩

end Sys2Proof.Machine
end

/-! RETURN and the arrivals (R72, R82, R84, R164): O26. -/
section
namespace Sys2Proof.Machine

variable {s : State} {a : Axis} {tag : Byte}

/-! ### The generator's records, one by one -/

theorem genTargetAll_rec (targets : Vector Int 16) (hc : s.configured a = true) (hd : s.mon.detached[a] = []) :
    (s.genTargetAll targets).gen.recs[a] = toTarget (s.currentSetpoint a) targets[a] s.gen.recs[a] := by
  refine (tabulate_get _ a).trans (if_pos ?_)
  rw [hc, isDetached_false hd]
  rfl

theorem genReleaseAll_rec (hd : s.mon.detached[a] = []) (hm : (s.gen.recs[a]).mode ≠ .capture) :
    s.genReleaseAll.gen.recs[a] = toIdle s.gen.recs[a] := by
  refine (tabulate_get _ a).trans (if_neg ?_)
  rw [isDetached_false hd, decide_eq_false hm]
  decide

/-! ### RETURN -/

theorem returnToPath_accepted {r : ReturnRec} (hr : s.ctrl.ret = some r) (hst : s.ctrl.state = .jogging ∨ s.ctrl.state = .held) :
    returnToPath tag [] s = .ok ((s.reply Kind.returnToPath tag .ok []).beginReturn r) := by
  have hbody : noFields [] = some () := rfl
  have hallowed : s.returnAllowed = some r := by
    rw [State.returnAllowed, if_pos (by simpa using hst), hr]
  simp only [returnToPath, hbody, need_some_bind, hallowed]
  rfl

theorem returnToPath_elsewhere (h : s.ctrl.ret = none ∨ (s.ctrl.state ≠ .jogging ∧ s.ctrl.state ≠ .held)) :
    returnToPath tag [] s = refusedWith .wrongState := by
  have hbody : noFields [] = some () := rfl
  have hallowed : s.returnAllowed = none := by
    rw [State.returnAllowed]
    obtain hr | hst := h
    · rw [hr, ite_self]
    · exact if_neg (by simpa using hst)
  simp only [returnToPath, hbody, need_some_bind, hallowed, need_none_bind, refusedWith]

/-! ### Arrivals -/

theorem prerollArrival_due (hst : s.ctrl.state = .preroll) (hn : s.ctrl.inPos = 10) :
    exec .prerollArrival s = .next s.prerollArrives := by
  have h : (decide (s.ctrl.state = .preroll) && decide (s.ctrl.inPos = 10)) = true := by rw [hst, hn]; rfl
  exact congrArg Host.Outcome.next (if_pos h)

theorem prerollArrival_not_due (hn : s.ctrl.inPos ≠ 10) : exec .prerollArrival s = .next s := by
  have h : ¬(decide (s.ctrl.state = .preroll) && decide (s.ctrl.inPos = 10)) = true := by simp [hn]
  exact congrArg Host.Outcome.next (if_neg h)

theorem returnArrival_due {r : ReturnRec} (hst : s.ctrl.state = .returning) (hn : s.ctrl.inPos = 10) (hr : s.ctrl.ret = some r) :
    exec .returnArrival s = .next (s.returnArrives r) := by
  have h : exec .returnArrival s = execReturnArrival s := rfl
  rw [h]
  simp [execReturnArrival, hr, hst, hn]

theorem returnArrival_not_due (hn : s.ctrl.inPos ≠ 10) : exec .returnArrival s = .next s := by
  have h : exec .returnArrival s = execReturnArrival s := rfl
  rw [h]
  unfold execReturnArrival
  split
  · simp [hn]
  · rfl

/-- Settles O26: RETURN by the record and the state, and the two arrivals, due and not due. -/
theorem returnAndArrivals : Obligations.ReturnAndArrivals := by
  unfold Obligations.ReturnAndArrivals
  refine fun tag s => ⟨fun r hr hst => ⟨_, conclude_of_accepted (returnToPath_accepted hr hst), rfl, rfl, rfl, fun a hc hd => ?_⟩,
    fun h => conclude_of_refused (returnToPath_elsewhere h),
    fun hst hn => ⟨_, prerollArrival_due hst hn, rfl, fun a hd hm => ?_, rfl⟩,
    fun r hst hn hr => ⟨_, returnArrival_due hst hn hr, rfl, rfl, rfl⟩,
    fun hn => ⟨prerollArrival_not_due hn, returnArrival_not_due hn⟩⟩
  · have hrec := genTargetAll_rec (s := { s.reply Kind.returnToPath tag .ok [] with
      clock := stopClock s.clock, ctrl := { s.ctrl with inPos := 0 } }) r.setpoints hc hd
    exact ⟨congrArg GenRec.mode hrec, congrArg GenRec.target hrec⟩
  · have hrec := genReleaseAll_rec (s := { s with ctrl := { s.ctrl with inPos := 0 } }) hd hm
    exact ⟨congrArg GenRec.mode hrec, (congrArg GenRec.x hrec :)⟩

end Sys2Proof.Machine
end

/-! CHECK_COMPLETION (R69, R71, R72, R99, R103, R105): O27. -/
section
namespace Sys2Proof.Machine

variable {s u : State}

/-! ### The completed record (R99, R102, R103) -/

theorem completedCheck_pass_iff (s : State) (p : CheckProgress) :
    ((s.completedCheck p).outcome = .pass ↔ (s.completedCheck p).violation = none) ∧
      ((s.completedCheck p).outcome = .pass ↔ (s.completedCheck p).signature.isSome = true) := by
  simp only [State.completedCheck]
  cases State.firstViolation _ <;> simp

/-! ### What follows the record, by its purpose and outcome -/

theorem afterCheck_check (u : State) (o : CheckOutcome) : u.afterCheck .check o = u.enter .idle := by
  simp only [State.afterCheck]

theorem afterCheck_failed (u : State) (kind : PassKind) {o : CheckOutcome} (ho : o ≠ .pass) :
    u.afterCheck (.arm kind) o = u.discardArm.enter .idle := by
  cases o with
  | pass => exact absurd rfl ho
  | fail => rfl
  | cancelled => rfl

/-- R71: a drive that is not ON or a detached axis ends the arming. -/
theorem afterCheck_barred (u : State) (kind : PassKind) (h : u.allDrivesOn = false ∨ allAxes.any u.isDetached = true) :
    u.afterCheck (.arm kind) .pass = u.discardArm.enter .idle := by
  have hbar : ¬(u.allDrivesOn && !(allAxes.any u.isDetached)) = true := by
    obtain h | h := h <;> simp [h]
  unfold State.afterCheck
  split
  · exact if_neg hbar
  · next heq => cases heq
  · rfl

theorem afterCheck_passed {kind : PassKind} {arm : Vector Int 16} {e : RunEntry} (ha : u.ctrl.armSetpoints = some arm)
    (he : u.runEntry? 1 = some e) (hon : u.allDrivesOn = true) (hd : allAxes.any u.isDetached = false) :
    u.afterCheck (.arm kind) .pass = u.beginPreroll e arm := by
  simp only [State.afterCheck, ha, he, hon, hd, Bool.not_false, Bool.and_self, if_true]

/-- Whatever follows the record, it changes the controller, the generator and the console alone. -/
theorem afterCheck_spec (u : State) (p : Purpose) (o : CheckOutcome) :
    ∃ ctrl gen c, u.afterCheck p o = { u with ctrl := ctrl, gen := gen, console := c } ∧ u.console.Grows c := by
  unfold State.afterCheck
  split
  · split
    · exact ⟨_, _, _, rfl, Console.grows_queueStateReport _ _ _ _⟩
    · exact ⟨_, _, _, rfl, Console.grows_queueStateReport _ _ _ _⟩
  · exact ⟨_, _, _, rfl, Console.grows_queueStateReport _ _ _ _⟩
  · exact ⟨_, _, _, rfl, Console.grows_queueStateReport _ _ _ _⟩

/-- R72: the preroll's target of each axis is the path's setpoint at the first entry's start, held at the arm setpoint. -/
theorem beginPreroll_rec {e : RunEntry} {arm : Vector Int 16} {a : Axis} (hc : u.configured a = true)
    (hd : u.mon.detached[a] = []) :
    (u.beginPreroll e arm).gen.recs[a] = toTarget (u.currentSetpoint a) (u.prerollTarget e arm a) u.gen.recs[a] := by
  have hrec := genTargetAll_rec (s := { u with
    ctrl := { u.ctrl with prerollTargets := some (tabulate (u.prerollTarget e arm)), inPos := 0 } })
    (tabulate (u.prerollTarget e arm)) hc hd
  rw [tabulate_get] at hrec
  exact hrec

/-! ### The event -/

theorem checkCompletion_due {p : CheckProgress} (hst : s.ctrl.state = .checking) (hp : s.check.progress = some p)
    (ht : p.timeLeft ≤ s.clock.period) : exec .checkCompletion s = .next (s.completeCheck p) := by
  have hdue : s.checkDue = some p := by simp [State.checkDue, hp, hst, ht]
  have h : exec .checkCompletion s = execCheckCompletion s := rfl
  rw [h, execCheckCompletion, hdue]

theorem checkCompletion_not_due {p : CheckProgress} (hp : s.check.progress = some p) (ht : s.clock.period < p.timeLeft) :
    exec .checkCompletion s = .next s := by
  have hdue : s.checkDue = none := by simp [State.checkDue, hp, Nat.not_le.mpr ht]
  have h : exec .checkCompletion s = execCheckCompletion s := rfl
  rw [h, execCheckCompletion, hdue]

/-- Settles O27, by the purpose and the outcome of the check. -/
theorem checkCompletionActsOnItsPurpose : Obligations.CheckCompletionActsOnItsPurpose := by
  unfold Obligations.CheckCompletionActsOnItsPurpose
  refine fun s p hst hp => ⟨fun ht => ?_, checkCompletion_not_due hp⟩
  have hcomplete : s.completeCheck p =
      (s.recordCheck (s.completedCheck p)).afterCheck p.purpose (s.completedCheck p).outcome := rfl
  obtain ⟨ctrl, gen, c, hspec, hgrows⟩ :=
    afterCheck_spec (s.recordCheck (s.completedCheck p)) p.purpose (s.completedCheck p).outcome
  obtain ⟨hviolation, hsignature⟩ := completedCheck_pass_iff s p
  refine ⟨_, s.completedCheck p, checkCompletion_due hst hp ht, ?_⟩
  rw [hcomplete]
  refine ⟨by rw [hspec]; rfl, rfl, rfl, rfl, rfl, hviolation, hsignature, fun hk => by rw [hk, afterCheck_check]; rfl, ?_,
    fun kind hk ho => by rw [hk, afterCheck_failed _ _ ho]; exact ⟨rfl, rfl⟩, fun kind hk ho hbar => ?_,
    fun kind arm e hk ho ha he hon hd => ?_, by rw [hspec]; rfl, fun hk => by rw [hk, afterCheck_check]; rfl⟩
  · rw [hspec]
    exact hgrows.mem (Console.mem_queueMessage _ _) rfl
  · rw [hk, ho, afterCheck_barred]
    · exact ⟨rfl, rfl, rfl⟩
    · obtain ⟨a, hc, hoff⟩ | ⟨a, hdet⟩ := hbar
      · exact .inl (Bool.eq_false_iff.mpr fun hon => hoff (allDrivesOn_iff (s := s).mp hon a hc))
      · exact .inr (anyDetached_of (s := s) hdet)
  · rw [hk, ho, afterCheck_passed (u := s.recordCheck _) ha he (allDrivesOn_iff (s := s).mpr hon) (anyDetached_eq_false (s := s) hd)]
    refine ⟨rfl, rfl, fun a hc => ?_⟩
    have hrec := beginPreroll_rec (u := s.recordCheck (s.completedCheck p)) (e := e) (arm := arm) hc (hd a)
    exact ⟨congrArg GenRec.mode hrec, congrArg GenRec.target hrec⟩

end Sys2Proof.Machine
end

/-! SUPPORT. Drives turned off by request (R73, R85, R115, R118): the link records, and what the run controller makes of a drive that leaves
ON. -/
section
namespace Sys2Proof.Machine

variable {s t u : State}

/-! ### The link records -/

/-- From s to t axes of a list have been turned OFF: nothing else of the link changes, and no measured position. -/
structure TurnsRecsOff (as : List Axis) (s t : State) : Prop where
  rest : { t.link with recs := s.link.recs } = s.link
  measured : ∀ b : Axis, (t.link.recs[b]).measured = (s.link.recs[b]).measured
  others : ∀ b : Axis, b ∉ as → t.link.recs[b] = s.link.recs[b]

theorem TurnsRecsOff.of_link {as : List Axis} (h : t.link = s.link) : TurnsRecsOff as s t := by
  refine ⟨?_, fun b => ?_, fun b _ => ?_⟩ <;> rw [h]

theorem TurnsRecsOff.trans {as bs : List Axis} (h : TurnsRecsOff as s t) (h' : TurnsRecsOff bs t u) :
    TurnsRecsOff (as ++ bs) s u where
  rest := (congrArg (fun l : Link => { l with recs := s.link.recs }) h'.rest).trans h.rest
  measured b := (h'.measured b).trans (h.measured b)
  others b hb := by
    rw [List.mem_append, not_or] at hb
    exact (h'.others b hb.2).trans (h.others b hb.1)

theorem setLinkRec_turnsRecsOff (s : State) (a : Axis) : TurnsRecsOff [a] s (s.setLinkRec a (offRec s.link.recs[a])) := by
  have hrec (b : Axis) : (s.setLinkRec a (offRec s.link.recs[a])).link.recs[b] =
      if a = b then offRec s.link.recs[a] else s.link.recs[b] := put_get _ _ _ _
  refine ⟨rfl, fun b => ?_, fun b hb => ?_⟩
  · rw [hrec]
    split
    · next h => rw [← h]; rfl
    · rfl
  · rw [hrec, if_neg fun h => hb (List.mem_singleton.mpr h.symm)]

theorem genDriveLeft_link (s : State) (a : Axis) : (s.genDriveLeft a).link = s.link := by
  unfold State.genDriveLeft
  simp only
  split <;> rfl

theorem turnOffAxis_turnsRecsOff (s : State) (a : Axis) : TurnsRecsOff [a] s (s.turnOffAxis a) := by
  unfold State.turnOffAxis
  split
  · exact .of_link rfl
  · exact setLinkRec_turnsRecsOff s a
  · exact (setLinkRec_turnsRecsOff s a).trans (bs := []) (.of_link (genDriveLeft_link _ a))

theorem foldl_turnsRecsOff (as : List Axis) : ∀ s : State, TurnsRecsOff as s (as.foldl State.turnOffAxis s) := by
  induction as with
  | nil => exact fun s => .of_link rfl
  | cons a as ih => exact fun s => (turnOffAxis_turnsRecsOff s a).trans (ih _)

/-! ### The run controller meets a drive that leaves ON -/

theorem driveLeftOn_armed (h : s.ctrl.state = .armed) : s.driveLeftOn = s.abandonArm := by simp only [State.driveLeftOn, h]

theorem driveLeftOn_held (h : s.ctrl.state = .held) :
    s.driveLeftOn = ((s.withCtrl .idle none).endPass .stopped).reportState := by simp only [State.driveLeftOn, h]

theorem driveLeftOn_jogging (h : s.ctrl.state = .jogging) (hr : s.ctrl.ret.isSome = true) :
    s.driveLeftOn = s.endPass .stopped := by simp only [State.driveLeftOn, h, hr, if_true]

theorem driveLeftOn_elsewhere (ha : s.ctrl.state ≠ .armed) (hh : s.ctrl.state ≠ .held)
    (hj : s.ctrl.state = .jogging → s.ctrl.ret = none) : s.driveLeftOn = s := by
  unfold State.driveLeftOn
  split
  · next h => exact absurd h ha
  · next h => exact absurd h hh
  · next h => rw [hj h]; rfl
  · rfl

/-- From s to t the tables, the link and the check stand, and messages have become due. -/
structure KeepsRig (s t : State) : Prop where
  fittings : t.fittings = s.fittings
  check : t.check = s.check
  link : t.link = s.link
  grows : s.console.Grows t.console

theorem KeepsRig.trans (h : KeepsRig s t) (h' : KeepsRig t u) : KeepsRig s u :=
  ⟨h'.fittings.trans h.fittings, h'.check.trans h.check, h'.link.trans h.link, h.grows.trans h'.grows⟩

theorem KeepsRig.refl (s : State) : KeepsRig s s := ⟨rfl, rfl, rfl, .refl _⟩

theorem SettlesFaults.keepsRig (h : SettlesFaults s t) : KeepsRig s t := ⟨h.fittings, h.check, h.link, h.grows⟩

theorem EndsAny.keepsRig {o : PassOutcome} (h : EndsAny s t o) : KeepsRig s t := ⟨h.fittings, h.check, h.link, h.grows⟩

theorem reportState_keepsRig (s : State) : KeepsRig s s.reportState := ⟨rfl, rfl, rfl, s.reportState_grows⟩

theorem driveLeftOn_keepsRig (s : State) : KeepsRig s s.driveLeftOn := by
  unfold State.driveLeftOn
  split
  · exact ⟨rfl, rfl, rfl, (s.discardArm.withCtrl .idle none).reportState_grows⟩
  · exact (show KeepsRig s (s.withCtrl .idle none) from ⟨rfl, rfl, rfl, .refl _⟩).trans
      ((endPass_any _ .stopped).keepsRig.trans (reportState_keepsRig _))
  · split
    · exact (endPass_any s .stopped).keepsRig
    · exact .refl s
  · exact .refl s

/-! ### Drives turned off -/

/-- From s to t the drives of a list have been turned OFF, with what the run controller makes of one that leaves ON. -/
structure TurnsDrivesOff (as : List Axis) (s t : State) : Prop where
  fittings : t.fittings = s.fittings
  check : t.check = s.check
  grows : s.console.Grows t.console
  recs : TurnsRecsOff as s t
  drives : ∀ b ∈ as, t.driveOf b = .off
  stands : ((∀ b ∈ as, s.driveOf b ≠ .on) ∨
      (s.ctrl.state ≠ .armed ∧ s.ctrl.state ≠ .held ∧ (s.ctrl.state = .jogging → s.ctrl.ret = none))) →
    t.ctrl = s.ctrl ∧ t.clock = s.clock ∧ t.store = s.store ∧ t.log = s.log
  armed : (∃ b ∈ as, s.driveOf b = .on) → s.ctrl.state = .armed →
    t.ctrl = s.abandonArm.ctrl ∧ t.clock = s.clock ∧ t.store = s.store ∧ t.log = s.log
  held : (∃ b ∈ as, s.driveOf b = .on) → s.ctrl.pass.isSome = true → s.ctrl.state = .held →
    t.ctrl = endedCtrl (s.withCtrl .idle none).ctrl ∧ t.clock = stopClock s.clock ∧ PassCloses s t .stopped
  jogging : (∃ b ∈ as, s.driveOf b = .on) → s.ctrl.pass.isSome = true → s.ctrl.state = .jogging → s.ctrl.ret.isSome = true →
    t.ctrl = endedCtrl s.ctrl ∧ t.clock = stopClock s.clock ∧ PassCloses s t .stopped

theorem turnOff_turnsDrivesOff (s : State) (as : List Axis) : TurnsDrivesOff as s (s.turnOff as) := by
  have ht := foldl_turnOffAxis as s
  have hr := foldl_turnsRecsOff as s
  have hturn : ∃ b, s.turnOff as =
      (if (as.filter fun a => s.driveOf a = .on).isEmpty then as.foldl State.turnOffAxis s
        else (as.foldl State.turnOffAxis s).driveLeftOn).settleFaults b := ⟨_, rfl⟩
  obtain ⟨b, hturn⟩ := hturn
  have hon (h : ∃ b ∈ as, s.driveOf b = .on) : (as.filter fun a => s.driveOf a = .on).isEmpty = false := by
    obtain ⟨b, hb, hd⟩ := h
    exact List.isEmpty_eq_false_iff.mpr (List.ne_nil_of_mem (List.mem_filter.mpr ⟨hb, by simpa using hd⟩))
  generalize as.foldl State.turnOffAxis s = v at ht hr hturn
  have hs := settleFaults_settles
    (if (as.filter fun a => s.driveOf a = .on).isEmpty then v else v.driveLeftOn) b
  rw [← hturn] at hs
  generalize s.turnOff as = t at hs
  have hkeep : KeepsRig v (if (as.filter fun a => s.driveOf a = .on).isEmpty then v else v.driveLeftOn) := by
    split
    · exact .refl v
    · exact driveLeftOn_keepsRig v
  have hk := hkeep.trans hs.keepsRig
  refine ⟨hk.fittings.trans ht.fittings, hk.check.trans ht.check, by rw [← ht.console]; exact hk.grows,
    hr.trans (bs := []) (.of_link hk.link) |> fun h => by rwa [List.append_nil] at h, fun b hb => ?_, fun hno => ?_,
    fun h hst => ?_, fun h hp hst => ?_, fun h hp hst hret => ?_⟩
  · have hd := ht.drives b (.inl hb)
    simpa only [State.driveOf, hk.link] using hd
  · have hv : (if (as.filter fun a => s.driveOf a = .on).isEmpty then v else v.driveLeftOn) = v := by
      obtain hno | ⟨h1, h2, h3⟩ := hno
      · have hnil : (as.filter fun a => s.driveOf a = .on) = [] :=
          List.filter_eq_nil_iff.mpr fun b hb => by simpa using hno b hb
        rw [hnil]
        rfl
      · rw [driveLeftOn_elsewhere (by rwa [ht.ctrl]) (by rwa [ht.ctrl]) (by rwa [ht.ctrl]), ite_self]
    rw [hv] at hs
    exact ⟨hs.ctrl.trans ht.ctrl, hs.clock.trans ht.clock, hs.store.trans ht.store, hs.log.trans ht.log⟩
  · rw [hon h, if_neg Bool.false_ne_true, driveLeftOn_armed (by rwa [ht.ctrl])] at hs
    refine ⟨hs.ctrl.trans ?_, hs.clock.trans ht.clock, hs.store.trans ht.store, hs.log.trans ht.log⟩
    simp only [State.abandonArm, State.discardArm, State.enter, State.withCtrl, State.reportState_ctrl, ht.ctrl]
  · rw [hon h, if_neg Bool.false_ne_true, driveLeftOn_held (by rwa [ht.ctrl])] at hs
    obtain ⟨kind, hkind⟩ := Option.isSome_iff_exists.mp hp
    have he := endPass_ends (v.withCtrl .idle none) (kind := kind) .stopped (by rw [← hkind, ← ht.ctrl]; rfl)
    refine ⟨hs.ctrl.trans (he.ctrl.trans ?_), hs.clock.trans (he.clock.trans ?_), ?_⟩
    · simp only [State.withCtrl, ht.ctrl]
    · exact congrArg stopClock ht.clock
    · exact (he.closes.later (u := t) hs.log ((State.reportState_grows _).trans hs.grows)).of_log ht.log
  · rw [hon h, if_neg Bool.false_ne_true, driveLeftOn_jogging (by rwa [ht.ctrl]) (by rwa [ht.ctrl])] at hs
    obtain ⟨kind, hkind⟩ := Option.isSome_iff_exists.mp hp
    have he := endPass_ends v (kind := kind) .stopped (by rw [ht.ctrl, hkind])
    refine ⟨hs.ctrl.trans (he.ctrl.trans ?_), hs.clock.trans (he.clock.trans ?_), ?_⟩
    · rw [ht.ctrl]
    · rw [ht.clock]
    · exact (he.closes.later (u := t) hs.log hs.grows).of_log ht.log

end Sys2Proof.Machine
end

/-! DRIVES_ON and DRIVES_OFF (R73, R85, R116, R118, R154): O29. -/
section
namespace Sys2Proof.Machine

variable {s : State} {tag : Byte} {mask : Nat}

/-! ### The mask of a list over axes -/

/-- A number below 2ⁿ is the sum of its bits. -/
theorem sum_testBit (mask n : Nat) :
    ((List.range n).map fun i => if mask.testBit i then 2 ^ i else 0).sum = mask % 2 ^ n := by
  induction n with
  | zero => simp [Nat.mod_one]
  | succ n ih =>
    rw [List.range_succ, List.map_append, List.sum_append, ih, Nat.mod_pow_succ, ← Nat.toNat_testBit]
    cases h : mask.testBit n <;> simp [h]

theorem foldl_filter_add (p : Axis → Bool) (as : List Axis) (m : Nat) :
    (as.filter p).foldl (fun m a => m + 2 ^ a.val) m = m + (as.map fun a => if p a then 2 ^ a.val else 0).sum := by
  induction as generalizing m with
  | nil => rfl
  | cons a as ih =>
    rw [List.filter_cons, List.map_cons, List.sum_cons]
    split <;> simp [ih, Nat.add_assoc]

theorem maskOf_testBit (h : mask < 65536) : (maskOf fun a => mask.testBit a.val) = mask := by
  have hmap : (allAxes.map fun a => if mask.testBit a.val then 2 ^ a.val else 0) =
      (List.range 16).map fun i => if mask.testBit i then 2 ^ i else 0 := rfl
  rw [maskOf, foldl_filter_add, hmap, sum_testBit, Nat.zero_add]
  exact Nat.mod_eq_of_lt h

/-- R118: the list of the axes named, each OFF. -/
theorem overAxes_off (h : mask < 65536) :
    overAxes (fun a => mask.testBit a.val) (fun _ => u8 (driveNumber .off)) =
      u16 mask ++ (allAxes.filter fun a => mask.testBit a.val).map fun _ => (0 : Byte) := by
  rw [overAxes, maskOf_testBit h]
  exact congrArg _ List.map_eq_flatMap.symm

/-! ### DRIVES_ON -/

/-- R116: an axis that an accepted DRIVES_ON lists ENABLING. -/
theorem driveListing_enabling (r : AxisRec) (l : LinkRec) : driveListing r l = .enabling ↔
    r.configured = true ∧ l.drive = .off ∧ l.stale = false ∧ r.softMin ≤ l.measured ∧ l.measured ≤ r.softMax := by
  unfold driveListing
  split
  · next h =>
    rw [Bool.and_eq_true, decide_eq_true_eq] at h
    split
    · next hs => simp [hs]
    · next hs =>
      split
      · next hout =>
        rw [Bool.or_eq_true, decide_eq_true_eq, decide_eq_true_eq] at hout
        exact ⟨fun hf => (nomatch hf), fun ⟨_, _, _, hlo, hhi⟩ => by omega⟩
      · next hin =>
        rw [Bool.or_eq_true, decide_eq_true_eq, decide_eq_true_eq, not_or] at hin
        exact ⟨fun _ => ⟨h.1, h.2, by simpa using hs, by omega, by omega⟩, fun _ => rfl⟩
  · next h =>
    rw [Bool.and_eq_true, decide_eq_true_eq] at h
    exact ⟨fun hf => (nomatch hf), fun ⟨hc, hd, _⟩ => absurd ⟨hc, hd⟩ h⟩

/-- R116: DRIVES_ON changes link records alone, each axis that it lists ENABLING by its own. -/
theorem enableDrives_spec (s : State) (mask : Nat) : ∃ recs,
    s.enableDrives mask = { s with link := { s.link with recs := recs } } ∧
      ∀ a : Axis, recs[a] =
        if mask.testBit a.val ∧ s.configured a = true ∧ s.driveOf a = .off ∧ (s.link.recs[a]).stale = false ∧
            (s.axes.recs[a]).softMin ≤ (s.link.recs[a]).measured ∧
            (s.link.recs[a]).measured ≤ (s.axes.recs[a]).softMax then
          enablingRec s.link.recs[a]
        else s.link.recs[a] := by
  refine ⟨_, rfl, fun a => (tabulate_get _ a).trans (if_congr ?_ rfl rfl)⟩
  rw [Bool.and_eq_true, decide_eq_true_eq, State.listingOf, driveListing_enabling]
  rfl

theorem driveOffLatched_iff : s.driveOffLatched = true ↔ ∃ i : CondId, (s.mon.insts[i]).latched = some .driveOff := by
  rw [State.driveOffLatched, List.any_eq_true]
  exact ⟨fun ⟨i, _, h⟩ => ⟨i, of_decide_eq_true h⟩, fun ⟨i, h⟩ => ⟨i, mem_allConds i, decide_eq_true h⟩⟩

section
variable (h1 : 1 ≤ mask) (hm : mask < 65536)
include h1 hm

theorem drivesOn_pending (hp : s.runPending = true) : drivesOn tag (u16 mask) s = refusedWith .wrongState := by
  simp only [drivesOn, oneMask_bytes mask hm, need_some_bind, decide_eq_false (Nat.one_le_iff_ne_zero.mp h1), Bool.not_false,
    ensure_true_bind, hp, Bool.not_true, ensure_false_bind, refusedWith]

theorem drivesOn_barred (hp : s.runPending = false)
    (hb : (∃ i : CondId, (s.mon.insts[i]).latched = some .driveOff) ∨ s.estopActive = true) :
    drivesOn tag (u16 mask) s = refusedWith .faultActive := by
  have hbar : (s.driveOffLatched || s.estopActive) = true := by rwa [Bool.or_eq_true, driveOffLatched_iff]
  simp only [drivesOn, oneMask_bytes mask hm, need_some_bind, decide_eq_false (Nat.one_le_iff_ne_zero.mp h1), Bool.not_false,
    ensure_true_bind, hp, hbar, Bool.not_true, ensure_false_bind, refusedWith]

theorem drivesOn_accepted (hp : s.runPending = false) (hl : ∀ i : CondId, (s.mon.insts[i]).latched ≠ some .driveOff)
    (he : s.estopActive = false) :
    drivesOn tag (u16 mask) s =
      .ok ((s.enableDrives mask).reply Kind.drivesOn tag .ok (overAxes (fun a => mask.testBit a.val) s.listingBytes)) := by
  have hlatched : s.driveOffLatched = false :=
    Bool.eq_false_iff.mpr fun h => (driveOffLatched_iff.mp h).elim fun i hi => hl i hi
  simp only [drivesOn, oneMask_bytes mask hm, need_some_bind, decide_eq_false (Nat.one_le_iff_ne_zero.mp h1), Bool.not_false,
    ensure_true_bind, hp, hlatched, he, Bool.or_self]
  rfl

/-! ### DRIVES_OFF -/

theorem drivesOff_heldOn (h : s.ctrl.state = .running ∨ s.ctrl.state = .holding ∨ s.ctrl.state = .preroll ∨
    s.ctrl.state = .returning ∨ s.ctrl.state = .stopping) : drivesOff tag (u16 mask) s = refusedWith .wrongState := by
  have hheld : s.drivesHeldOn = true := by
    obtain h | h | h | h | h := h <;> simp only [State.drivesHeldOn, h]
  simp only [drivesOff, oneMask_bytes mask hm, need_some_bind, decide_eq_false (Nat.one_le_iff_ne_zero.mp h1), Bool.not_false,
    ensure_true_bind, hheld, Bool.not_true, ensure_false_bind, refusedWith]

theorem drivesOff_accepted (hheld : s.drivesHeldOn = false) :
    drivesOff tag (u16 mask) s =
      .ok ((s.reply Kind.drivesOff tag .ok
        (u16 mask ++ (allAxes.filter fun a => mask.testBit a.val).map fun _ => (0 : Byte))).turnOff
          (allAxes.filter fun a => mask.testBit a.val)) := by
  simp only [drivesOff, oneMask_bytes mask hm, need_some_bind, decide_eq_false (Nat.one_le_iff_ne_zero.mp h1), Bool.not_false,
    ensure_true_bind, hheld, overAxes_off hm]
  rfl

end

theorem drivesHeldOn_eq_false (hr : s.ctrl.state ≠ .running) (hh : s.ctrl.state ≠ .holding) (hp : s.ctrl.state ≠ .preroll)
    (hret : s.ctrl.state ≠ .returning) (hs : s.ctrl.state ≠ .stopping) : s.drivesHeldOn = false := by
  unfold State.drivesHeldOn
  split
  · next h => exact absurd h hr
  · next h => exact absurd h hh
  · next h => exact absurd h hp
  · next h => exact absurd h hret
  · next h => exact absurd h hs
  · rfl

theorem mem_maskAxes {a : Axis} : a ∈ (allAxes.filter fun a => mask.testBit a.val) ↔ mask.testBit a.val = true := by
  simp [mem_allAxes]

/-- Settles O29: DRIVES_ON record by record, DRIVES_OFF by the controller's state, and their refusals. -/
theorem drivesOnAndOff : Obligations.DrivesOnAndOff := by
  unfold Obligations.DrivesOnAndOff
  refine fun mask tag s h1 hm => ⟨fun hp hl he => ⟨_, conclude_of_accepted (drivesOn_accepted h1 hm hp hl he), ?_⟩,
    fun hp => conclude_of_refused (drivesOn_pending h1 hm hp),
    fun hp hb => conclude_of_refused (drivesOn_barred h1 hm hp hb), fun hr hh hpre hret hstop => ?_,
    fun h => conclude_of_refused (drivesOff_heldOn h1 hm h)⟩
  · obtain ⟨recs, henable, hrecs⟩ := enableDrives_spec s mask
    rw [henable]
    exact ⟨rfl, rfl, hrecs⟩
  refine ⟨_, conclude_of_accepted (drivesOff_accepted h1 hm (drivesHeldOn_eq_false hr hh hpre hret hstop)), ?_⟩
  have hmem : (.reply 0xB1 tag (0 :: u16 mask ++ (allAxes.filter fun a => mask.testBit a.val).map fun _ => (0 : Byte)) : Message) ∈
      (s.reply Kind.drivesOff tag .ok
        (u16 mask ++ (allAxes.filter fun a => mask.testBit a.val).map fun _ => (0 : Byte))).console.waiting :=
    Console.mem_queueMessage _ _
  have ht := turnOff_turnsDrivesOff (s.reply Kind.drivesOff tag .ok
    (u16 mask ++ (allAxes.filter fun a => mask.testBit a.val).map fun _ => (0 : Byte)))
    (allAxes.filter fun a => mask.testBit a.val)
  generalize State.turnOff _ _ = t at ht ⊢
  obtain ⟨haxes, hwheels, hlines⟩ := fittings_eq ht.fittings
  refine ⟨haxes, hwheels, hlines, ht.check, ht.recs.rest, ht.grows.mem hmem rfl, fun hno => ht.stands ?_,
    fun a ha hd => ⟨fun hst => ht.armed ⟨a, mem_maskAxes.mpr ha, hd⟩ hst, fun kind hk hst => ?_⟩,
    fun a => ⟨fun ha => ⟨ht.drives a (mem_maskAxes.mpr ha), ht.recs.measured a⟩, fun ha => ht.recs.others a ?_⟩⟩
  · exact hno.imp_left fun h b hb => h b (mem_maskAxes.mp hb)
  · have hp : s.ctrl.pass.isSome = true := by rw [hk]; rfl
    obtain hst | ⟨hst, hret⟩ := hst
    · obtain ⟨h2, h3, h4⟩ := ht.held ⟨a, mem_maskAxes.mpr ha, hd⟩ hp hst
      rw [if_pos hst, if_pos hst, h3]
      exact ⟨h2, rfl, rfl, h4.of_log rfl⟩
    · obtain ⟨h2, h3, h4⟩ := ht.jogging ⟨a, mem_maskAxes.mpr ha, hd⟩ hp hst hret
      have hheld : ¬s.ctrl.state = .held := by rw [hst]; decide
      rw [if_neg hheld, if_neg hheld, h3, ← hst]
      exact ⟨h2, rfl, rfl, h4.of_log rfl⟩
  · rw [mem_maskAxes, ha]
    exact Bool.false_ne_true

end Sys2Proof.Machine
end

/-! SUPPORT. The release of detached axes, axis by axis (R141, R166), and what CLEAR_FAULTS makes of the monitor unit and the controller (R89,
R143). -/
section
namespace Sys2Proof.Machine

variable {s t u : State} {a b : Axis}

/-! ### The release of one axis among the others -/

/-- From s to t everything that the release of an axis depends on stands. -/
structure SameAxis (a : Axis) (s t : State) : Prop where
  ctrl : t.ctrl = s.ctrl
  link : t.link = s.link
  insts : t.mon.insts = s.mon.insts
  detached : t.mon.detached[a] = s.mon.detached[a]
  record : t.gen.recs[a] = s.gen.recs[a]

namespace SameAxis

theorem refl (a : Axis) (s : State) : SameAxis a s s := ⟨rfl, rfl, rfl, rfl, rfl⟩

theorem trans (h : SameAxis a s t) (h' : SameAxis a t u) : SameAxis a s u :=
  ⟨h'.ctrl.trans h.ctrl, h'.link.trans h.link, h'.insts.trans h.insts, h'.detached.trans h.detached,
    h'.record.trans h.record⟩

theorem currentSetpoint (h : SameAxis a s t) : t.currentSetpoint a = s.currentSetpoint a := by
  simp only [State.currentSetpoint, h.link, h.ctrl]

theorem releasable (h : SameAxis a s t) : t.releasable a = s.releasable a := by
  simp only [State.releasable, State.isDetached, h.ctrl, h.insts, h.detached, h.record]

theorem releasedGen (h : SameAxis a s t) : t.releasedGen a = s.releasedGen a := by
  simp only [State.releasedGen, State.driveOf, h.currentSetpoint, h.ctrl, h.link, h.record]
  rfl

end SameAxis

theorem releaseAxis_other (h : b ≠ a) (s : State) : SameAxis a s (s.releaseAxis b) := by
  obtain ⟨-, hr⟩ | ⟨-, hr⟩ := releaseAxis_cases s b
  · rw [hr]
    exact ⟨rfl, rfl, rfl, put_get_other _ _ h, put_get_other _ _ h⟩
  · rw [hr]
    exact .refl a s

theorem foldl_releaseAxis_other (as : List Axis) (h : a ∉ as) : ∀ s : State, SameAxis a s (as.foldl State.releaseAxis s) := by
  induction as with
  | nil => exact SameAxis.refl a
  | cons b as ih =>
    rw [List.mem_cons, not_or] at h
    exact fun s => (releaseAxis_other (Ne.symm h.1) s).trans (ih h.2 _)

/-- R141: an axis is released by its own terms, whatever becomes of the others. -/
theorem releaseAll_axis (s : State) (a : Axis) :
    s.releaseAll.mon.detached[a] = (if s.releasable a then [] else s.mon.detached[a]) ∧
      s.releaseAll.gen.recs[a] = if s.releasable a then s.releasedGen a else s.gen.recs[a] := by
  obtain ⟨before, after, hsplit⟩ := List.append_of_mem (mem_allAxes a)
  have hnodup := allAxes_nodup
  rw [hsplit, List.nodup_middle, List.nodup_cons, List.mem_append, not_or] at hnodup
  obtain ⟨⟨hb, ha⟩, -⟩ := hnodup
  have h1 := foldl_releaseAxis_other before hb s
  have h2 := foldl_releaseAxis_other after ha ((before.foldl State.releaseAxis s).releaseAxis a)
  have hall : s.releaseAll = after.foldl State.releaseAxis ((before.foldl State.releaseAxis s).releaseAxis a) := by
    rw [State.releaseAll, hsplit, List.foldl_append, List.foldl_cons]
  rw [hall, h2.detached, h2.record]
  obtain ⟨hrel, hr⟩ | ⟨hrel, hr⟩ := releaseAxis_cases (before.foldl State.releaseAxis s) a
  · rw [hr, ← h1.releasable, hrel, if_pos rfl, if_pos rfl, ← h1.releasedGen]
    exact ⟨put_get_same .., put_get_same ..⟩
  · rw [hr, ← h1.releasable, hrel, if_neg Bool.false_ne_true, if_neg Bool.false_ne_true]
    exact ⟨h1.detached, h1.record⟩

/-- R142: a release changes the fault set, and is reported. -/
theorem fault_mem_settleFaults_of_releasable (h : s.releasable a = true) (c : Bool) :
    .fault ∈ (s.settleFaults c).console.waiting := by
  have hany : allAxes.any s.releasable = true := List.any_eq_true.mpr ⟨a, mem_allAxes a, h⟩
  simp only [State.settleFaults, hany, Bool.or_true, State.reportFaultsIf, if_true, State.reportFaults]
  exact Console.fault_mem_queueFaultReport s.releaseAll.console

theorem settleFaults_axis (s : State) (c : Bool) (a : Axis) :
    (s.settleFaults c).mon.detached[a] = (if s.releasable a then [] else s.mon.detached[a]) ∧
      (s.settleFaults c).gen.recs[a] = if s.releasable a then s.releasedGen a else s.gen.recs[a] := by
  obtain ⟨console, hc, -⟩ := s.releaseAll.reportFaultsIf_spec (c || allAxes.any s.releasable)
  have hrelease := releaseAll_axis s a
  rw [State.settleFaults, hc]
  generalize s.releaseAll = u at hrelease ⊢
  exact hrelease

/-! ### CLEAR_FAULTS -/

theorem settleFaults_settings (s : State) (c : Bool) : (s.settleFaults c).mon.settings = s.mon.settings := by
  obtain ⟨console, recs, det, h⟩ := settleFaults_spec s c
  rw [h]

/-- R143: an instance after a clear, by its last evaluation. -/
theorem unlatch_inst (m : Mon) (i : CondId) :
    (unlatch m).insts[i] = if (m.insts[i]).last = false then { m.insts[i] with latched := none } else m.insts[i] := by
  refine (tabulate_get _ i).trans ?_
  cases hl : (m.insts[i]).last with
  | true => simp only [clears, hl, Bool.not_true, Bool.and_false, Bool.false_eq_true, if_false, Bool.true_eq_false]
  | false =>
    cases hlatched : (m.insts[i]).latched with
    | none =>
      simp only [clears, hlatched, Option.isSome_none, Bool.false_and, Bool.false_eq_true, if_false, if_true]
      rw [← hlatched]
    | some act => simp only [clears, hl, hlatched, Option.isSome_some, Bool.not_false, Bool.and_self, if_true]

theorem holdsFaulted_iff (m : Mon) : holdsFaulted m = true ↔
    ∃ i : CondId, (m.insts[i]).latched = some .pathStop ∨ (m.insts[i]).latched = some .driveOff := by
  rw [holdsFaulted, List.any_eq_true]
  constructor
  · rintro ⟨i, -, h⟩
    rw [Bool.or_eq_true, decide_eq_true_eq, decide_eq_true_eq] at h
    exact ⟨i, h⟩
  · rintro ⟨i, h⟩
    refine ⟨i, mem_allConds i, ?_⟩
    rw [Bool.or_eq_true, decide_eq_true_eq, decide_eq_true_eq]
    exact h

/-- The state with its monitor unit cleared and the reply queued, before the release is tested. -/
def State.unlatched (s : State) (tag : Byte) : State :=
  { s with mon := unlatch s.mon }.reply Kind.clearFaults tag .ok (Machine.counted condName (stillLatched (unlatch s.mon)))

/-- R143: the state with the release tested, before the controller leaves FAULTED. -/
def State.cleared (s : State) (tag : Byte) : State :=
  (s.unlatched tag).settleFaults (allConds.any fun i => clears s.mon.insts[i])

/-- The state after a CLEAR_FAULTS. -/
def State.afterClear (s : State) (tag : Byte) : State :=
  if s.ctrl.state = .faulted && !holdsFaulted (unlatch s.mon) then (s.cleared tag).enter .idle else s.cleared tag

theorem clearFaults_eq (tag : Byte) : exec (.clearFaults tag []) s = .next (s.afterClear tag) := by
  have hbody : noFields [] = some () := rfl
  have haccepted : clearFaults tag [] s = .ok (s.afterClear tag) := by
    simp only [clearFaults, hbody, need_some_bind, State.afterClear, State.cleared, State.unlatched]
    rfl
  exact conclude_of_accepted (kind := Kind.clearFaults) (tag := tag) (s := s) haccepted

theorem unlatch_settings (m : Mon) : (unlatch m).settings = m.settings := by simp only [unlatch]

theorem unlatched_eq (s : State) (tag : Byte) : ∃ c, s.unlatched tag = { s with mon := unlatch s.mon, console := c } :=
  ⟨_, rfl⟩

/-- A CLEAR_FAULTS changes the instances, and by the release the generator's records and the detached sets. -/
theorem cleared_eq (s : State) (tag : Byte) : ∃ c recs det,
    s.cleared tag =
      { s with console := c, gen := { s.gen with recs := recs }, mon := { unlatch s.mon with detached := det } } := by
  obtain ⟨c0, h0⟩ := unlatched_eq s tag
  obtain ⟨c, recs, det, h⟩ := settleFaults_spec (s.unlatched tag) (allConds.any fun i => clears s.mon.insts[i])
  rw [h0] at h
  exact ⟨c, recs, det, by rw [State.cleared, h0, h]⟩

/-- From s to t the faults have been cleared, by way of u: what of u stands whether the controller leaves FAULTED or not, where m is the
monitor unit with its instances unlatched. -/
structure Clears (s u t : State) (m : Mon) : Prop where
  mon : t.mon = u.mon
  gen : t.gen = u.gen
  insts : t.mon.insts = m.insts
  settings : t.mon.settings = s.mon.settings
  grows : u.console.Grows t.console
  frame : { t with mon := s.mon, gen := s.gen, ctrl := s.ctrl, console := s.console } = s
  ctrl : t.ctrl =
    if s.ctrl.state = .faulted ∧ ¬holdsFaulted m = true then { s.ctrl with state := .idle, stopForm := none } else s.ctrl

theorem afterClear_clears (s : State) (tag : Byte) : Clears s (s.cleared tag) (s.afterClear tag) (unlatch s.mon) := by
  obtain ⟨c, recs, det, h⟩ := cleared_eq s tag
  have hiff : (decide (s.ctrl.state = .faulted) && !holdsFaulted (unlatch s.mon)) = true ↔
      s.ctrl.state = .faulted ∧ ¬holdsFaulted (unlatch s.mon) = true := by simp
  have hsettings := unlatch_settings s.mon
  rw [State.afterClear, if_congr hiff rfl rfl]
  generalize unlatch s.mon = m at h hsettings ⊢
  rw [h]
  by_cases hidle : s.ctrl.state = .faulted ∧ ¬holdsFaulted m = true
  · rw [if_pos hidle]
    exact ⟨rfl, rfl, rfl, hsettings, Console.grows_queueStateReport _ _ _ _, rfl, (if_pos hidle).symm⟩
  · rw [if_neg hidle]
    exact ⟨rfl, rfl, rfl, hsettings, .refl _, rfl, (if_neg hidle).symm⟩

end Sys2Proof.Machine
end

/-! CLEAR_FAULTS (R89, R143): O38. -/
section
namespace Sys2Proof.Machine

/-- Settles O38, from what CLEAR_FAULTS makes of each instance and of the controller. -/
theorem clearFaultsUnlatches : Obligations.ClearFaultsUnlatches := by
  unfold Obligations.ClearFaultsUnlatches
  intro tag s
  have hclear := afterClear_clears s tag
  refine ⟨_, clearFaults_eq tag, fun i => by rw [hclear.insts, unlatch_inst], hclear.settings, fun hst hno => ?_,
    fun hheld => ?_, fun hst => ?_, hclear.frame⟩ <;> rw [hclear.ctrl]
  · rw [hclear.insts] at hno
    refine if_pos ⟨hst, fun hh => ?_⟩
    obtain ⟨i, hi | hi⟩ := (holdsFaulted_iff _).mp hh
    · exact (hno i).1 hi
    · exact (hno i).2 hi
  · rw [hclear.insts] at hheld
    exact if_neg fun h => h.2 ((holdsFaulted_iff _).mpr hheld)
  · exact if_neg fun h => hst h.1

end Sys2Proof.Machine
end

/-! SUPPORT. JOG and JOG_BIND (R81, R82, R167, R170, R171): their bodies, the state change, and the record of the jogged axis. -/
section
namespace Sys2Proof.Machine

variable {s t : State} {a b : Axis} {tag : Byte}

/-! ### Bodies -/

theorem jogOperands_bytes (a : Axis) {v : Int} (h : fits32 v = true) : jogOperands (u8 a.val ++ i32 v) = some (a.val, v) := by
  have hread : readI32 (i32 v) = some (v, []) := by
    have := readI32_i32 v [] h
    rwa [List.append_nil] at this
  simp only [u8_eq, List.cons_append, List.nil_append, jogOperands, hread, axis_byte]
  rfl

theorem jogBindOperands_wheel (a : Axis) (w : Wheel) {ratio : Int} (h : fits32 ratio = true) :
    jogBindOperands (u8 a.val ++ [1] ++ u8 w.val ++ i32 ratio) = some (a.val, some (w.val, ratio)) := by
  have hread : readI32 (i32 ratio) = some (ratio, []) := by
    have := readI32_i32 ratio [] h
    rwa [List.append_nil] at this
  simp only [u8_eq, List.cons_append, List.nil_append, jogBindOperands, readOptional, readWheelRatio, hread, axis_byte, wheel_byte]
  rfl

theorem jogBindOperands_none (a : Axis) : jogBindOperands (u8 a.val ++ [0]) = some (a.val, none) := by
  simp only [u8_eq, List.cons_append, List.nil_append, jogBindOperands, readOptional, axis_byte]
  rfl

/-! ### Tests -/

theorem jogAllowed_of (h : s.ctrl.state = .idle ∨ s.ctrl.state = .jogging ∨ (s.ctrl.state = .held ∧ s.ctrl.pass = some .play)) :
    s.jogAllowed = true := by
  obtain h | h | ⟨h, hp⟩ := h
  · simp only [State.jogAllowed, h]
  · simp only [State.jogAllowed, h]
  · simp only [State.jogAllowed, h, hp, decide_true]

theorem jogAllowed_eq_false (hi : s.ctrl.state ≠ .idle) (hj : s.ctrl.state ≠ .jogging) (hh : s.ctrl.state ≠ .held) :
    s.jogAllowed = false := by
  unfold State.jogAllowed
  split
  · next h => exact absurd h hi
  · next h => exact absurd h hj
  · next h => exact absurd h hh
  · rfl

theorem jogTests_passed (hc : s.configured a = true) (hon : s.driveOf a = .on) (hd : s.mon.detached[a] = []) :
    s.jogTests a = .ok () := by
  simp only [State.jogTests, hc, ensure_true_bind, hon, decide_true, isDetached_false hd, Bool.not_false]
  rfl

theorem jogTests_detached (hc : s.configured a = true) (hon : s.driveOf a = .on) (hd : s.mon.detached[a] ≠ []) :
    s.jogTests a = .error { status := .faultActive, extra := [] } := by
  simp only [State.jogTests, hc, ensure_true_bind, hon, decide_true, isDetached_iff.mpr hd, Bool.not_true]
  rfl

/-! ### The jogged axis's record -/

/-- R163: where an axis stands as it is taken up. -/
theorem takeUp_place (sp : Int) (g : GenRec) :
    (g.mode = .idle → (takeUp sp g).x = sp ∧ (takeUp sp g).v = 0) ∧
      (g.mode ≠ .idle → (takeUp sp g).x = g.x ∧ (takeUp sp g).v = g.v) := by
  unfold takeUp
  exact ⟨fun h => by rw [if_pos h]; exact ⟨rfl, rfl⟩, fun h => by rw [if_neg h]; exact ⟨rfl, rfl⟩⟩

/-- R167: a jog at a velocity, or to rest at 0. -/
theorem jogGen_spec (r : AxisRec) (sp vt : Int) (g : GenRec) :
    ((jogGen r sp vt g).x = (takeUp sp g).x ∧ (jogGen r sp vt g).v = (takeUp sp g).v) ∧ (jogGen r sp vt g).wheel = none ∧
      (vt ≠ 0 → (jogGen r sp vt g).mode = .velocity ∧ (jogGen r sp vt g).jogVel = some vt ∧
        (jogGen r sp vt g).refresh = some 250000 ∧
        (jogGen r sp vt g).target = some (if 0 < vt then r.softMax else r.softMin)) ∧
      (vt = 0 → (jogGen r sp vt g).mode = .resting ∧ (jogGen r sp vt g).jogVel = none ∧ (jogGen r sp vt g).refresh = none) := by
  unfold jogGen
  split
  · next h => exact ⟨⟨rfl, rfl⟩, rfl, fun hn => absurd h hn, fun _ => ⟨rfl, rfl, rfl⟩⟩
  · next h => exact ⟨⟨rfl, rfl⟩, rfl, fun _ => ⟨rfl, rfl, rfl, rfl⟩, fun hn => absurd hn h⟩

/-! ### JOGGING is entered (R81, R82) -/

/-- From s to t the state change of an accepted jog has been made. -/
structure EntersJogging (s t : State) : Prop where
  state : t.ctrl.state = .jogging
  pass : t.ctrl.pass = s.ctrl.pass
  frame : { t with ctrl := s.ctrl, clock := s.clock, gen := s.gen, console := s.console } = s
  place : s.ctrl.state = .held → s.ctrl.ret = none → t.clock.state = .stopped ∧ t.ctrl.ret = some s.returnRecord
  recs : s.ctrl.state = .jogging → t.gen.recs = s.gen.recs
  taken : ∀ a : Axis, t.gen.recs[a] = s.gen.recs[a] ∨ t.gen.recs[a] = toResting (s.currentSetpoint a) s.gen.recs[a]

theorem takeUpAll_eq (s : State) : ∃ recs, s.takeUpAll = { s with gen := { s.gen with recs := recs } } ∧
    ∀ a : Axis, recs[a] = s.gen.recs[a] ∨ recs[a] = toResting (s.currentSetpoint a) s.gen.recs[a] := by
  refine ⟨_, rfl, fun a => ?_⟩
  rw [tabulate_get]
  beta_reduce
  split
  · exact .inr rfl
  · exact .inl rfl

theorem enterJogging_enters (h : s.jogAllowed = true) : EntersJogging s s.enterJogging := by
  obtain ⟨recs, htake, hrecs⟩ := takeUpAll_eq s
  unfold State.jogAllowed at h
  unfold State.enterJogging
  rw [htake]
  split at h
  · next hst =>
    simp only [hst]
    exact ⟨rfl, rfl, rfl, (fun hh => nomatch hst.symm.trans hh), (fun hh => nomatch hst.symm.trans hh), hrecs⟩
  · next hst =>
    simp only [hst]
    exact ⟨hst, rfl, rfl, (fun hh => nomatch hst.symm.trans hh), fun _ => rfl, fun _ => .inl rfl⟩
  · next hst =>
    simp only [hst]
    exact ⟨rfl, rfl, rfl, fun _ hr => ⟨rfl, by rw [hr]; rfl⟩, (fun hh => nomatch hst.symm.trans hh), hrecs⟩
  · cases h

/-- Where the jogged axis stands when its record is made. -/
theorem EntersJogging.takeUp (h : EntersJogging s t) (a : Axis) :
    (takeUp (s.currentSetpoint a) t.gen.recs[a]).x = (takeUp (s.currentSetpoint a) s.gen.recs[a]).x ∧
      (takeUp (s.currentSetpoint a) t.gen.recs[a]).v = (takeUp (s.currentSetpoint a) s.gen.recs[a]).v := by
  obtain h | h := h.taken a
  · rw [h]
    exact ⟨rfl, rfl⟩
  · rw [h]
    exact ⟨rfl, rfl⟩

/-- From s to t an axis has been jogged with a record, after the state change. -/
structure Jogs (s t : State) (a : Axis) (g : GenRec) : Prop where
  record : t.gen.recs[a] = g
  state : t.ctrl.state = .jogging
  pass : t.ctrl.pass = s.ctrl.pass
  frame : { t with ctrl := s.ctrl, clock := s.clock, gen := s.gen, console := s.console } = s
  place : s.ctrl.state = .held → s.ctrl.ret = none → t.clock.state = .stopped ∧ t.ctrl.ret = some s.returnRecord
  others : s.ctrl.state = .jogging → ∀ b : Axis, b ≠ a → t.gen.recs[b] = s.gen.recs[b]

theorem EntersJogging.jogs (h : EntersJogging s t) (a : Axis) (g : GenRec) : Jogs s (t.setGen a g) a g :=
  ⟨put_get_same .., h.state, h.pass, h.frame, h.place,
    fun hst b hb => (put_get_other _ _ (Ne.symm hb)).trans (by rw [h.recs hst])⟩

/-- The reply that goes before changes nothing of it. -/
theorem Jogs.of_reply {kind : Byte} {fields : List Byte} {g : GenRec} (h : Jogs (s.reply kind tag .ok fields) t a g) : Jogs s t a g :=
  ⟨h.record, h.state, h.pass, congrArg (fun u : State => { u with console := s.console }) h.frame, h.place, h.others⟩

end Sys2Proof.Machine
end

/-! JOG and JOG_BIND: O48. -/
section
namespace Sys2Proof.Machine

variable {s : State} {a : Axis} {tag : Byte}

theorem jog_accepted {v : Int} (hv : fits32 v = true) (hj : s.jogAllowed = true) (ht : s.jogTests a = .ok ()) :
    ∃ t, jog tag (u8 a.val ++ i32 v) s = .ok t ∧ Jogs s t a (jogGen s.axes.recs[a] (s.currentSetpoint a) (clampJog s.axes.recs[a] v)
      (s.reply Kind.jog tag .ok (i32 (clampJog s.axes.recs[a] v))).enterJogging.gen.recs[a]) := by
  refine ⟨_, ?_, ((enterJogging_enters (s := s.reply Kind.jog tag .ok (i32 (clampJog s.axes.recs[a] v))) hj).jogs a _).of_reply⟩
  simp only [jog, hj, ensure_true_bind, jogOperands_bytes a hv, need_some_bind, axisOf_number, ht]
  rfl

theorem jogBind_accepted (w : Wheel) {ratio : Int} (hr : fits32 ratio = true) (hj : s.jogAllowed = true) (ht : s.jogTests a = .ok ()) :
    ∃ t, jogBind tag (u8 a.val ++ [1] ++ u8 w.val ++ i32 ratio) s = .ok t ∧
      Jogs s t a (toWheel (s.currentSetpoint a) w ratio s.wheels.counters[w]
        (s.reply Kind.jogBind tag .ok []).enterJogging.gen.recs[a]) := by
  refine ⟨_, ?_, ((enterJogging_enters (s := s.reply Kind.jogBind tag .ok []) hj).jogs a _).of_reply⟩
  simp only [jogBind, hj, ensure_true_bind, jogBindOperands_wheel a w hr, need_some_bind, axisOf_number, bindChoice, wheelRatioOf,
    wheelOf_number, Option.map_some, ht]
  rfl

theorem jogUnbind_accepted (hj : s.jogAllowed = true) (ht : s.jogTests a = .ok ()) :
    jogBind tag (u8 a.val ++ [0]) s =
      .ok ((s.reply Kind.jogBind tag .ok []).setGen a (unbindGen (s.currentSetpoint a) s.gen.recs[a])) := by
  simp only [jogBind, hj, ensure_true_bind, jogBindOperands_none, need_some_bind, axisOf_number, bindChoice, ht]
  rfl

theorem jog_barred {body : List Byte} (hj : s.jogAllowed = false) : jog tag body s = refusedWith .wrongState := by
  simp only [jog, hj, ensure_false_bind]
  rfl

theorem jogBind_barred {body : List Byte} (hj : s.jogAllowed = false) : jogBind tag body s = refusedWith .wrongState := by
  simp only [jogBind, hj, ensure_false_bind]
  rfl

/-- Where the record of an accepted jog stands (R163). -/
theorem enterJogging_takeUp (hj : s.jogAllowed = true) (kind : Byte) (fields : List Byte) (a : Axis) :
    ((s.gen.recs[a]).mode = .idle →
      (takeUp (s.currentSetpoint a) (s.reply kind tag .ok fields).enterJogging.gen.recs[a]).x = s.currentSetpoint a ∧
        (takeUp (s.currentSetpoint a) (s.reply kind tag .ok fields).enterJogging.gen.recs[a]).v = 0) ∧
    ((s.gen.recs[a]).mode ≠ .idle →
      (takeUp (s.currentSetpoint a) (s.reply kind tag .ok fields).enterJogging.gen.recs[a]).x = (s.gen.recs[a]).x ∧
        (takeUp (s.currentSetpoint a) (s.reply kind tag .ok fields).enterJogging.gen.recs[a]).v = (s.gen.recs[a]).v) := by
  obtain ⟨hx, hv⟩ := (enterJogging_enters (s := s.reply kind tag .ok fields) hj).takeUp a
  obtain ⟨hidle, hmoving⟩ := takeUp_place (s.currentSetpoint a) s.gen.recs[a]
  exact ⟨fun h => ⟨hx.trans (hidle h).1, hv.trans (hidle h).2⟩, fun h => ⟨hx.trans (hmoving h).1, hv.trans (hmoving h).2⟩⟩

/-- R170: the record of an axis bound to a wheel. -/
theorem toWheel_spec (sp : Int) (w : Wheel) (ratio : Int) (count : BitVec 32) (g : GenRec) :
    (toWheel sp w ratio count g).mode = .wheel ∧ (toWheel sp w ratio count g).x = (takeUp sp g).x ∧
      (toWheel sp w ratio count g).v = (takeUp sp g).v ∧
      (toWheel sp w ratio count g).wheel =
        some { wheel := w, ratio, baseSetpoint := (toWheel sp w ratio count g).x, baseCount := count } :=
  ⟨rfl, rfl, rfl, rfl⟩

/-- Settles O48. -/
theorem jogAndJogBind : Obligations.JogAndJogBind := by
  unfold Obligations.JogAndJogBind
  refine fun a v w ratio tag s hv hr => ⟨fun hst hc hon hd => ?_, fun hi hj hh => ?_⟩
  · have hj := jogAllowed_of hst
    have ht := jogTests_passed hc hon hd
    refine ⟨?_, ?_, ?_⟩
    · obtain ⟨t, hexec, h⟩ := jog_accepted (tag := tag) hv hj ht
      obtain ⟨⟨hx, hv⟩, hwheel, hmove, hrest⟩ := jogGen_spec s.axes.recs[a] (s.currentSetpoint a) (clampJog s.axes.recs[a] v)
        (s.reply Kind.jog tag .ok (i32 (clampJog s.axes.recs[a] v))).enterJogging.gen.recs[a]
      obtain ⟨hidle, hmoving⟩ := enterJogging_takeUp (tag := tag) hj Kind.jog (i32 (clampJog s.axes.recs[a] v)) a
      refine ⟨t, _, conclude_of_accepted hexec, h.record, h.state, fun vt hvt => ?_,
        fun hm => ⟨hx.trans (hidle hm).1, hv.trans (hidle hm).2⟩, fun hm => ⟨hx.trans (hmoving hm).1, hv.trans (hmoving hm).2⟩,
        h.place, h.others, h.frame, h.pass⟩
      have hvt : vt = clampJog s.axes.recs[a] v := hvt
      rw [hvt]
      refine ⟨fun hn => ?_, fun h0 => ?_⟩
      · obtain ⟨h1, h2, h3, h4⟩ := hmove hn
        exact ⟨h1, h2, h3, hwheel, h4⟩
      · obtain ⟨h1, h2, h3⟩ := hrest h0
        exact ⟨h1, h2, h3, hwheel⟩
    · obtain ⟨t, hexec, h⟩ := jogBind_accepted (tag := tag) w hr hj ht
      obtain ⟨hmode, hx, hv, hwheel⟩ := toWheel_spec (s.currentSetpoint a) w ratio s.wheels.counters[w]
        (s.reply Kind.jogBind tag .ok []).enterJogging.gen.recs[a]
      obtain ⟨hidle, hmoving⟩ := enterJogging_takeUp (tag := tag) hj Kind.jogBind [] a
      exact ⟨t, _, conclude_of_accepted hexec, h.record, h.state, hmode, hwheel,
        fun hm => ⟨hx.trans (hidle hm).1, hv.trans (hidle hm).2⟩, fun hm => ⟨hx.trans (hmoving hm).1, hv.trans (hmoving hm).2⟩,
        h.others, h.frame, h.pass⟩
    · refine ⟨_, conclude_of_accepted (jogUnbind_accepted hj ht), rfl, fun b hb => put_get_other _ _ (Ne.symm hb), fun hm => ?_,
        fun hm => ?_⟩
      · exact (congrArg GenRec.mode (put_get_same ..) : _).trans (by rw [unbindGen, if_pos hm]; rfl)
      · rw [unbindGen, if_neg hm]
        exact congrArg (fun recs => { s.gen with recs := recs }) (put_same ..)
  · have hj := jogAllowed_eq_false hi hj hh
    exact ⟨conclude_of_refused (jog_barred hj), conclude_of_refused (jogBind_barred hj)⟩

end Sys2Proof.Machine
end

/-! SUPPORT. AXIS_HALT (R73, R140, R166): the axis detached, its record in the generator, and that what has just activated holds it. -/
section
namespace Sys2Proof.Machine

variable {s t u : State} {a : Axis} {i : CondId}

theorem condAxis_condOn (c : AxisCond) (a : Axis) : condAxis (condOn c a) = a := by
  refine Fin.ext ?_
  simp only [condAxis, condOn, Nat.mul_add_mod, Nat.mod_eq_of_lt a.isLt]

/-! ### The evaluation -/

/-- R132, R138: an enable timeout that is due activates its instance, and the activation is acted on. -/
theorem enableTimesOut_active (hi : i = condOn .driveFault a) (hdue : s.link.due[a] = true)
    (hmode : (s.mon.settings[i]).mode = .latched) (hact : (s.mon.insts[i]).active = false) :
    ∃ link insts, s.enableTimesOut a = (s.evaluated link insts).actOn [i] true ∧ (insts[i]).active = true := by
  subst hi
  obtain ⟨link, hlink, -⟩ := endEnabling_spec s a
  have hevent : s.enableTimesOut a = (State.evaluateEvent { s with link := link } [enableTimeoutEvidence a]) := by
    rw [State.enableTimesOut, if_pos hdue, hlink]
  have hactivates : activates s.mon.settings[condOn .driveFault a] (countRun s.mon.insts[condOn .driveFault a] true)
      (enableTimeoutEvidence a) = true := by
    simp only [activates, countRun, hact, if_true, enableTimeoutEvidence, Bool.not_false, Bool.and_self, Bool.or_true]
  have hactive (stamp : Stamp) : (evaluateInst s.mon.settings[condOn .driveFault a] stamp s.mon.insts[condOn .driveFault a]
      (enableTimeoutEvidence a)).active = true := by
    unfold evaluateInst
    exact (congrArg CondInst.active (if_pos hactivates) :)
  obtain ⟨insts, he⟩ := evaluateAll_forced s.mon ({ s with link := link } : State).stampNow (enableTimeoutEvidence a) rfl rfl
    hmode hact
  refine ⟨link, insts, ?_, ?_⟩
  · rw [hevent, State.evaluateEvent, he]
    rfl
  · have hinst := evaluateAll_single (mon := s.mon) (e := enableTimeoutEvidence a) ({ s with link := link } : State).stampNow
      (fun hoff => nomatch hmode.symm.trans hoff)
    rw [he] at hinst
    exact (congrArg CondInst.active hinst).trans (hactive _)

/-! ### The axis halted -/

/-- R166: the record of an axis that the generator halts. -/
def State.haltedGen (s : State) (a : Axis) : GenRec :=
  if s.driveOf a = .on then toHalt (s.currentSetpoint a) s.gen.recs[a]
  else { toHalt (s.currentSetpoint a) s.gen.recs[a] with x := s.currentSetpoint a, v := 0 }

theorem haltedGen_halts (s : State) (a : Axis) :
    (s.haltedGen a).mode = .halt ∧ (s.haltedGen a).target = none ∧ (s.haltedGen a).jogVel = none ∧
      (s.haltedGen a).wheel = none := by
  unfold State.haltedGen
  split <;> exact ⟨rfl, rfl, rfl, rfl⟩

/-- R166: with its drive ON a halted axis stands where it is taken up, and else at the setpoint the link forms. -/
theorem haltedGen_place (s : State) (a : Axis) :
    (s.driveOf a ≠ .on → (s.haltedGen a).x = s.currentSetpoint a ∧ (s.haltedGen a).v = 0) ∧
      (s.driveOf a = .on → (s.haltedGen a).x = (takeUp (s.currentSetpoint a) s.gen.recs[a]).x ∧
        (s.haltedGen a).v = (takeUp (s.currentSetpoint a) s.gen.recs[a]).v) := by
  unfold State.haltedGen
  exact ⟨fun h => by rw [if_neg h]; exact ⟨rfl, rfl⟩, fun h => by rw [if_pos h]; exact ⟨rfl, rfl⟩⟩

/-- From s to t an instance has detached an axis (R140). -/
structure DetachesBy (i : CondId) (a : Axis) (s t : State) : Prop where
  detached : t.mon.detached[a] = s.mon.detached[a] ++ [i]
  others : ∀ b : Axis, b ≠ a → t.mon.detached[b] = s.mon.detached[b] ∧ t.gen.recs[b] = s.gen.recs[b]
  later : s.mon.detached[a] ≠ [] → t.gen.recs[a] = s.gen.recs[a]
  first : s.mon.detached[a] = [] → t.gen.recs[a] = s.haltedGen a
  insts : t.mon.insts = s.mon.insts
  link : t.link = s.link
  clock : t.clock = s.clock
  log : t.log = s.log
  store : t.store = s.store

theorem detach_detachesBy (s : State) (hi : condAxis i = a) : DetachesBy i a s (s.detach i) := by
  subst hi
  unfold State.detach
  by_cases hd : s.mon.detached[condAxis i] = []
  · simp only [isDetached_false hd, Bool.false_eq_true, if_false]
    exact ⟨put_get_same .., fun b hb => ⟨put_get_other _ _ (Ne.symm hb), put_get_other _ _ (Ne.symm hb)⟩, fun h => absurd hd h,
      fun _ => put_get_same .., rfl, rfl, rfl, rfl, rfl⟩
  · simp only [isDetached_iff.mpr hd, if_true]
    exact ⟨put_get_same .., fun b hb => ⟨put_get_other _ _ (Ne.symm hb), rfl⟩, fun _ => rfl, fun h => absurd h hd, rfl, rfl, rfl,
      rfl, rfl⟩

theorem detach_ctrl (s : State) (i : CondId) : (s.detach i).ctrl = s.ctrl := by
  unfold State.detach
  simp only
  split <;> rfl

/-! ### The action as a whole -/

theorem releasable_eq_false_of_active (hi : i ∈ s.mon.detached[a]) (hact : (s.mon.insts[i]).active = true) :
    s.releasable a = false := by
  rw [← Bool.not_eq_true]
  intro h
  simp only [State.releasable, Bool.and_eq_true, List.all_eq_true] at h
  obtain ⟨⟨-, hall⟩, -⟩ := h
  have := (hall i hi).1
  rw [hact] at this
  cases this

theorem releasable_eq_false_of_attached (hd : s.mon.detached[a] = []) : s.releasable a = false := by
  simp only [State.releasable, isDetached_false hd, Bool.false_and]

/-- R140: from s to t an activated AXIS_HALT has been acted on; u is the state it detached its axis from. -/
structure HaltsAxis (i : CondId) (a : Axis) (s t : State) : Prop extends DetachesBy i a s t where
  setpoints : t.ctrl.setpoints = s.ctrl.setpoints
  armed : s.ctrl.state = .armed → t.ctrl.state = .idle ∧ t.ctrl.armSetpoints = none ∧ t.ctrl.prerollTargets = none
  elsewhere : s.ctrl.state ≠ .armed → t.ctrl = s.ctrl

/-- R73, R140: ARMED is abandoned when an axis is detached. -/
theorem detach_haltsAxis (s : State) (hi : condAxis i = a) :
    HaltsAxis i a s (if (s.detach i).ctrl.state = .armed then (s.detach i).abandonArm else s.detach i) := by
  have h := detach_detachesBy s hi
  have hctrl := detach_ctrl s i
  generalize s.detach i = v at h hctrl ⊢
  rw [hctrl]
  split
  · next hst =>
    exact ⟨⟨h.detached, h.others, h.later, h.first, h.insts, h.link, h.clock, h.log, h.store⟩,
      (congrArg Ctrl.setpoints hctrl :), fun _ => ⟨rfl, rfl, rfl⟩, fun hn => absurd hst hn⟩
  · next hst => exact ⟨h, congrArg Ctrl.setpoints hctrl, fun hs => absurd hs hst, fun _ => hctrl⟩

/-- R141: no axis is released as the action settles: what has just activated holds its axis, and the others are attached. -/
theorem HaltsAxis.settle (h : HaltsAxis i a s t) (hact : (s.mon.insts[i]).active = true)
    (hd : ∀ b : Axis, b ≠ a → s.mon.detached[b] = []) : HaltsAxis i a s (t.settleFaults true) := by
  have hno (b : Axis) : t.releasable b = false := by
    by_cases hb : b = a
    · subst hb
      refine releasable_eq_false_of_active (i := i) ?_ (by rw [h.insts]; exact hact)
      rw [h.detached]
      exact List.mem_append_right _ List.mem_cons_self
    · exact releasable_eq_false_of_attached ((h.others b hb).1.trans (hd b hb))
  have hset := settleFaults_settles t true
  have haxis (b : Axis) : (t.settleFaults true).mon.detached[b] = t.mon.detached[b] ∧
      (t.settleFaults true).gen.recs[b] = t.gen.recs[b] := by
    obtain ⟨h1, h2⟩ := settleFaults_axis t true b
    rw [hno b, if_neg Bool.false_ne_true] at h1 h2
    exact ⟨h1, h2⟩
  have hinsts := t.settleFaults_insts true
  generalize t.settleFaults true = u at hset haxis hinsts ⊢
  refine ⟨⟨(haxis a).1.trans h.detached, fun b hb => ⟨(haxis b).1.trans (h.others b hb).1, (haxis b).2.trans (h.others b hb).2⟩,
    fun hl => (haxis a).2.trans (h.later hl), fun hf => (haxis a).2.trans (h.first hf), hinsts.trans h.insts, hset.link.trans h.link,
    hset.clock.trans h.clock, hset.log.trans h.log, hset.store.trans h.store⟩, ?_, ?_, ?_⟩ <;> rw [hset.ctrl]
  · exact h.setpoints
  · exact h.armed
  · exact h.elsewhere

theorem HaltsAxis.currentSetpoint (h : HaltsAxis i a s t) : t.currentSetpoint a = s.currentSetpoint a := by
  simp only [State.currentSetpoint, h.link, h.setpoints]

theorem HaltsAxis.driveOf (h : HaltsAxis i a s t) : t.driveOf a = s.driveOf a := by
  simp only [State.driveOf, h.link]

theorem currentSetpoint_of_on (h : s.driveOf a = .on) : s.currentSetpoint a = s.ctrl.setpoints[a] := by
  unfold State.driveOf at h
  simp only [State.currentSetpoint, h]

end Sys2Proof.Machine
end

/-! Detachment and release (R73, R140, R141, R166): O40. -/
section
namespace Sys2Proof.Machine

variable {s t : State} {a : Axis} {i : CondId} {tag : Byte}

/-! ### AXIS_HALT -/

/-- R140: an enable timeout that latches with AXIS_HALT, and the state whose link record and instances it was evaluated to. -/
theorem enableTimesOut_haltsAxis (hi : i = condOn .driveFault a) (hdue : s.link.due[a] = true)
    (hmode : (s.mon.settings[i]).mode = .latched) (hhalt : (s.mon.settings[i]).action = .axisHalt)
    (hact : (s.mon.insts[i]).active = false) (hd : ∀ b : Axis, b ≠ a → s.mon.detached[b] = []) :
    ∃ link insts, HaltsAxis i a (s.evaluated link insts) (s.enableTimesOut a) ∧ .fault ∈ (s.enableTimesOut a).console.waiting := by
  obtain ⟨link, insts, heq, hactive⟩ := enableTimesOut_active hi hdue hmode hact
  have hlatched : ((s.evaluated link insts).mon.settings[i]).mode = .latched := hmode
  have hfault := (actOn_fittings hlatched).2
  have hcond : condAxis i = a := by rw [hi, condAxis_condOn]
  rw [actOn_axisHalt hlatched hhalt] at heq hfault
  refine ⟨link, insts, ?_, ?_⟩ <;> rw [heq]
  · exact (detach_haltsAxis (s.evaluated link insts) hcond).settle hactive hd
  · exact hfault

/-! ### Release -/

theorem releasable_iff : s.releasable a = true ↔ s.mon.detached[a] ≠ [] ∧ s.ctrl.pass = none ∧
    (∀ i ∈ s.mon.detached[a], (s.mon.insts[i]).active = false ∧ (s.mon.insts[i]).latched = none) ∧
      genAtRest s.gen.recs[a] = true := by
  simp only [State.releasable, Bool.and_eq_true, isDetached_iff, Option.isNone_iff_eq_none, List.all_eq_true, Bool.not_eq_true',
    and_assoc]

/-- R166: a released axis is at rest. -/
theorem releasedGen_v (s : State) (a : Axis) : (s.releasedGen a).v = 0 := by
  unfold State.releasedGen
  simp only
  split
  · split <;> rfl
  · rfl

/-- R166: a released axis that the generator has no source for passes to IDLE where it stands. -/
theorem releasedGen_idle (h : s.driveOf a ≠ .on ∨
    (s.ctrl.state ≠ .preroll ∧ s.ctrl.state ≠ .jogging ∧ s.ctrl.stopForm ≠ some .generator)) :
    s.releasedGen a = toIdle s.gen.recs[a] := by
  unfold State.releasedGen
  simp only
  split
  · next hon =>
    obtain ⟨hp, hj, hf⟩ := h.resolve_left (not_not_intro hon)
    split
    · next hst _ => exact absurd hst hp
    · next hst => exact absurd hst hj
    · next _ hform => exact absurd hform hf
    · next _ hform => exact absurd hform hf
    · rfl
  · rfl

/-- R166: in PREROLL a released axis goes toward its preroll target. -/
theorem releasedGen_preroll {ts : Vector Int 16} (hon : s.driveOf a = .on) (hst : s.ctrl.state = .preroll)
    (hts : s.ctrl.prerollTargets = some ts) :
    s.releasedGen a = toTarget (s.currentSetpoint a) ts[a] (toIdle s.gen.recs[a]) := by
  simp only [State.releasedGen, hon, if_true, hst, hts]

/-- R166: in JOGGING and while the generator stops the axes a released axis rests. -/
theorem releasedGen_resting (hon : s.driveOf a = .on) (hst : s.ctrl.state = .jogging ∨
    ((s.ctrl.state = .stopping ∨ s.ctrl.state = .faultStopping) ∧ s.ctrl.stopForm = some .generator)) :
    s.releasedGen a = toResting (s.currentSetpoint a) (toIdle s.gen.recs[a]) := by
  obtain hst | ⟨hst | hst, hform⟩ := hst
  · simp only [State.releasedGen, hon, if_true, hst]
  · simp only [State.releasedGen, hon, if_true, hst, hform]
  · simp only [State.releasedGen, hon, if_true, hst, hform]

/-- The release of an axis that a CLEAR_FAULTS from s to t tests in u, by the records of s and the instances of t. -/
structure TestsRelease (a : Axis) (s u t : State) : Prop where
  detached : u.mon.detached = s.mon.detached
  insts : u.mon.insts = t.mon.insts
  ctrl : u.ctrl = s.ctrl
  gen : u.gen = s.gen
  left : t.mon.detached[a] = if u.releasable a then [] else s.mon.detached[a]
  record : t.gen.recs[a] = if u.releasable a then s.releasedGen a else s.gen.recs[a]
  fault : u.releasable a = true → .fault ∈ t.console.waiting

theorem afterClear_testsRelease (s : State) (tag : Byte) (a : Axis) : TestsRelease a s (s.unlatched tag) (s.afterClear tag) := by
  have hclear := afterClear_clears s tag
  obtain ⟨c, hu⟩ := unlatched_eq s tag
  have hset := settleFaults_axis (s.unlatched tag) (allConds.any fun i => clears s.mon.insts[i]) a
  have hfault : (s.unlatched tag).releasable a = true → .fault ∈ (s.afterClear tag).console.waiting := fun h =>
    hclear.grows.mem (fault_mem_settleFaults_of_releasable h _) rfl
  have hdet : (unlatch s.mon).detached = s.mon.detached := by simp only [unlatch]
  have hinsts := hclear.insts
  rw [← State.cleared, ← hclear.mon, ← hclear.gen] at hset
  generalize unlatch s.mon = m at *
  rw [hu] at hset hfault ⊢
  exact ⟨hdet, hinsts.symm, rfl, rfl, by rw [hset.1, ← hdet], hset.2, hfault⟩

/-- Settles O40. -/
theorem detachmentAndRelease : Obligations.DetachmentAndRelease := by
  unfold Obligations.DetachmentAndRelease
  refine ⟨fun a s i hi hdue hmode hhalt hact hd => ?_, fun a v tag s hv hst hc hon hd => ?_, fun tag s => ?_⟩
  · obtain ⟨link, insts, h, hfault⟩ := enableTimesOut_haltsAxis hi hdue hmode hhalt hact hd
    have hplace := haltedGen_place (s.evaluated link insts) a
    obtain ⟨hidle, hmoving⟩ := takeUp_place ((s.evaluated link insts).currentSetpoint a) s.gen.recs[a]
    refine ⟨s.enableTimesOut a, rfl, h.detached, fun b hb => ⟨(h.others b hb).1.trans (hd b hb), (h.others b hb).2⟩, h.later,
      fun hf => ?_, h.armed, h.elsewhere, h.clock, h.log, h.store, hfault⟩
    obtain ⟨h1, h2, h3, h4⟩ := haltedGen_halts (s.evaluated link insts) a
    rw [h.first hf, h.driveOf, h.currentSetpoint]
    refine ⟨h1, h2, h3, h4, hplace.1, fun hon hm => ?_, fun hon hm => ?_⟩
    · exact ⟨(hplace.2 hon).1.trans (hmoving hm).1, (hplace.2 hon).2.trans (hmoving hm).2⟩
    · exact ⟨(hplace.2 hon).1.trans ((hidle hm).1.trans (currentSetpoint_of_on hon)), (hplace.2 hon).2.trans (hidle hm).2⟩
  · refine conclude_of_refused ?_
    have hj := jogAllowed_of (s := s) (hst.imp_right .inl)
    simp only [jog, hj, ensure_true_bind, jogOperands_bytes a hv, need_some_bind, axisOf_number, jogTests_detached hc hon hd]
    rfl
  · refine ⟨_, clearFaults_eq tag, fun a ha => ?_⟩
    have h := afterClear_testsRelease s tag a
    have hrel : (s.unlatched tag).releasable a = true ↔ s.ctrl.pass = none ∧ genAtRest s.gen.recs[a] = true ∧
        ∀ i ∈ s.mon.detached[a], ((s.afterClear tag).mon.insts[i]).active = false ∧
          ((s.afterClear tag).mon.insts[i]).latched = none := by
      rw [releasable_iff, h.detached, h.insts, h.ctrl, h.gen]
      exact ⟨fun ⟨_, h1, h2, h3⟩ => ⟨h1, h3, h2⟩, fun ⟨h1, h2, h3⟩ => ⟨ha, h1, h3, h2⟩⟩
    refine ⟨fun hn => ?_, fun hp hrest hcond => ?_⟩
    · have hno := fun h => hn (hrel.mp h)
      rw [h.left, h.record, if_neg hno, if_neg hno]
      exact ⟨rfl, rfl⟩
    · have hyes := hrel.mpr ⟨hp, hrest, hcond⟩
      rw [h.left, h.record, if_pos hyes, if_pos hyes]
      refine ⟨rfl, h.fault hyes, releasedGen_v s a, fun hh => ?_, fun hon => ⟨fun ts hst hts => ?_, fun hst => ?_⟩⟩
      · rw [releasedGen_idle hh]
        exact ⟨rfl, rfl⟩
      · rw [releasedGen_preroll hon hst hts]
        exact ⟨rfl, rfl, currentSetpoint_of_on hon⟩
      · rw [releasedGen_resting hon hst]
        exact ⟨rfl, currentSetpoint_of_on hon⟩

end Sys2Proof.Machine
end

/-! SUPPORT. What the actions of an evaluation event leave of the axis link (R119, R122, R139): drives only go OFF, the queue only
empties. -/
section
namespace Sys2Proof.Machine

variable {s t u : State}

/-! ### The run controller's actions leave the link -/

namespace State

@[simp] theorem endPass_link (s : State) (o : PassOutcome) : (s.endPass o).link = s.link := (endPass_any s o).link

@[simp] theorem cancelCheck_link (s : State) : s.cancelCheck.link = s.link := by
  obtain ⟨c, check, n, h, -⟩ := cancelCheck_spec s
  rw [h]

@[simp] theorem takeAtRest_link (s : State) : s.takeAtRest.link = s.link := by
  unfold State.takeAtRest
  split
  · rfl
  all_goals simp

@[simp] theorem atRestIfStill_link (s : State) : s.atRestIfStill.link = s.link := by
  unfold State.atRestIfStill
  split
  · exact takeAtRest_link s
  · rfl

@[simp] theorem faultRampStop_link (s : State) : s.faultRampStop.link = s.link := by simp [State.faultRampStop]

theorem pathStop_link (s : State) : s.pathStop.link = s.link := by
  unfold State.pathStop
  split
  case h_5 => split <;> simp
  case h_10 => split <;> simp
  case h_11 => split <;> simp
  all_goals simp

theorem controllerDriveOff_link (s : State) : s.controllerDriveOff.link = s.link := by
  unfold State.controllerDriveOff
  split
  · rfl
  · simp

end State

/-! ### The link through an action -/

/-- From s to t drives may have been turned OFF and transactions dropped; nothing else of the axis link has changed. -/
structure LinkStands (s t : State) : Prop where
  fittings : t.fittings = s.fittings
  rest : { t.link with recs := s.link.recs, queue := s.link.queue, period := s.link.period } = s.link
  period : s.link.period = none → t.link.period = none
  recs : ∀ a : Axis, t.link.recs[a] = s.link.recs[a] ∨ t.link.recs[a] = offRec s.link.recs[a]

namespace LinkStands

theorem of_link (hf : t.fittings = s.fittings) (hl : t.link = s.link) : LinkStands s t := by
  refine ⟨hf, ?_, fun h => ?_, fun a => .inl ?_⟩ <;> rw [hl]
  exact h

theorem refl (s : State) : LinkStands s s := .of_link rfl rfl

theorem trans (h : LinkStands s t) (h' : LinkStands t u) : LinkStands s u where
  fittings := h'.fittings.trans h.fittings
  rest := (congrArg (fun l : Link => { l with recs := s.link.recs, queue := s.link.queue, period := s.link.period }) h'.rest).trans h.rest
  period hp := h'.period (h.period hp)
  recs a := by
    obtain h1 | h1 := h.recs a <;> obtain h2 | h2 := h'.recs a <;> rw [h2, h1]
    · exact .inl rfl
    · exact .inr rfl
    · exact .inr rfl
    · exact .inr rfl

theorem driveOf_off (h : LinkStands s t) {a : Axis} (ha : s.driveOf a = .off) : t.driveOf a = .off := by
  unfold State.driveOf at ha ⊢
  obtain hr | hr := h.recs a <;> rw [hr]
  · exact ha
  · rfl

theorem due (h : LinkStands s t) : t.link.due = s.link.due := (congrArg Link.due h.rest :)

theorem snap (h : LinkStands s t) : t.link.snap = s.link.snap := (congrArg Link.snap h.rest :)

theorem snapQueue (h : LinkStands s t) : t.link.snapQueue = s.link.snapQueue := (congrArg Link.snapQueue h.rest :)

/-- A drive turned OFF keeps what its feedback shows. -/
theorem feedback (h : LinkStands s t) (a : Axis) :
    (t.link.recs[a]).stale = (s.link.recs[a]).stale ∧ (t.link.recs[a]).misses = (s.link.recs[a]).misses ∧
      (t.link.recs[a]).measured = (s.link.recs[a]).measured ∧ (t.link.recs[a]).flags = (s.link.recs[a]).flags := by
  obtain hr | hr := h.recs a <;> rw [hr] <;> exact ⟨rfl, rfl, rfl, rfl⟩

end LinkStands

theorem KeepsRig.linkStands (h : KeepsRig s t) : LinkStands s t := .of_link h.fittings h.link

theorem setLinkRec_linkStands (s : State) (a : Axis) : LinkStands s (s.setLinkRec a (offRec s.link.recs[a])) := by
  refine ⟨rfl, rfl, id, fun b => ?_⟩
  have hrec : (s.setLinkRec a (offRec s.link.recs[a])).link.recs[b] =
      if a = b then offRec s.link.recs[a] else s.link.recs[b] := put_get _ _ _ _
  rw [hrec]
  split
  · next h => exact .inr (by rw [h])
  · exact .inl rfl

theorem turnOffAxis_linkStands (s : State) (a : Axis) : LinkStands s (s.turnOffAxis a) := by
  have hf := (turnOffAxis_turnsOff s a).fittings
  unfold State.turnOffAxis at hf ⊢
  split at hf
  · exact .refl s
  · exact setLinkRec_linkStands s a
  · exact (setLinkRec_linkStands s a).trans (.of_link hf (genDriveLeft_link _ a))

theorem foldl_turnOffAxis_linkStands (as : List Axis) : ∀ s : State, LinkStands s (as.foldl State.turnOffAxis s) := by
  induction as with
  | nil => exact LinkStands.refl
  | cons a as ih => exact fun s => (turnOffAxis_linkStands s a).trans (ih _)

theorem settleFaults_linkStands (s : State) (b : Bool) : LinkStands s (s.settleFaults b) :=
  (settleFaults_settles s b).keepsRig.linkStands

theorem turnOff_linkStands (s : State) (as : List Axis) : LinkStands s (s.turnOff as) := by
  refine ((foldl_turnOffAxis_linkStands as s).trans ?_).trans (settleFaults_linkStands _ _)
  split
  · exact .refl _
  · exact (driveLeftOn_keepsRig _).linkStands

theorem abortQueue_linkStands (s : State) (drop : Acyclic → Bool) : LinkStands s (s.abortQueue drop) := by
  have hperiod : s.link.period = none → (s.abortQueue drop).link.period = none := fun h => by
    obtain ⟨c, hc, -⟩ := State.foldl_abortPass s (s.link.queue.filter drop)
    simp only [State.abortQueue, hc, h, Option.map_none, ite_self]
  obtain ⟨c, period, h⟩ := s.abortQueue_spec drop
  rw [h] at hperiod ⊢
  exact ⟨rfl, rfl, hperiod, fun _ => .inl rfl⟩

theorem driveOffAction_linkStands (s : State) : LinkStands s s.driveOffAction :=
  ((LinkStands.of_link (controllerDriveOff_standsDown s).fittings s.controllerDriveOff_link).trans (turnOff_linkStands _ _)).trans
    (abortQueue_linkStands _ _)

theorem detach_link (s : State) (i : CondId) : (s.detach i).link = s.link := by
  unfold State.detach
  simp only
  split <;> rfl

theorem foldl_detach_linkStands (is : List CondId) : ∀ s : State, LinkStands s (is.foldl State.detach s) := by
  induction is with
  | nil => exact LinkStands.refl
  | cons i is ih => exact fun s => (LinkStands.of_link (detach_fittings s i) (detach_link s i)).trans (ih _)

theorem abandonArm_linkStands (c : Bool) (s : State) : LinkStands s (if c then s.abandonArm else s) := by
  split
  · exact .of_link rfl rfl
  · exact .refl s

theorem stop_linkStands (driveOff pathStop : Bool) (s : State) :
    LinkStands s (if driveOff then s.driveOffAction else if pathStop then s.pathStop else s) := by
  split
  · exact driveOffAction_linkStands s
  · split
    · exact .of_link (pathStop_fittings s) s.pathStop_link
    · exact .refl s

/-- R139, R140: the actions of an event, whichever are in force. -/
theorem actOn_linkStands (s : State) (ids : List CondId) (changed : Bool) : LinkStands s (s.actOn ids changed) :=
  (((foldl_detach_linkStands _ s).trans (abandonArm_linkStands _ _)).trans (stop_linkStands _ _ _)).trans
    (settleFaults_linkStands _ _)

theorem evaluateEvent_linkStands (s : State) (es : List Evidence) : LinkStands s (s.evaluateEvent es) := by
  have h := actOn_linkStands { s with mon := (evaluateAll s.mon s.stampNow es).mon } (evaluateAll s.mon s.stampNow es).activated
    (evaluateAll s.mon s.stampNow es).changed
  exact ⟨h.fittings, h.rest, h.period, h.recs⟩

end Sys2Proof.Machine
end

/-! The events of the rig lines (R77, R119, R182, R183, R187): O54. -/
section
namespace Sys2Proof.Machine

variable {s : State} {l : Line} {f : Filter}

theorem takeClear_due (h : (s.lines.lines[l]).pendingClear = some 0) :
    s.takeClear l = s.setLine l { s.lines.lines[l] with latch := false, pendingClear := none } := if_pos h

theorem takeClear_waiting (h : (s.lines.lines[l]).pendingClear ≠ some 0) : s.takeClear l = s := if_neg h

theorem takeEdge_none (h : s.edgeDue l = none) : s.takeEdge l = s := by rw [State.takeEdge, h]

/-- R182: the state with the filter of a line at the level of its edge. -/
def State.edged (s : State) (l : Line) (active : Bool) : State := { s with lines := putFilter s.lines l { active, count := 0 } }

theorem takeEdge_some {active : Bool} (h : s.edgeDue l = some f) (ha : f.active = active) :
    s.takeEdge l = (s.edged l !active).handEdge l !active := by
  simp only [State.takeEdge, h, flipFilter, ha, State.edged]

/-- R134, R183: an active edge of L1 turns every drive OFF, and the evaluation of ESTOP that follows leaves them so. -/
theorem handEdge_estop (s : State) : LinkStands s (s.handEdge 1 true) ∧ ∀ a : Axis, (s.handEdge 1 true).driveOf a = .off := by
  have hedge : s.handEdge 1 true = (s.turnOff allAxes).evaluateEstop := rfl
  have hevent : LinkStands (s.turnOff allAxes) (s.turnOff allAxes).evaluateEstop := evaluateEvent_linkStands _ _
  rw [hedge]
  exact ⟨(turnOff_linkStands s allAxes).trans hevent,
    fun a => hevent.driveOf_off ((turnOff_turnsDrivesOff s allAxes).drives a (mem_allAxes a))⟩

/-- R183: an inactive edge of L2 or L3 reaches no owner. -/
theorem handEdge_inactive (hl : l = 2 ∨ l = 3) (s : State) : s.handEdge l false = s := by
  obtain rfl | rfl := hl <;> rfl

/-- R77, R183: an active edge of L2 is taken as GO. -/
theorem handEdge_resumes {e : RunEntry} (hst : s.ctrl.state = .holding) (he : s.currentEntry? = some e) :
    s.handEdge 2 true = s.clearSkipped.resumePass e := by
  have hedge : s.handEdge 2 true = (s.takeGo id).getD s := rfl
  rw [hedge, takeGo_resumes he (.inl hst), Option.getD_some, id]

/-- R76, R183: an active edge of L3 is taken as HOLD. -/
theorem handEdge_holds (hst : s.ctrl.state = .running) (hsync : s.clock.cfg.sync ≠ .follower) (hv : s.clock.speed ≠ 0) :
    s.handEdge 3 true = ({ s with clock := startHoldRamp s.clock } : State).enter .holding := by
  have hedge : s.handEdge 3 true = (s.takeHold fun _ t => t).getD s := rfl
  rw [hedge, takeHold_running hst hsync, Option.getD_some, startHold_of_moving hv]

/-- Settles O54. -/
theorem lineEventsAreTaken : Obligations.LineEventsAreTaken := by
  unfold Obligations.LineEventsAreTaken
  have hedge (l : Line) (s : State) : exec (.lineFilterEdge l) s = .next (s.takeEdge l) := rfl
  have hclear (l : Line) (s : State) : exec (.pendingClearExpiry l) s = .next (s.takeClear l) := rfl
  intro l s
  refine ⟨?_, ?_, ?_, ?_, ?_, ?_, ?_⟩
  · intro h
    rw [hclear, takeClear_due h]
    rfl
  · intro h
    rw [hclear, takeClear_waiting h]
  · intro h
    rw [hedge, takeEdge_none h]
  · intro f h ha
    rw [hedge, takeEdge_some h ha, Bool.not_false]
    obtain ⟨hstands, hoff⟩ := handEdge_estop (s.edged 1 true)
    obtain ⟨haxes, hwheels, hlines⟩ := fittings_eq hstands.fittings
    exact ⟨_, rfl, by rw [State.estopActive, hlines]; rfl, hoff, hlines, haxes, hwheels⟩
  · intro f hl h ha
    rw [hedge, takeEdge_some h ha, Bool.not_true, handEdge_inactive hl]
    rfl
  · intro f e h ha hst he
    rw [hedge, takeEdge_some h ha, Bool.not_false, handEdge_resumes (s := s.edged 2 true) hst he]
    exact ⟨_, rfl, rfl, rfl, rfl, rfl, rfl⟩
  · intro f h ha hst hsync hv
    rw [hedge, takeEdge_some h ha, Bool.not_false, handEdge_holds (s := s.edged 3 true) hst hsync hv]
    exact ⟨_, rfl, rfl, rfl, rfl, rfl, rfl⟩

end Sys2Proof.Machine
end

/-! SUPPORT. SLOT_END while slots are left (R108, R111, R112, R121): the end of the present slot and the grant of the next. -/
section
namespace Sys2Proof.Machine

variable {s : State} {p : LinkPeriod} {a : Axis} {x : Acyclic} {new rest : List Acyclic}

/-! ### The end of a slot -/

/-- With nothing due a slot end finds the period in progress. -/
theorem slotEnd_eq (hq : Quiet s) (hp : s.link.period = some p) : exec .slotEnd s = .next (s.endSlot p) := by
  have hexec : exec .slotEnd s = execSlotEnd s := rfl
  simp only [hexec, execSlotEnd, hq.takeDue, hp]

theorem slotEnd_idle (hq : Quiet s) (hp : s.link.period = none) : exec .slotEnd s = .next s := by
  have hexec : exec .slotEnd s = execSlotEnd s := rfl
  simp only [hexec, execSlotEnd, hq.takeDue, hp]

theorem endSlot_unused (hc : p.current = .unused) (hl : 0 < p.left) : s.endSlot p = s.grantSlot { p with left := p.left - 1 } := by
  simp only [State.endSlot, State.endAttempt, hc, if_pos hl]

theorem endSlot_last (hc : p.current = .unused) (hl : p.left = 0) : s.endSlot p = s.closeBatch p := by
  simp only [State.endSlot, State.endAttempt, hc, hl, Nat.lt_irrefl, if_false]

theorem endSlot_attempt (hc : p.current = .setpoint a false) (hl : 0 < p.left) :
    s.endSlot p = s.grantSlot { p with left := p.left - 1, retries := p.retries ++ [a], current := .unused } := by
  simp only [State.endSlot, State.endAttempt, hc, if_pos hl]

theorem endSlot_acyclic (hc : p.current = .acyclic) (hl : 0 < p.left) (hx : flyingOf s.link.queue = some x) :
    s.endSlot p = (s.failAttempt x).grantSlot { p with left := p.left - 1, current := .unused } := by
  simp only [State.endSlot, State.endAttempt, hc, hx, if_pos hl]

/-! ### The first waiting claim (R111) -/

theorem nextGrant_first {as : List Axis} (h : p.first = a :: as) (q : List Acyclic) : nextGrant p q = .first a := by
  simp only [nextGrant, h]

theorem nextGrant_retry {as : List Axis} (h : p.first = []) (hr : p.retries = a :: as) : nextGrant p [] = .retry a := by
  have : agedWaits p [] = false := Bool.and_false _
  simp only [nextGrant, h, hr, this, Bool.false_eq_true, if_false]

theorem nextGrant_aged (h : p.first = []) (hd : p.agedDone = false) (ha : 8 ≤ x.age) (hx : mayClaim p x = true) :
    nextGrant p (x :: rest) = .aged := by
  have haged : agedWaits p (x :: rest) = true := by simp only [agedWaits, hd, hx, ha, decide_true, Bool.not_false, Bool.and_self]
  cases hr : p.retries with
  | nil => simp only [nextGrant, h, hr, haged, if_true]
  | cons a as => simp only [nextGrant, h, hr, haged, if_true]

theorem any_mayClaim (hx : mayClaim p x = true) : (new ++ x :: rest).any (mayClaim p) = true :=
  List.any_eq_true.mpr ⟨x, by simp, hx⟩

/-- A younger head, a head of an axis configured since, or an aged claim granted before leaves the further attempt. -/
theorem nextGrant_further (h : p.first = []) (hr : p.retries = []) (hn : ∀ y ∈ new, mayClaim p y = false)
    (hy : new ≠ [] ∨ x.age < 8 ∨ p.agedDone = true) (hx : mayClaim p x = true) : nextGrant p (new ++ x :: rest) = .further := by
  have haged : agedWaits p (new ++ x :: rest) = false := by
    unfold agedWaits
    cases new with
    | cons y ys => simp [hn y List.mem_cons_self]
    | nil =>
      obtain hy | hy | hy := hy
      · exact absurd rfl hy
      · simp [Nat.not_le.mpr hy]
      · simp [hy]
  simp only [nextGrant, h, hr, haged, any_mayClaim hx, Bool.false_eq_true, if_false, if_true]

theorem nextGrant_nothing {q : List Acyclic} (h : p.first = []) (hr : p.retries = []) (hn : ∀ y ∈ q, mayClaim p y = false) :
    nextGrant p q = .nothing := by
  have hnone : q.any (mayClaim p) = false := List.any_eq_false.mpr fun y hy => by simp [hn y hy]
  have haged : agedWaits p q = false := by
    unfold agedWaits
    cases q with
    | nil => exact Bool.and_false _
    | cons y ys => simp [hn y List.mem_cons_self]
  simp only [nextGrant, h, hr, haged, hnone, Bool.false_eq_true, if_false]

/-! ### The grant of a slot -/

/-- R112: a setpoint transaction in its slot. -/
theorem grantSlot_setpoint (hg : nextGrant p s.link.queue = .first a ∨ nextGrant p s.link.queue = .retry a)
    (hc : s.configured a = true) :
    s.grantSlot p =
      { s with
        link :=
          { s.link with
            period := some (grantIn p (nextGrant p s.link.queue))
            recs := put s.link.recs a { s.link.recs[a] with lastSent := s.currentSetpoint a }
            sent := setpointFrame a (s.currentSetpoint a) (!(s.driveOf a = .off)) } } := by
  have hsend := sendSetpoint_configured
    (s := { s with link := { s.link with period := some (grantIn p (nextGrant p s.link.queue)) } }) hc
  obtain hg | hg := hg <;> rw [hg] at hsend <;> simp only [State.grantSlot, hg] <;> exact hsend

/-- R121: an acyclic attempt in its slot. -/
theorem grantSlot_acyclic (hg : nextGrant p s.link.queue = .aged ∨ nextGrant p s.link.queue = .further)
    (hq : s.link.queue = new ++ x :: rest) (hn : ∀ y ∈ new, mayClaim p y = false) (hx : mayClaim p x = true) :
    s.grantSlot p =
      { s with
        link :=
          { s.link with
            period := some (grantIn p (nextGrant p s.link.queue)), queue := new ++ { x with flying := true } :: rest
            sent := acyclicFrame x } } := by
  have hsend (per : Option LinkPeriod) : State.sendAcyclic { s with link := { s.link with period := per } } p =
      { s with
        link := { s.link with period := per, queue := new ++ { x with flying := true } :: rest, sent := acyclicFrame x } } := by
    simp only [State.sendAcyclic, hq, find_mayClaim new rest hn hx, launch_append new rest hn hx]
  obtain hg | hg := hg <;> simp only [State.grantSlot, hg] <;> exact hsend _

theorem grantSlot_nothing (hg : nextGrant p s.link.queue = .nothing) :
    s.grantSlot p = { s with link := { s.link with period := some (grantIn p .nothing) } } := by
  simp only [State.grantSlot, hg]

/-- R107, R111: what may claim. -/
theorem mayClaim_waiting (hf : x.flying = false) (ha : p.axes.contains x.axis = true) : mayClaim p x = true := by
  rw [mayClaim, ha, hf]
  rfl

/-! ### A failed attempt (R121) -/

theorem flyingOf_single (hf : x.flying = true) : flyingOf [x] = some x := by simp only [flyingOf, List.find?_cons, hf]

theorem failAttempt_again (hq : s.link.queue = [x]) (hf : x.flying = true) (h : x.fails < 2) :
    s.failAttempt x = { s with link := { s.link with queue := [{ x with flying := false, fails := x.fails + 1 }] } } := by
  simp only [State.failAttempt, if_neg (Nat.not_le.mpr h), hq, List.map_cons, List.map_nil, hf, if_true]

theorem failAttempt_last (hq : s.link.queue = [x]) (hf : x.flying = true) (h : 2 ≤ x.fails) :
    s.failAttempt x = ({ s with link := { s.link with queue := [] } } : State).reply Kind.drivePass x.tag .noResponse [] := by
  simp only [State.failAttempt, if_pos h, State.dropFlying, hq, List.filter_cons, hf, Bool.not_true, Bool.false_eq_true, if_false,
    List.filter_nil]

/-- R111: a transaction alone in the queue is granted as aged once in a period, and as a further attempt else. -/
theorem nextGrant_single (h : p.first = []) (hr : p.retries = []) (hx : mayClaim p x = true) :
    ∃ g, (g = .aged ∨ g = .further) ∧ nextGrant p [x] = g ∧
      grantIn p g = { p with current := .acyclic, agedDone := p.agedDone || decide (8 ≤ x.age) } := by
  by_cases ha : p.agedDone = false ∧ 8 ≤ x.age
  · refine ⟨.aged, .inl rfl, nextGrant_aged h ha.1 ha.2 hx, ?_⟩
    simp only [grantIn, ha.1, ha.2, decide_true, Bool.or_true]
  · rw [not_and_or, Bool.not_eq_false] at ha
    refine ⟨.further, .inr rfl, nextGrant_further (new := []) h hr (by simp) (.inr (ha.symm.imp_left Nat.lt_of_not_le)) hx, ?_⟩
    have hdone : (p.agedDone || decide (8 ≤ x.age)) = p.agedDone := by
      obtain hd | hy := ha
      · rw [hd, Bool.true_or]
      · rw [decide_eq_false hy, Bool.or_false]
    rw [hdone]
    rfl

theorem grantSlot_single (hq : s.link.queue = [x]) (h : p.first = []) (hr : p.retries = []) (hx : mayClaim p x = true) :
    s.grantSlot p =
      { s with
        link :=
          { s.link with
            period := some { p with current := .acyclic, agedDone := p.agedDone || decide (8 ≤ x.age) }
            queue := [{ x with flying := true }], sent := acyclicFrame x } } := by
  obtain ⟨g, hg, hgrant, hin⟩ := nextGrant_single h hr hx
  rw [← hq] at hgrant
  rw [grantSlot_acyclic (new := []) (rest := []) (by rw [hgrant]; exact hg) hq (by simp) hx, hgrant, hin]
  rfl

end Sys2Proof.Machine
end

/-! SUPPORT. The close of a period on the axis link (R113, R114, R117, R123), and that what the close brings about leaves it. -/
section
namespace Sys2Proof.Machine

variable {s : State} {p : LinkPeriod} {a : Axis}

/-! ### A link record at the close -/

theorem closeRec_cases (p : LinkPeriod) (configured : Bool) (a : Axis) (l : LinkRec) :
    ∃ n, State.closeRec p configured a l =
      { l with
        enableCount := n
        stale := if configured && p.axes.contains a && !p.good.contains a then true else l.stale
        misses := if configured && p.axes.contains a && !p.good.contains a then satSucc 255 l.misses else l.misses } ∧
      n = if l.drive = .enabling then satSucc 100 l.enableCount else l.enableCount := by
  unfold State.closeRec
  simp only
  split <;> split <;> exact ⟨_, rfl, rfl⟩

/-- R113: with no good reply in its period the axis is MISSED. -/
theorem closeRec_missed (hc : p.axes.contains a = true) (hg : p.good.contains a = false) (l : LinkRec) :
    (State.closeRec p true a l).stale = true ∧ (State.closeRec p true a l).misses = min 255 (l.misses + 1) := by
  obtain ⟨n, h, -⟩ := closeRec_cases p true a l
  have hmissed : (true && p.axes.contains a && !p.good.contains a) = true := by rw [hc, hg]; rfl
  rw [h, if_pos hmissed, if_pos hmissed]
  exact ⟨rfl, rfl⟩

theorem closeRec_good (hg : p.good.contains a = true) (configured : Bool) (l : LinkRec) :
    (State.closeRec p configured a l).stale = l.stale ∧ (State.closeRec p configured a l).misses = l.misses := by
  obtain ⟨n, h, -⟩ := closeRec_cases p configured a l
  have hno : ¬(configured && p.axes.contains a && !p.good.contains a) = true := by rw [hg]; simp
  rw [h, if_neg hno, if_neg hno]
  exact ⟨rfl, rfl⟩

theorem closeRec_feedback (p : LinkPeriod) (configured : Bool) (a : Axis) (l : LinkRec) :
    (State.closeRec p configured a l).measured = l.measured ∧ (State.closeRec p configured a l).flags = l.flags ∧
      (State.closeRec p configured a l).drive = l.drive ∧ (State.closeRec p configured a l).lastSent = l.lastSent := by
  obtain ⟨n, h, -⟩ := closeRec_cases p configured a l
  rw [h]
  exact ⟨rfl, rfl, rfl, rfl⟩

/-- R117: the 100th period of an ENABLING axis makes its timeout due. -/
theorem timesOut_closeRec (p : LinkPeriod) (configured : Bool) (a : Axis) (l : LinkRec) :
    State.timesOut (State.closeRec p configured a l) = (decide (l.drive = .enabling) && decide (99 ≤ l.enableCount)) := by
  obtain ⟨n, h, hn⟩ := closeRec_cases p configured a l
  rw [State.timesOut, h]
  by_cases hd : l.drive = .enabling
  · rw [if_pos hd, satSucc] at hn
    have hiff : n = 100 ↔ 99 ≤ l.enableCount := by omega
    simp only [hd, decide_true, Bool.true_and, hiff]
  · simp only [hd, decide_false, Bool.false_and]

/-! ### The link after the close -/

theorem closeLink_recs (s : State) (p : LinkPeriod) (a : Axis) :
    (s.closeLink p).link.recs[a] = State.closeRec p (s.configured a) a s.link.recs[a] := by
  simp only [State.closeLink, tabulate_get]

theorem closeLink_due (s : State) (p : LinkPeriod) (a : Axis) :
    (s.closeLink p).link.due[a] = (s.link.due[a] || State.timesOut (State.closeRec p (s.configured a) a s.link.recs[a])) := by
  simp only [State.closeLink, tabulate_get]

theorem closeLink_snap (s : State) (p : LinkPeriod) (a : Axis) :
    (s.closeLink p).link.snap[a] = State.snapOf (s.configured a) (State.closeRec p (s.configured a) a s.link.recs[a]) := by
  simp only [State.closeLink, tabulate_get]

/-- A close changes the link alone. -/
theorem closeLink_eq (s : State) (p : LinkPeriod) : ∃ link, s.closeLink p = { s with link := link } ∧ link.period = none ∧
    link.prevBatch = s.link.batch ∧ link.snapQueue = s.link.queue.length :=
  ⟨_, rfl, rfl, rfl, rfl⟩

/-! ### What the close brings about -/

theorem fallBlanking_eq (s : State) : ∃ blank, s.fallBlanking = { s with mon := { s.mon with blank := blank } } ∧
    ∀ a : Axis, blank[a] = if (s.link.batch[a]).isSome then s.mon.blank[a] - 1 else s.mon.blank[a] :=
  ⟨_, rfl, fun a => by simp only [tabulate_get]⟩

theorem fallBlanking_linkStands (s : State) : LinkStands s s.fallBlanking := by
  obtain ⟨blank, h, -⟩ := fallBlanking_eq s
  rw [h]
  exact .of_link rfl rfl

theorem monitorBatch_linkStands (s : State) : LinkStands s s.monitorBatch :=
  (fallBlanking_linkStands s).trans (evaluateEvent_linkStands _ _)

theorem countInPosition_eq (s : State) : ∃ n, s.countInPosition = { s with ctrl := { s.ctrl with inPos := n } } := by
  unfold State.countInPosition
  split
  · exact ⟨_, rfl⟩
  · exact ⟨s.ctrl.inPos, rfl⟩

theorem logCrossing_linkStands (s : State) : LinkStands s s.logCrossing := by
  unfold State.logCrossing
  split
  · exact .refl s
  · next c _ =>
    obtain ⟨d, hd⟩ := recordFrame_spec s c (State.frameRecord c s.crossingSample)
    simp only [hd]
    obtain ⟨e, log, he⟩ := finishClosing_spec
      { s with console := d, log := { writeRecord s.log (State.frameRecord c s.crossingSample) with crossing := none } }
    simp only [he]
    have h := evaluateEvent_linkStands { s with console := e, log := log }
      (if s.log.closing.isNone then repeatEvaluations s.log s.mon (State.frameRecord c s.crossingSample) else [])
    exact ⟨h.fittings, h.rest, h.period, h.recs⟩

theorem countInPosition_linkStands (s : State) : LinkStands s s.countInPosition := by
  obtain ⟨n, h⟩ := countInPosition_eq s
  rw [h]
  exact .of_link rfl rfl

/-- R114: the close hands the batch on; what comes of it leaves the link's outcomes. -/
theorem closeBatch_linkStands (s : State) (p : LinkPeriod) : LinkStands (s.closeLink p) (s.closeBatch p) :=
  ((monitorBatch_linkStands _).trans (countInPosition_linkStands _)).trans (logCrossing_linkStands _)

end Sys2Proof.Machine
end

/-! SUPPORT. The evaluations of one event, instance by instance (R130, R131, R139), and an event that brings about no action. -/
section
namespace Sys2Proof.Machine

variable {s t : State} {a b : Axis} {c : AxisCond}

/-! ### Instances by condition and axis -/

theorem axisCond_of_number (c : AxisCond) :
    [AxisCond.follow, .overspeed, .limitSw, .driveFault, .link, .repeatDev][(axisCondNumber c).val]? = some c := by
  cases c <;> rfl

theorem condOn_inj {c c' : AxisCond} : condOn c a = condOn c' b ↔ c = c' ∧ a = b := by
  constructor
  · intro h
    have hval : 16 * (axisCondNumber c).val + a.val = 16 * (axisCondNumber c').val + b.val := congrArg Fin.val h
    have ha := a.isLt
    have hb := b.isLt
    refine ⟨?_, Fin.ext (by omega)⟩
    have hn : (axisCondNumber c).val = (axisCondNumber c').val := by omega
    exact Option.some.inj ((axisCond_of_number c).symm.trans (hn ▸ axisCond_of_number c'))
  · rintro ⟨rfl, rfl⟩
    rfl

theorem condOn_lt (c : AxisCond) (a : Axis) : (condOn c a).val < 96 := by
  have := (axisCondNumber c).isLt
  have := a.isLt
  simp only [condOn]
  omega

/-! ### One instance through the evaluations of an event -/

/-- R128, R136: an instance after an evaluation of it, which a monitor in mode OFF passes over. -/
def evaluatedInst (m : Monitor) (stamp : Stamp) (i : CondInst) (e : Evidence) : CondInst :=
  if m.mode = .off then i else evaluateInst m stamp i e

theorem evaluateOne_inst (stamp : Stamp) (r : Evaluated) (e : Evidence) (i : CondId) :
    (evaluateOne stamp r e).mon.settings = r.mon.settings ∧
      (evaluateOne stamp r e).mon.insts[i] =
        if e.id = i then evaluatedInst r.mon.settings[i] stamp r.mon.insts[i] e else r.mon.insts[i] := by
  unfold evaluateOne evaluatedInst
  simp only
  by_cases hi : e.id = i
  · subst hi
    rw [if_pos rfl]
    split
    · exact ⟨rfl, rfl⟩
    · exact ⟨rfl, put_get_same ..⟩
  · rw [if_neg hi]
    split
    · exact ⟨rfl, rfl⟩
    · exact ⟨rfl, put_get_other _ _ hi⟩

/-- R130: an instance goes through the evaluations of it, in order. -/
theorem evaluateAll_inst (mon : Mon) (stamp : Stamp) (es : List Evidence) (i : CondId) :
    (evaluateAll mon stamp es).mon.insts[i] =
      (es.filter fun e => e.id = i).foldl (evaluatedInst mon.settings[i] stamp) mon.insts[i] := by
  have fold : ∀ r : Evaluated, (es.foldl (evaluateOne stamp) r).mon.insts[i] =
      (es.filter fun e => e.id = i).foldl (evaluatedInst r.mon.settings[i] stamp) r.mon.insts[i] := by
    induction es with
    | nil => exact fun r => rfl
    | cons e es ih =>
      intro r
      obtain ⟨hset, hinst⟩ := evaluateOne_inst stamp r e i
      rw [List.foldl_cons, ih, hset, hinst, List.filter_cons]
      by_cases hi : e.id = i
      · simp only [hi, if_true, decide_true, List.foldl_cons]
      · simp only [hi, if_false, decide_false, Bool.false_eq_true]
  exact fold { mon, activated := [], changed := false }

/-! ### The evaluations of the batch -/

/-- R131: the evaluations of one condition of an axis at a close. -/
def State.evaluationsOf (s : State) (a : Axis) (b : BatchItem) : AxisCond → List Evidence
  | .follow => s.followAt a b
  | .overspeed => s.overspeedAt a b
  | .limitSw => [limitEvidence a b.flags]
  | .driveFault => s.driveFaultAt a b
  | .link => [linkEvidence a (s.mon.settings[condOn .link a]).threshold s.link.recs[a].misses]
  | .repeatDev => []

/-- The evaluations of a condition of an axis name no other instance. -/
theorem id_of_mem_evaluationsOf {x : BatchItem} {e : Evidence} (h : e ∈ s.evaluationsOf a x c) : e.id = condOn c a := by
  cases c with
  | follow =>
    simp only [State.evaluationsOf, State.followAt] at h
    split at h
    · rw [List.mem_singleton.mp h]
      rfl
    · cases h
  | overspeed =>
    simp only [State.evaluationsOf, State.overspeedAt] at h
    split at h
    · split at h
      · cases h
      · rw [List.mem_singleton.mp h]
        rfl
    · cases h
  | limitSw =>
    rw [List.mem_singleton.mp h]
    rfl
  | driveFault =>
    simp only [State.evaluationsOf, State.driveFaultAt] at h
    split at h
    · cases h
    · rw [List.mem_singleton.mp h]
      rfl
  | link =>
    rw [List.mem_singleton.mp h]
    rfl
  | repeatDev => cases h

theorem axisEvaluations_eq {x : BatchItem} (h : s.link.batch[a] = some x) :
    s.axisEvaluations a =
      [AxisCond.follow, .overspeed, .limitSw, .driveFault, .link].flatMap (s.evaluationsOf a x) := by
  simp only [State.axisEvaluations, h, List.flatMap_cons, List.flatMap_nil, List.append_nil, State.evaluationsOf, List.append_assoc]

theorem axisEvaluations_none (h : s.link.batch[a] = none) : s.axisEvaluations a = [] := by simp only [State.axisEvaluations, h]

/-- A filter that only one of distinct members passes leaves that member's part of their union. -/
theorem filter_flatMap_of_nodup {α β : Type} {xs : List α} {x : α} {f : α → List β} {q : β → Bool} (hn : xs.Nodup)
    (hx : x ∈ xs) (hno : ∀ y, y ≠ x → ∀ e ∈ f y, q e = false) : (xs.flatMap f).filter q = (f x).filter q := by
  obtain ⟨before, after, rfl⟩ := List.append_of_mem hx
  rw [List.nodup_middle, List.nodup_cons, List.mem_append, not_or] at hn
  have hnone (ys : List α) (hy : x ∉ ys) : (ys.flatMap f).filter q = [] := by
    rw [List.filter_eq_nil_iff]
    intro e he
    obtain ⟨y, hmem, hey⟩ := List.mem_flatMap.mp he
    rw [hno y (fun h => hy (h ▸ hmem)) e hey]
    exact Bool.false_ne_true
  rw [List.flatMap_append, List.flatMap_cons, List.filter_append, List.filter_append, hnone before hn.1.1, hnone after hn.1.2,
    List.append_nil, List.nil_append]

theorem axisEvaluations_id {e : Evidence} (h : e ∈ s.axisEvaluations a) :
    ∃ (x : BatchItem) (c : AxisCond), s.link.batch[a] = some x ∧ c ≠ .repeatDev ∧ e ∈ s.evaluationsOf a x c ∧
      e.id = condOn c a := by
  cases hb : s.link.batch[a] with
  | none =>
    rw [axisEvaluations_none hb] at h
    cases h
  | some x =>
    rw [axisEvaluations_eq hb] at h
    obtain ⟨c, hc, he⟩ := List.mem_flatMap.mp h
    refine ⟨x, c, rfl, ?_, he, id_of_mem_evaluationsOf he⟩
    rintro rfl
    simp at hc

/-- R131: what the batch evaluates of one condition of one axis. -/
theorem filter_batchEvaluations {x : BatchItem} (h : s.link.batch[a] = some x) (hc : c ≠ .repeatDev) :
    ((allAxes.flatMap s.axisEvaluations).filter fun e => e.id = condOn c a) = s.evaluationsOf a x c := by
  have haxis (b : Axis) (hb : b ≠ a) (e : Evidence) (he : e ∈ s.axisEvaluations b) : decide (e.id = condOn c a) = false := by
    obtain ⟨x', c', -, -, -, hid⟩ := axisEvaluations_id he
    rw [decide_eq_false_iff_not, hid, condOn_inj]
    exact fun hh => hb hh.2
  have hcond (c' : AxisCond) (hn : c' ≠ c) (e : Evidence) (he : e ∈ s.evaluationsOf a x c') :
      decide (e.id = condOn c a) = false := by
    rw [decide_eq_false_iff_not, id_of_mem_evaluationsOf he, condOn_inj]
    exact fun hh => hn hh.1
  rw [filter_flatMap_of_nodup allAxes_nodup (mem_allAxes a) haxis, axisEvaluations_eq h,
    filter_flatMap_of_nodup (x := c) (by decide) (by cases c <;> simp_all) hcond, List.filter_eq_self.mpr]
  exact fun e he => decide_eq_true (id_of_mem_evaluationsOf he)

theorem filter_batchEvaluations_none (h : s.link.batch[a] = none) :
    ((allAxes.flatMap s.axisEvaluations).filter fun e => e.id = condOn c a) = [] := by
  rw [List.filter_eq_nil_iff]
  intro e he
  obtain ⟨b, -, hb⟩ := List.mem_flatMap.mp he
  obtain ⟨x, c', hx, -, -, hid⟩ := axisEvaluations_id hb
  rw [decide_eq_true_eq, hid, condOn_inj]
  rintro ⟨-, rfl⟩
  rw [h] at hx
  cases hx

/-! ### An event that brings about no action -/

/-- From s to t an event has been evaluated whose conditions have no action in force. -/
structure Records (es : List Evidence) (s t : State) : Prop where
  insts : t.mon.insts = (evaluateAll s.mon s.stampNow es).mon.insts
  blank : t.mon.blank = s.mon.blank
  settings : t.mon.settings = s.mon.settings
  ctrl : t.ctrl = s.ctrl
  link : t.link = s.link
  axes : t.axes = s.axes
  log : t.log = s.log
  grows : s.console.Grows t.console
  attached : ∀ a : Axis, s.mon.detached[a] = [] → t.mon.detached[a] = [] ∧ t.gen.recs[a] = s.gen.recs[a]
  detached : ∀ a : Axis, t.mon.detached[a] ≠ [] → s.mon.detached[a] ≠ []

theorem evaluateEvent_records (es : List Evidence) (h : ∀ e ∈ es, e.truth = true → inForce s.mon.settings[e.id] = none) :
    Records es s (s.evaluateEvent es) := by
  obtain ⟨insts, hmon⟩ := evaluateAll_mon s.mon s.stampNow es
  have hset := settleFaults_settles (s.recorded es) (evaluateAll s.mon s.stampNow es).changed
  have hinsts := (s.recorded es).settleFaults_insts (evaluateAll s.mon s.stampNow es).changed
  obtain ⟨c, recs, det, hspec⟩ := settleFaults_spec (s.recorded es) (evaluateAll s.mon s.stampNow es).changed
  rw [evaluateEvent_of_no_action es h]
  have hrec : s.recorded es = { s with mon := { s.mon with insts := insts } } := by rw [State.recorded, hmon]
  have hall : (evaluateAll s.mon s.stampNow es).mon.insts = (s.recorded es).mon.insts := rfl
  rw [hrec] at hset hinsts hspec hall ⊢
  have hrest : (State.settleFaults { s with mon := { s.mon with insts := insts } } (evaluateAll s.mon s.stampNow es).changed).mon.blank =
      s.mon.blank := by rw [hspec]
  have hattached (a : Axis) (hd : s.mon.detached[a] = []) := hset.attached a hd
  refine ⟨by rw [hinsts, hall], hrest, settleFaults_settings _ _, hset.ctrl, hset.link, hset.axes, hset.log, hset.grows,
    fun a hd => ⟨(hattached a hd).2, (hattached a hd).1⟩, fun a hd hn => hd (hattached a hn).2⟩

end Sys2Proof.Machine
end

/-! SUPPORT. The close of a batch that brings about no action (R72, R84, R114, R131): the batch's items, the instances, the blanking
counts and the in-position count. -/
section
namespace Sys2Proof.Machine

variable {s t u : State} {p : LinkPeriod} {a : Axis} {c : AxisCond}

/-! ### The batch (R114) -/

/-- R114: the item of an axis of the period. -/
def State.closedItem (s : State) (p : LinkPeriod) (a : Axis) : BatchItem :=
  { setpoint := (s.link.recs[a]).lastSent, measured := (s.link.recs[a]).measured, stale := !p.good.contains a
    clamped := s.ctrl.clamped[a] && s.driveOf a = .on, detached := s.isDetached a, flags := (s.link.recs[a]).flags
    drive := s.driveOf a }

theorem closeLink_batch (s : State) (p : LinkPeriod) (a : Axis) :
    (s.closeLink p).link.batch[a] = if p.axes.contains a && s.configured a then some (s.closedItem p a) else none := by
  obtain ⟨hm, hf, hd, hl⟩ := closeRec_feedback p (s.configured a) a s.link.recs[a]
  simp only [State.closeLink, State.batchItem, tabulate_get, hm, hf, hd, hl]
  rfl

theorem closeLink_batch_some (hp : p.axes.contains a = true) (hc : s.configured a = true) :
    (s.closeLink p).link.batch[a] = some (s.closedItem p a) := by
  rw [closeLink_batch, hp, hc]
  rfl

theorem closeLink_batch_none (h : s.configured a = false ∨ p.axes.contains a = false) : (s.closeLink p).link.batch[a] = none := by
  rw [closeLink_batch, if_neg]
  rw [Bool.and_eq_true]
  rintro ⟨hp, hc⟩
  obtain h | h := h
  · rw [h] at hc
    cases hc
  · rw [h] at hp
    cases hp

/-! ### The crossing after the evaluations -/

/-- From s to t the pass log has taken a crossing, and perhaps a REPEAT evaluation with no action in force. -/
structure LogsOnly (s t : State) : Prop where
  insts : ∀ (c : AxisCond) (a : Axis), c ≠ .repeatDev → t.mon.insts[condOn c a] = s.mon.insts[condOn c a]
  blank : t.mon.blank = s.mon.blank
  ctrl : t.ctrl = s.ctrl
  link : t.link = s.link
  detached : ∀ a : Axis, t.mon.detached[a] ≠ [] → s.mon.detached[a] ≠ []

theorem Records.logsOnly {es : List Evidence} (h : Records es s t) (hes : ∀ e ∈ es, ∃ a, e.id = condOn .repeatDev a) :
    LogsOnly s t := by
  refine ⟨fun c a hc => ?_, h.blank, h.ctrl, h.link, h.detached⟩
  have hnone : (es.filter fun e => e.id = condOn c a) = [] := by
    rw [List.filter_eq_nil_iff]
    intro e he
    obtain ⟨b, hb⟩ := hes e he
    rw [decide_eq_true_eq, hb, condOn_inj]
    exact fun hh => hc hh.1.symm
  rw [h.insts, evaluateAll_inst, hnone]
  rfl

/-- The REPEAT evaluations that a crossing hands on. -/
def State.crossingEvaluations (s : State) (c : Crossing) : List Evidence :=
  if s.log.closing.isNone then repeatEvaluations s.log s.mon (State.frameRecord c s.crossingSample) else []

theorem crossingEvaluations_id {c : Crossing} {e : Evidence} (h : e ∈ s.crossingEvaluations c) : ∃ a, e.id = condOn .repeatDev a := by
  unfold State.crossingEvaluations at h
  split at h
  · obtain ⟨a, threshold, dev, rfl⟩ := mem_repeatEvaluations h
    exact ⟨a, rfl⟩
  · cases h

/-- The state with a crossing's record written, and a pass that waited for it closed. -/
def State.recordedCrossing (s : State) (c : Crossing) : State :=
  { s.recordFrame c (State.frameRecord c s.crossingSample) with
    log := { (s.recordFrame c (State.frameRecord c s.crossingSample)).log with crossing := none } }.finishClosing

theorem logCrossing_some {c : Crossing} (h : s.log.crossing = some c) :
    s.logCrossing = (s.recordedCrossing c).evaluateEvent (s.crossingEvaluations c) := by
  simp only [State.logCrossing, h]
  rfl

theorem recordedCrossing_eq (s : State) (c : Crossing) : ∃ d log, s.recordedCrossing c = { s with console := d, log := log } := by
  obtain ⟨d, hd⟩ := recordFrame_spec s c (State.frameRecord c s.crossingSample)
  obtain ⟨e, log, he⟩ := finishClosing_spec
    { s with console := d, log := { writeRecord s.log (State.frameRecord c s.crossingSample) with crossing := none } }
  refine ⟨e, log, ?_⟩
  rw [State.recordedCrossing, hd]
  exact he

theorem logCrossing_records {c : Crossing} (h : s.log.crossing = some c)
    (hno : ∀ j : CondId, j.val < 96 → inForce s.mon.settings[j] = none) :
    Records (s.crossingEvaluations c) (s.recordedCrossing c) s.logCrossing := by
  rw [logCrossing_some h]
  obtain ⟨d, log, heq⟩ := recordedCrossing_eq s c
  refine evaluateEvent_records _ fun e he _ => ?_
  obtain ⟨a, ha⟩ := crossingEvaluations_id he
  rw [heq]
  exact hno _ (by rw [ha]; exact condOn_lt _ _)

theorem logCrossing_logsOnly (hno : ∀ j : CondId, j.val < 96 → inForce s.mon.settings[j] = none) : LogsOnly s s.logCrossing := by
  cases hc : s.log.crossing with
  | none =>
    have : s.logCrossing = s := by simp only [State.logCrossing, hc]
    rw [this]
    exact ⟨fun _ _ _ => rfl, rfl, rfl, rfl, fun _ h => h⟩
  | some c =>
    have h := (logCrossing_records hc hno).logsOnly fun e he => crossingEvaluations_id he
    obtain ⟨d, log, heq⟩ := recordedCrossing_eq s c
    rw [heq] at h
    exact ⟨h.insts, h.blank, h.ctrl, h.link, h.detached⟩

/-! ### The monitor unit takes the batch -/

/-- R131: with no action in force the batch is recorded. -/
theorem monitorBatch_records (hno : ∀ j : CondId, j.val < 96 → inForce s.mon.settings[j] = none) :
    Records (allAxes.flatMap s.axisEvaluations) s.fallBlanking s.monitorBatch := by
  refine evaluateEvent_records _ fun e he _ => ?_
  obtain ⟨a, -, ha⟩ := List.mem_flatMap.mp he
  obtain ⟨-, c, -, -, -, hid⟩ := axisEvaluations_id ha
  obtain ⟨blank, hfall, -⟩ := fallBlanking_eq s
  rw [hfall]
  exact hno _ (by rw [hid]; exact condOn_lt _ _)

/-- What the close of a batch leaves in t, with no action in force, of the state s of its link close; v is the state after the monitors.
-/
structure ClosesQuietly (s v t : State) : Prop where
  insts : ∀ (c : AxisCond) (a : Axis), c ≠ .repeatDev → t.mon.insts[condOn c a] =
    ((allAxes.flatMap s.axisEvaluations).filter fun e => e.id = condOn c a).foldl
      (evaluatedInst s.mon.settings[condOn c a] s.stampNow) s.mon.insts[condOn c a]
  blank : ∀ a : Axis, t.mon.blank[a] = if (s.link.batch[a]).isSome then s.mon.blank[a] - 1 else s.mon.blank[a]
  ctrl : t.ctrl = v.countInPosition.ctrl
  link : t.link = s.link
  detached : ∀ a : Axis, t.mon.detached[a] ≠ [] → v.mon.detached[a] ≠ []

theorem Records.closesQuietly {v : State} (hbatch : Records (allAxes.flatMap s.axisEvaluations) s.fallBlanking v)
    (hno : ∀ j : CondId, j.val < 96 → inForce s.mon.settings[j] = none) : ClosesQuietly s v v.countInPosition.logCrossing := by
  obtain ⟨n, hcount⟩ := countInPosition_eq v
  have hmon : v.countInPosition.mon = v.mon := by rw [hcount]
  have hlink : v.countInPosition.link = v.link := by rw [hcount]
  obtain ⟨blank, hfall, hblank⟩ := fallBlanking_eq s
  rw [hfall] at hbatch
  have hlog := logCrossing_logsOnly (s := v.countInPosition) (by rw [hmon, hbatch.settings]; exact hno)
  generalize v.countInPosition.logCrossing = t at hlog ⊢
  refine ⟨fun c a hc => ?_, fun a => ?_, hlog.ctrl, ?_, fun a => ?_⟩
  · rw [hlog.insts c a hc, hmon, hbatch.insts, evaluateAll_inst]
    rfl
  · rw [hlog.blank, hmon, hbatch.blank]
    exact hblank a
  · rw [hlog.link, hlink, hbatch.link]
  · rw [← hmon]
    exact hlog.detached a

/-! ### The in-position count -/

theorem countInPosition_elsewhere (hp : s.ctrl.state ≠ .preroll) (hr : s.ctrl.state ≠ .returning) : s.countInPosition = s := by
  unfold State.countInPosition
  rw [if_neg]
  simp only [Bool.or_eq_true, decide_eq_true_eq, not_or]
  exact ⟨hp, hr⟩

theorem countInPosition_counts (h : s.ctrl.state = .preroll ∨ s.ctrl.state = .returning) :
    s.countInPosition.ctrl.inPos =
      if s.configuredAxes.all s.inPosition && !(allAxes.any s.isDetached) then min 10 (s.ctrl.inPos + 1) else 0 := by
  unfold State.countInPosition
  rw [if_pos]
  · rfl
  · simpa only [Bool.or_eq_true, decide_eq_true_eq] using h

/-- R72: an axis of the period in position. -/
theorem inPosition_iff {x : BatchItem} (h : s.link.batch[a] = some x) : s.inPosition a = true ↔
    (s.gen.recs[a]).mode = .target ∧ (s.gen.recs[a]).target = some (s.gen.recs[a]).x ∧ (s.gen.recs[a]).v = 0 ∧ x.stale = false ∧
      (x.measured - (s.gen.recs[a]).x).natAbs ≤ (s.axes.recs[a]).window := by
  simp only [State.inPosition, h, hasArrived, Bool.and_eq_true, decide_eq_true_eq, Bool.not_eq_true']
  constructor
  · rintro ⟨⟨⟨⟨hm, ht⟩, hv⟩, hs⟩, hw⟩
    rw [ht] at hw
    exact ⟨hm, ht, hv, hs, hw⟩
  · rintro ⟨hm, ht, hv, hs, hw⟩
    refine ⟨⟨⟨⟨hm, ht⟩, hv⟩, hs⟩, ?_⟩
    rw [ht]
    exact hw

end Sys2Proof.Machine
end

/-! SLOT_END (R72, R84, R107, R108, R111 to R114, R117, R121, R123, R131): O32. -/
section
namespace Sys2Proof.Machine

variable {s t u v : State} {p : LinkPeriod} {a : Axis}

/-! ### The state of the link close -/

/-- From s to u the period p has closed on the axis link. -/
structure ClosesLink (s : State) (p : LinkPeriod) (u : State) : Prop where
  mon : u.mon = s.mon
  stamp : u.stampNow = s.stampNow
  ctrl : u.ctrl = s.ctrl
  gen : u.gen = s.gen
  axes : u.axes = s.axes
  wheels : u.wheels = s.wheels
  clock : u.clock = s.clock
  period : u.link.period = none
  prev : u.link.prevBatch = s.link.batch
  snapQueue : u.link.snapQueue = s.link.queue.length
  recs : ∀ a : Axis, u.link.recs[a] = State.closeRec p (s.configured a) a s.link.recs[a]
  due : ∀ a : Axis, u.link.due[a] = (s.link.due[a] || State.timesOut (State.closeRec p (s.configured a) a s.link.recs[a]))
  snap : ∀ a : Axis, u.link.snap[a] = State.snapOf (s.configured a) (State.closeRec p (s.configured a) a s.link.recs[a])
  item : ∀ a : Axis, p.axes.contains a = true → s.configured a = true → u.link.batch[a] = some (s.closedItem p a)
  noItem : ∀ a : Axis, s.configured a = false ∨ p.axes.contains a = false → u.link.batch[a] = none

theorem closeLink_closes (s : State) (p : LinkPeriod) : ClosesLink s p (s.closeLink p) := by
  obtain ⟨link, h, hperiod, hprev, hqueue⟩ := closeLink_eq s p
  have hrecs := closeLink_recs s p
  have hdue := closeLink_due s p
  have hsnap := closeLink_snap s p
  have hitem := fun a => closeLink_batch_some (s := s) (p := p) (a := a)
  have hnone := fun a => closeLink_batch_none (s := s) (p := p) (a := a)
  rw [h] at hrecs hdue hsnap hitem hnone ⊢
  exact ⟨rfl, rfl, rfl, rfl, rfl, rfl, rfl, hperiod, hprev, hqueue, hrecs, hdue, hsnap, hitem, hnone⟩

/-! ### What the close leaves of the link, whatever action it takes -/

theorem ClosesLink.outcome (h : ClosesLink s p u) (hl : LinkStands u t) (hdue : s.link.due[a] = false) :
    (s.configured a = true → p.axes.contains a = true → p.good.contains a = false →
        (t.link.recs[a]).stale = true ∧ (t.link.recs[a]).misses = min 255 ((s.link.recs[a]).misses + 1)) ∧
      (p.good.contains a = true →
        (t.link.recs[a]).stale = (s.link.recs[a]).stale ∧ (t.link.recs[a]).misses = (s.link.recs[a]).misses) ∧
      (t.link.recs[a]).measured = (s.link.recs[a]).measured ∧
      t.link.due[a] = (decide (s.driveOf a = .enabling) && decide (99 ≤ (s.link.recs[a]).enableCount)) ∧
      t.link.snap[a] =
        { configured := s.configured a, stale := (t.link.recs[a]).stale, misses := (t.link.recs[a]).misses
          measured := (t.link.recs[a]).measured, flags := (t.link.recs[a]).flags } := by
  obtain ⟨hstale, hmisses, hmeasured, hflags⟩ := hl.feedback a
  rw [hl.due, hl.snap, hstale, hmisses, hmeasured, hflags, h.recs, h.due, h.snap, hdue, timesOut_closeRec]
  refine ⟨fun hc hp hg => ?_, fun hg => closeRec_good hg _ _, (closeRec_feedback p _ a _).1, rfl, rfl⟩
  rw [hc]
  exact closeRec_missed hp hg _

/-! ### The evaluations of an axis -/

/-- R131: an instance of an axis after an evaluation at the close. -/
def State.evaluatedAt (s : State) (a : Axis) (c : AxisCond) (truth : Bool) (value : Option Nat) (cause : Option Cause) : CondInst :=
  evaluatedInst s.mon.settings[condOn c a] s.stampNow s.mon.insts[condOn c a] { id := condOn c a, truth, value, cause, force := false }

/-- R131: the instance of a condition after the close, by the evaluations that the batch brings it. -/
theorem ClosesQuietly.inst (hq : ClosesQuietly u v t) (h : ClosesLink s p u) (hp : p.axes.contains a = true)
    (hc : s.configured a = true) {c : AxisCond} (hne : c ≠ .repeatDev) :
    t.mon.insts[condOn c a] =
      (u.evaluationsOf a (s.closedItem p a) c).foldl (evaluatedInst s.mon.settings[condOn c a] s.stampNow) s.mon.insts[condOn c a] := by
  rw [hq.insts c a hne, filter_batchEvaluations (h.item a hp hc) hne, h.mon, h.stamp]

/-- The close's evaluations of an axis of its period, condition by condition. -/
structure EvaluatesAxis (s t : State) (p : LinkPeriod) (a : Axis) : Prop where
  follow : t.mon.insts[condOn .follow a] =
    if s.driveOf a = .on ∧ p.good.contains a = true ∧ s.mon.blank[a] = 0 then
      s.evaluatedAt a .follow
        (decide ((s.mon.settings[condOn .follow a]).threshold < ((s.link.recs[a]).lastSent - (s.link.recs[a]).measured).natAbs))
        (some ((s.link.recs[a]).lastSent - (s.link.recs[a]).measured).natAbs) none
    else s.mon.insts[condOn .follow a]
  overspeed : ∀ prev, s.link.batch[a] = some prev → p.good.contains a = true → prev.stale = false →
    t.mon.insts[condOn .overspeed a] =
      s.evaluatedAt a .overspeed
        (decide ((s.mon.settings[condOn .overspeed a]).threshold * s.clock.period <
          ((s.link.recs[a]).measured - prev.measured).natAbs * 1000000))
        (some (((s.link.recs[a]).measured - prev.measured).natAbs * 1000000 / s.clock.period)) none
  uncompared : (p.good.contains a = false ∨ s.link.batch[a] = none ∨ ∃ prev, s.link.batch[a] = some prev ∧ prev.stale = true) →
    t.mon.insts[condOn .overspeed a] = s.mon.insts[condOn .overspeed a]
  limit : t.mon.insts[condOn .limitSw a] =
    s.evaluatedAt a .limitSw (((s.link.recs[a]).flags).limitPos || ((s.link.recs[a]).flags).limitNeg) none
      (limitEvidence a (s.link.recs[a]).flags).cause
  driveFault : t.link.due[a] = false → t.mon.insts[condOn .driveFault a] =
    s.evaluatedAt a .driveFault ((s.link.recs[a]).flags).fault none (some .status)
  link : t.mon.insts[condOn .link a] =
    s.evaluatedAt a .link (decide ((s.mon.settings[condOn .link a]).threshold ≤ (t.link.recs[a]).misses))
      (some (t.link.recs[a]).misses) none

theorem ClosesQuietly.evaluatesAxis (hq : ClosesQuietly u v t) (h : ClosesLink s p u) (hp : p.axes.contains a = true)
    (hc : s.configured a = true) : EvaluatesAxis s t p a := by
  have hinst := fun (c : AxisCond) => hq.inst h hp hc (c := c)
  refine ⟨?_, fun prev hprev hgood hfresh => ?_, fun hno => ?_, hinst .limitSw (by decide), fun hdue => ?_, ?_⟩
  · rw [hinst .follow (by decide), State.evaluationsOf, State.followAt, h.mon]
    have hiff : (decide ((s.closedItem p a).drive = .on) && !(s.closedItem p a).stale && decide (s.mon.blank[a] = 0)) = true ↔
        s.driveOf a = .on ∧ p.good.contains a = true ∧ s.mon.blank[a] = 0 := by
      simp only [State.closedItem, Bool.and_eq_true, decide_eq_true_eq, Bool.not_not, and_assoc]
      exact and_congr decide_eq_true_iff Iff.rfl
    rw [if_congr hiff rfl rfl]
    split <;> rfl
  · have hcompared : ((s.closedItem p a).stale || prev.stale) = false := by
      rw [hfresh, Bool.or_false]
      exact (congrArg not hgood :)
    rw [hinst .overspeed (by decide), State.evaluationsOf, State.overspeedAt, h.prev, h.mon, h.clock]
    simp only [hprev, hcompared, Bool.false_eq_true, if_false]
    rfl
  · rw [hinst .overspeed (by decide), State.evaluationsOf, State.overspeedAt, h.prev]
    obtain hno | hno | ⟨prev, hno, hstale⟩ := hno
    · have hmissed : (s.closedItem p a).stale = true := (congrArg not hno :)
      cases s.link.batch[a] with
      | none => rfl
      | some prev => simp only [hmissed, Bool.true_or, if_true, List.foldl_nil]
    · rw [hno]
      rfl
    · rw [hno]
      simp only [hstale, Bool.or_true, if_true, List.foldl_nil]
  · rw [hq.link] at hdue
    rw [hinst .driveFault (by decide), State.evaluationsOf, State.driveFaultAt, hdue]
    rfl
  · rw [hinst .link (by decide), State.evaluationsOf, h.mon, hq.link]
    rfl

/-- R131: an axis with no item in the batch is not evaluated. -/
theorem ClosesQuietly.unevaluated (hq : ClosesQuietly u v t) (h : ClosesLink s p u)
    (hno : s.configured a = false ∨ p.axes.contains a = false) :
    t.mon.blank[a] = s.mon.blank[a] ∧ ∀ c : AxisCond, c ≠ .repeatDev → t.mon.insts[condOn c a] = s.mon.insts[condOn c a] := by
  have hnone := h.noItem a hno
  refine ⟨?_, fun c hc => ?_⟩
  · rw [hq.blank, hnone, h.mon]
    rfl
  · rw [hq.insts c a hc, filter_batchEvaluations_none hnone, h.mon]
    rfl

theorem limitEvidence_cause (f : DriveFlags) : ∃ cause, (limitEvidence a f).cause = some cause ∧
    (f.limitPos = true → f.limitNeg = true → cause = .both) ∧ (f.limitPos = true → f.limitNeg = false → cause = .pos) ∧
      (f.limitPos = false → f.limitNeg = true → cause = .neg) :=
  ⟨_, rfl, fun h1 h2 => by rw [h1, h2]; rfl, fun h1 h2 => by rw [h1, h2]; rfl, fun h1 h2 => by rw [h1, h2]; rfl⟩

/-! ### The in-position count after the monitors -/

section
variable {es : List Evidence} (h : ClosesLink s p u) (hr : Records es u.fallBlanking v)
include h hr

theorem ClosesLink.monitored : v.ctrl = s.ctrl ∧ v.link = u.link ∧ v.axes = s.axes ∧
    ∀ a : Axis, s.mon.detached[a] = [] → v.mon.detached[a] = [] ∧ v.gen.recs[a] = s.gen.recs[a] := by
  obtain ⟨blank, hfall, -⟩ := fallBlanking_eq u
  rw [hfall] at hr
  refine ⟨hr.ctrl.trans h.ctrl, hr.link, hr.axes.trans h.axes, fun a hd => ?_⟩
  obtain ⟨h1, h2⟩ := hr.attached a (by rw [← h.mon] at hd; exact hd)
  exact ⟨h1, h2.trans (by rw [← h.gen])⟩

/-- R72: whether an axis is in position after the monitors, by its records before the close. -/
theorem ClosesLink.inPosition (hd : s.mon.detached[a] = []) (hp : p.axes.contains a = true) (hc : s.configured a = true) :
    v.inPosition a = true ↔ (s.gen.recs[a]).mode = .target ∧ (s.gen.recs[a]).target = some (s.gen.recs[a]).x ∧
      (s.gen.recs[a]).v = 0 ∧ p.good.contains a = true ∧
      ((s.link.recs[a]).measured - (s.gen.recs[a]).x).natAbs ≤ (s.axes.recs[a]).window := by
  obtain ⟨-, hlink, haxes, hkeep⟩ := h.monitored hr
  have hitem : v.link.batch[a] = some (s.closedItem p a) := by rw [hlink, h.item a hp hc]
  rw [inPosition_iff hitem, (hkeep a hd).2, haxes]
  simp only [State.closedItem, Bool.not_eq_false']

theorem ClosesLink.counts (hst : s.ctrl.state = .preroll ∨ s.ctrl.state = .returning) :
    v.countInPosition.ctrl.inPos =
      if s.configuredAxes.all v.inPosition && !(allAxes.any v.isDetached) then min 10 (s.ctrl.inPos + 1) else 0 := by
  obtain ⟨hctrl, -, haxes, -⟩ := h.monitored hr
  have hconf : v.configuredAxes = s.configuredAxes :=
    List.filter_congr fun a _ => by simp only [State.configured, haxes]
  rw [countInPosition_counts (by rw [hctrl]; exact hst), hctrl, hconf]

/-- R72: with every axis attached and in position the count goes up. -/
theorem ClosesLink.counts_up (hst : s.ctrl.state = .preroll ∨ s.ctrl.state = .returning) (hd : ∀ a : Axis, s.mon.detached[a] = [])
    (hin : ∀ a : Axis, s.configured a = true → v.inPosition a = true) :
    v.countInPosition.ctrl.inPos = min 10 (s.ctrl.inPos + 1) := by
  obtain ⟨-, -, -, hkeep⟩ := h.monitored hr
  rw [h.counts hr hst, if_pos]
  rw [Bool.and_eq_true, List.all_eq_true, Bool.not_eq_true', List.any_eq_false]
  exact ⟨fun a ha => hin a (mem_configuredAxes.mp ha), fun a _ => by rw [isDetached_false (hkeep a (hd a)).1]; decide⟩

/-- R72: with one axis out of position the count is 0. -/
theorem ClosesLink.counts_out (hst : s.ctrl.state = .preroll ∨ s.ctrl.state = .returning) (hc : s.configured a = true)
    (hout : ¬v.inPosition a = true) : v.countInPosition.ctrl.inPos = 0 := by
  rw [h.counts hr hst, if_neg]
  rw [Bool.and_eq_true, List.all_eq_true]
  exact fun hall => hout (hall.1 a (mem_configuredAxes.mpr hc))

/-- R72: with one axis detached the count is 0. -/
theorem ClosesLink.counts_detached (hst : s.ctrl.state = .preroll ∨ s.ctrl.state = .returning) (hd : v.mon.detached[a] ≠ []) :
    v.countInPosition.ctrl.inPos = 0 := by
  rw [h.counts hr hst, if_neg]
  rw [Bool.and_eq_true, Bool.not_eq_true', List.any_eq_false]
  exact fun hall => hall.2 a (mem_allAxes a) (isDetached_iff.mpr hd)

end

/-! ### The obligation -/

/-- R113, R114, R117, R123: the close of a period, whatever its evaluations bring about. -/
theorem closeBatch_outcomes (hq : Quiet s) : (s.closeBatch p).link.period = none ∧ (s.closeBatch p).axes = s.axes ∧
    (s.closeBatch p).wheels = s.wheels ∧ (s.closeBatch p).link.snapQueue = s.link.queue.length ∧
    ∀ a : Axis,
      (s.configured a = true → p.axes.contains a = true → p.good.contains a = false →
        ((s.closeBatch p).link.recs[a]).stale = true ∧
          ((s.closeBatch p).link.recs[a]).misses = min 255 ((s.link.recs[a]).misses + 1)) ∧
      (p.good.contains a = true →
        ((s.closeBatch p).link.recs[a]).stale = (s.link.recs[a]).stale ∧
          ((s.closeBatch p).link.recs[a]).misses = (s.link.recs[a]).misses) ∧
      ((s.closeBatch p).link.recs[a]).measured = (s.link.recs[a]).measured ∧
      (s.closeBatch p).link.due[a] = (decide (s.driveOf a = .enabling) && decide (99 ≤ (s.link.recs[a]).enableCount)) ∧
      (s.closeBatch p).link.snap[a] =
        { configured := s.configured a, stale := ((s.closeBatch p).link.recs[a]).stale
          misses := ((s.closeBatch p).link.recs[a]).misses, measured := ((s.closeBatch p).link.recs[a]).measured
          flags := ((s.closeBatch p).link.recs[a]).flags } := by
  have h := closeLink_closes s p
  have hl := closeBatch_linkStands s p
  generalize s.closeLink p = u at h hl
  generalize s.closeBatch p = t at hl ⊢
  obtain ⟨haxes, hwheels, -⟩ := fittings_eq hl.fittings
  exact ⟨hl.period h.period, haxes.trans h.axes, hwheels.trans h.wheels, hl.snapQueue.trans h.snapQueue,
    fun a => h.outcome hl (hq.enables a)⟩

/-- The close of a period with no action in force, by the link close u and the state v after the monitors. -/
theorem closeBatch_closesQuietly (hno : ∀ j : CondId, j.val < 96 → inForce s.mon.settings[j] = none) (p : LinkPeriod) :
    ∃ u v, ClosesLink s p u ∧ Records (allAxes.flatMap u.axisEvaluations) u.fallBlanking v ∧
      ClosesQuietly u v (s.closeBatch p) := by
  have h := closeLink_closes s p
  have hu : ∀ j : CondId, j.val < 96 → inForce (s.closeLink p).mon.settings[j] = none := by
    rw [h.mon]
    exact hno
  have hr := monitorBatch_records hu
  exact ⟨_, _, h, hr, hr.closesQuietly hu⟩

/-- Settles O32: the end of a slot by the claim that waits, and the close by what the batch evaluates. -/
theorem slotEndGrantsTheNextClaim : Obligations.SlotEndGrantsTheNextClaim := by
  unfold Obligations.SlotEndGrantsTheNextClaim
  refine fun s hq => ⟨slotEnd_idle hq, fun p hp => ?_⟩
  have hexec := slotEnd_eq hq hp
  refine ⟨?_, ?_, ?_, ?_, ?_, ?_, ?_, ?_⟩
  · intro a rest hc hl hf hconf
    have hgrant : nextGrant { p with left := p.left - 1 } s.link.queue = .first a := nextGrant_first (as := rest) hf _
    rw [hexec, endSlot_unused hc hl, grantSlot_setpoint (.inl hgrant) hconf, hgrant]
    refine ⟨_, rfl, ?_, congrArg LinkRec.lastSent (put_get_same ..), rfl, rfl⟩
    simp only [grantIn, hf, List.tail_cons]
  · intro a hc hl hf hr hqueue hconf
    have hgrant : nextGrant { p with left := p.left - 1, retries := p.retries ++ [a], current := .unused } s.link.queue = .retry a := by
      rw [hqueue]
      exact nextGrant_retry (as := []) hf (by rw [hr]; rfl)
    rw [hexec, endSlot_attempt hc hl, grantSlot_setpoint (.inr hgrant) hconf, hgrant]
    refine ⟨_, rfl, ?_, rfl, rfl⟩
    simp only [grantIn, hr, List.nil_append, List.tail_cons]
  · intro x rest hc hl hf hd hqueue hage hfly hax
    have hmay : mayClaim { p with left := p.left - 1 } x = true := mayClaim_waiting hfly hax
    have hgrant : nextGrant { p with left := p.left - 1 } s.link.queue = .aged := by
      rw [hqueue]
      exact nextGrant_aged hf hd hage hmay
    rw [hexec, endSlot_unused hc hl, grantSlot_acyclic (new := []) (.inl hgrant) hqueue (by simp) hmay, hgrant]
    exact ⟨_, rfl, rfl, rfl, rfl, rfl⟩
  · intro new x rest hc hl hf hr hqueue hnew hy hfly hax
    have hmay : mayClaim { p with left := p.left - 1 } x = true := mayClaim_waiting hfly hax
    have hno : ∀ y ∈ new, mayClaim { p with left := p.left - 1 } y = false := fun y hmem => mayClaim_new (hnew y hmem)
    have hgrant : nextGrant { p with left := p.left - 1 } s.link.queue = .further := by
      rw [hqueue]
      exact nextGrant_further hf hr hno hy hmay
    rw [hexec, endSlot_unused hc hl, grantSlot_acyclic (.inr hgrant) hqueue hno hmay, hgrant]
    exact ⟨_, rfl, rfl, rfl, rfl, rfl⟩
  · intro hc hl hf hr hnew
    have hgrant : nextGrant { p with left := p.left - 1 } s.link.queue = .nothing :=
      nextGrant_nothing hf hr fun y hmem => mayClaim_new (hnew y hmem)
    rw [hexec, endSlot_unused hc hl, grantSlot_nothing hgrant]
    rfl
  · intro x hc hl hf hr hqueue hfly
    have hend := endSlot_acyclic (s := s) hc hl (by rw [hqueue]; exact flyingOf_single hfly)
    refine ⟨fun hfails hax => ?_, fun hfails => ?_⟩
    · have hmay : mayClaim { p with left := p.left - 1, current := .unused } { x with flying := false, fails := x.fails + 1 } = true :=
        mayClaim_waiting rfl hax
      rw [hexec, hend, failAttempt_again hqueue hfly hfails,
        grantSlot_single (p := { p with left := p.left - 1, current := .unused }) rfl hf hr hmay]
      exact ⟨_, rfl, rfl, congrArg (fun fl => [{ x with fails := x.fails + 1, flying := fl }]) hfly.symm, rfl⟩
    · rw [hexec, hend, failAttempt_last hqueue hfly hfails, grantSlot_nothing]
      · rfl
      · exact nextGrant_nothing hf hr (by simp)
  · intro hc hl
    rw [hexec, endSlot_last hc hl]
    exact ⟨_, rfl, closeBatch_outcomes hq⟩
  · intro hc hl hno
    rw [hexec, endSlot_last hc hl]
    obtain ⟨u, v, h, hr, hquiet⟩ := closeBatch_closesQuietly hno p
    obtain ⟨hctrl, -, -, -⟩ := h.monitored hr
    generalize s.closeBatch p = t at hquiet ⊢
    refine ⟨t, rfl, fun a eval heval => ⟨fun hconf hax => ?_, hquiet.unevaluated h⟩, ?_, fun h1 h2 => ?_,
      fun hst hd hall => ⟨fun hin => ?_, fun a hconf hout => ?_⟩, fun hst ⟨a, ha⟩ => ?_⟩
    · have heval' (c : AxisCond) (truth : Bool) (value : Option Nat) (cause : Option Cause) :
          eval c truth value cause = s.evaluatedAt a c truth value cause := heval c truth value cause
      have he := hquiet.evaluatesAxis h hax hconf
      refine ⟨?_, fun err herr => ?_, fun prev moved hprev hgood hfresh hmoved => ?_, he.uncompared, fun pos neg hpos hneg => ?_,
        fun hdue => ?_, ?_⟩
      · rw [hquiet.blank, h.item a hax hconf, h.mon]
        rfl
      · rw [herr, heval', he.follow]
      · rw [hmoved, heval', he.overspeed prev hprev hgood hfresh]
      · obtain ⟨cause, hcause, h1, h2, h3⟩ := limitEvidence_cause (a := a) (s.link.recs[a]).flags
        refine ⟨cause, ?_, ?_, ?_, ?_⟩ <;> rw [hpos, hneg]
        · rw [heval', he.limit, hcause]
        · exact h1
        · exact h2
        · exact h3
      · rw [heval', he.driveFault hdue]
      · rw [heval', he.link]
    · obtain ⟨n, hcount⟩ := countInPosition_eq v
      rw [hquiet.ctrl, hcount, hctrl]
    · rw [hquiet.ctrl, countInPosition_elsewhere (by rw [hctrl]; exact h1) (by rw [hctrl]; exact h2), hctrl]
    · rw [hquiet.ctrl]
      refine h.counts_up hr hst hd fun a hconf => (h.inPosition hr (hd a) (hall a hconf) hconf).mpr (hin a hconf)
    · rw [hquiet.ctrl]
      refine h.counts_out hr hst hconf fun hin => ?_
      obtain ⟨h1, h2, h3, h4, h5⟩ := (h.inPosition hr (hd a) (hall a hconf) hconf).mp hin
      obtain ho | ho | ho | ho | ho := hout
      · exact ho h1
      · exact ho h2
      · exact ho h3
      · exact Bool.false_ne_true (ho.symm.trans h4)
      · exact absurd h5 (Nat.not_le.mpr ho)
    · rw [hquiet.ctrl]
      exact h.counts_detached hr hst (hquiet.detached a ha)

end Sys2Proof.Machine
end

/-! SUPPORT. What a record adds to its pass (R147, R150, R151, R153). -/
section
namespace Sys2Proof.Machine

variable {l : PassLog} {i : PassSlot} {p : PassRec} {r : FrameRec} {a : Axis}

theorem tabulate_self {α : Type} {n : Nat} (v : Vector α n) : (tabulate fun i : Fin n => v[i]) = v :=
  Vector.ext fun j hj => tabulate_get (fun i : Fin n => v[i]) ⟨j, hj⟩

/-! ### A record and the held reference -/

theorem restrictRecord_sample (axes : Vector Bool 16) (r : FrameRec) (a : Axis) :
    (restrictRecord axes r).samples[a] = if axes[a] then r.samples[a] else none := tabulate_get _ a

theorem restrictRecord_sample_of {axes : Vector Bool 16} (h : axes[a] = true) : (restrictRecord axes r).samples[a] = r.samples[a] := by
  rw [restrictRecord_sample, h, if_pos rfl]

/-- R153: with no reference held there is no deviation. -/
theorem deviations_unheld (h : l.heldSlot = none) (r : FrameRec) (a : Axis) : (deviations l r)[a] = none := by
  simp only [deviations, referenceRecord, h]
  exact fill_getElem ..

/-- R153: a record is compared with the record of its pass frame in the held reference. -/
theorem deviations_held {h : PassSlot} {ref : PassRec} {old : FrameRec} (hh : l.heldSlot = some h) (href : l.slots[h] = some ref)
    (hold : ref.records[r.passFrame]? = some old) (a : Axis) : (deviations l r)[a] = deviation r old a := by
  simp only [deviations, referenceRecord, hh, href, hold, tabulate_get]

theorem deviation_stale {old : FrameRec} {x y : AxisSample} (hx : r.samples[a] = some x) (hy : old.samples[a] = some y)
    (h : x.stale = true ∨ y.stale = true) : deviation r old a = none := by
  simp only [deviation, hx, hy, Bool.or_eq_true, if_pos h]

theorem deviation_fresh {old : FrameRec} {x y : AxisSample} (hx : r.samples[a] = some x) (hy : old.samples[a] = some y)
    (h1 : x.stale = false) (h2 : y.stale = false) : deviation r old a = some (x.measured - y.measured) := by
  simp only [deviation, hx, hy, h1, h2, Bool.or_self, Bool.false_eq_true, if_false]

/-- R153: a summary after a compared frame. -/
theorem updateSummary_some (n : Nat) (x : Summary) (d : Int) :
    updateSummary n x (some d) =
      { maxDev := max x.maxDev d.natAbs, atFrame := if x.maxDev < d.natAbs then some n else x.atFrame, compared := x.compared + 1 } := by
  unfold updateSummary
  simp only
  split
  · next h => rw [Nat.max_eq_right h.le]
  · next h => rw [Nat.max_eq_left (Nat.not_lt.mp h)]

/-! ### The pass with its record -/

theorem appendRecord_full (h : maxFrameRecords ≤ p.records.length) (r : FrameRec) (devs : Vector (Option Int) 16) :
    appendRecord p r devs = { p with header := { p.header with truncated := true } } := if_pos h

theorem appendRecord_room (h : p.records.length < maxFrameRecords) (r : FrameRec) (devs : Vector (Option Int) 16) :
    appendRecord p r devs =
      { header := { p.header with summary := tabulate fun a => updateSummary r.passFrame p.header.summary[a] devs[a] }
        records := p.records ++ [r] } := if_neg (Nat.not_le.mpr h)

/-- The pass in a slot with a record written. -/
def PassLog.withRecord (l : PassLog) (p : PassRec) (r : FrameRec) : PassRec :=
  appendRecord p (restrictRecord p.header.axes r) (deviations l (restrictRecord p.header.axes r))

theorem withRecord_summary (h : p.records.length < maxFrameRecords) (r : FrameRec) (a : Axis) :
    (l.withRecord p r).header.summary[a] =
      updateSummary r.passFrame p.header.summary[a] (deviations l (restrictRecord p.header.axes r))[a] := by
  rw [PassLog.withRecord, appendRecord_room h]
  exact tabulate_get _ a

theorem withRecord_summary_unheld (h : p.records.length < maxFrameRecords) (hh : l.heldSlot = none) (r : FrameRec) :
    (l.withRecord p r).header.summary = p.header.summary := by
  have hnone : (fun a : Axis => updateSummary (restrictRecord p.header.axes r).passFrame p.header.summary[a]
      (deviations l (restrictRecord p.header.axes r))[a]) = fun a : Axis => p.header.summary[a] := by
    funext a
    rw [deviations_unheld hh]
    rfl
  rw [PassLog.withRecord, appendRecord_room h, hnone]
  exact tabulate_self _

/-- A record adds itself, restricted to the pass's axes, and touches nothing of the header but the summaries. -/
theorem withRecord_room (h : p.records.length < maxFrameRecords) (r : FrameRec) :
    (l.withRecord p r).records = p.records ++ [restrictRecord p.header.axes r] ∧
      { (l.withRecord p r).header with summary := p.header.summary } = p.header := by
  rw [PassLog.withRecord, appendRecord_room h]
  exact ⟨rfl, rfl⟩

section
variable (hr : l.recording = some i) (hp : l.slots[i] = some p)
include hr hp

theorem writeRecord_eq (r : FrameRec) : writeRecord l r = { l with slots := put l.slots i (some (l.withRecord p r)) } := by
  simp only [writeRecord, recordedPass_eq_some.mpr ⟨hr, hp⟩]
  rfl

theorem writeRecord_slot (r : FrameRec) : (writeRecord l r).slots[i] = some (l.withRecord p r) := by
  rw [writeRecord_eq hr hp]
  exact put_get_same ..

theorem repeatEvaluations_full (h : maxFrameRecords ≤ p.records.length) (mon : Mon) (r : FrameRec) :
    repeatEvaluations l mon r = [] := by
  simp only [repeatEvaluations, recordedPass_eq_some.mpr ⟨hr, hp⟩, if_pos h]

/-- R133, R153: each deviation is evaluated, and nothing else. -/
theorem mem_repeatEvaluations_iff (h : p.records.length < maxFrameRecords) {mon : Mon} {e : Evidence} :
    e ∈ repeatEvaluations l mon r ↔ ∃ (a : Axis) (d : Int), (deviations l (restrictRecord p.header.axes r))[a] = some d ∧
      e = repeatEvidence a (mon.settings[condOn .repeatDev a]).threshold d.natAbs := by
  simp only [repeatEvaluations, recordedPass_eq_some.mpr ⟨hr, hp⟩, if_neg (Nat.not_le.mpr h), List.mem_filterMap,
    Option.map_eq_some_iff]
  exact ⟨fun ⟨a, _, d, hd, he⟩ => ⟨a, d, hd, he.symm⟩, fun ⟨a, d, hd, he⟩ => ⟨a, mem_allAxes a, d, hd, he.symm⟩⟩

end

end Sys2Proof.Machine
end

/-! SUPPORT. The log as a pass opens (R148, R149, R154): a pass held open is settled, a slot chosen, the comparison settled. -/
section
namespace Sys2Proof.Machine

variable {s : State} {l l' : PassLog} {i j r : PassSlot} {p q : PassRec} {kind : PassKind} {sig : BitVec 32} {axes : Vector Bool 16}

/-! ### A pass held open for its last record -/

/-- From l to l' a pass may have been closed: every slot keeps its records, its number and its signature. -/
structure SettlesLog (l l' : PassLog) : Prop where
  age : l'.age = l.age
  reference : l'.reference = l.reference
  counter : l'.counter = l.counter
  empty : ∀ j : PassSlot, l'.slots[j] = none ↔ l.slots[j] = none
  kept : ∀ (j : PassSlot) (q : PassRec), l.slots[j] = some q → ∃ q', l'.slots[j] = some q' ∧ q'.records = q.records ∧
    q'.header.signature = q.header.signature ∧ q'.header.number = q.header.number

theorem SettlesLog.refl (l : PassLog) : SettlesLog l l := ⟨rfl, rfl, rfl, fun _ => Iff.rfl, fun _ q h => ⟨q, h, rfl, rfl, rfl⟩⟩

theorem finalizePass_settlesLog (s : State) (o : PassOutcome) : SettlesLog s.log (s.finalizePass o).log := by
  unfold State.finalizePass
  cases hr : recordedPass s.log with
  | none => exact ⟨rfl, rfl, rfl, fun _ => Iff.rfl, fun _ q h => ⟨q, h, rfl, rfl, rfl⟩⟩
  | some ip =>
    obtain ⟨i, p⟩ := ip
    obtain ⟨-, hslot⟩ := recordedPass_eq_some.mp hr
    have hput (j : PassSlot) : (put s.log.slots i (some (closedPass p o)))[j] = if i = j then some (closedPass p o) else s.log.slots[j] :=
      put_get ..
    refine ⟨rfl, rfl, rfl, fun j => (hput j).congr_left.trans ?_, fun j q hq => ?_⟩
    · split
      · next h => rw [← h, hslot]; exact ⟨fun h => (nomatch h), fun h => (nomatch h)⟩
      · exact Iff.rfl
    · by_cases h : i = j
      · subst h
        cases hslot.symm.trans hq
        exact ⟨closedPass p o, (hput i).trans (if_pos rfl), rfl, rfl, rfl⟩
      · exact ⟨q, ((hput j).trans (if_neg h)).trans hq, rfl, rfl, rfl⟩

theorem finishClosing_settlesLog (s : State) : SettlesLog s.log s.finishClosing.log := by
  unfold State.finishClosing
  split
  · exact finalizePass_settlesLog s _
  · exact .refl _

/-! ### The slot -/

/-- R149: the first empty slot is taken. -/
theorem chooseSlot_empty (hj : l.slots[j] = none) (hk : ∀ k : PassSlot, k < j → l.slots[k] ≠ none) : chooseSlot l = j := by
  have hfind : firstEmpty l = some j := by
    have hsorted : allPassSlots.Pairwise (· < ·) := by decide
    obtain ⟨before, after, hsplit⟩ := List.append_of_mem (mem_allPassSlots j)
    rw [hsplit, List.pairwise_append] at hsorted
    rw [firstEmpty, hsplit, List.find?_append, List.find?_eq_none.mpr, List.find?_cons, hj]
    · rfl
    · intro k hmem
      have := hk k (hsorted.2.2 k hmem j List.mem_cons_self)
      simpa using this
  rw [chooseSlot, hfind]

theorem firstEmpty_none (h : ∀ k : PassSlot, l.slots[k] ≠ none) : firstEmpty l = none := by
  rw [firstEmpty, List.find?_eq_none]
  intro k _
  simpa using h k

/-- R149: with no slot empty the oldest that is not the reference is taken. -/
theorem chooseSlot_oldest {older rest : List PassSlot} (hfull : ∀ k : PassSlot, l.slots[k] ≠ none) (hage : l.age = older ++ j :: rest)
    (holder : ∀ k ∈ older, l.reference = some k) (hj : l.reference ≠ some j) : chooseSlot l = j := by
  have hold : older.find? (fun i => !(l.reference = some i)) = none := by
    rw [List.find?_eq_none]
    intro k hk
    simp [holder k hk]
  simp only [chooseSlot, firstEmpty_none hfull, hage, List.find?_append, hold, List.find?_cons, decide_eq_false hj, Bool.not_false,
    Option.none_or, Option.getD_some]

/-- R149: a reference that holds a pass is not taken. -/
theorem chooseSlot_ne_reference (hage : l.age.length = 4 ∧ l.age.Nodup) (hr : l.reference = some r)
    (hq : l.slots[r] = some q) : chooseSlot l ≠ r := by
  obtain ⟨hlen, hnodup⟩ := hage
  unfold chooseSlot
  split
  · next i hi =>
    rintro rfl
    have := List.find?_some hi
    rw [hq] at this
    cases this
  · have hother : ∃ k ∈ l.age, k ≠ r := by
      by_contra hno
      have hall : ∀ k ∈ l.age, k = r := fun k hk => by_contra fun h => hno ⟨k, hk, h⟩
      have := List.eq_replicate_of_mem hall
      rw [hlen] at this
      rw [this] at hnodup
      exact absurd hnodup (by simp [List.replicate])
    obtain ⟨k, hk, hne⟩ := hother
    cases hfind : l.age.find? (fun i => !(l.reference = some i)) with
    | none =>
      have := List.find?_eq_none.mp hfind k hk
      rw [hr] at this
      simp [Ne.symm hne] at this
    | some i =>
      have := List.find?_some hfind
      rw [hr] at this
      rintro rfl
      simp at this

/-! ### The comparison -/

theorem settleComparison_capture : settleComparison l .capture sig = .absent .kind := rfl

theorem settleComparison_noReference (h : l.reference = none) : settleComparison l .play sig = .absent .noReference := by
  simp only [settleComparison, h]

theorem settleComparison_play (hr : l.reference = some r) (hq : l.slots[r] = some q) :
    settleComparison l .play sig = if q.header.signature = sig then .against r q.header.number else .absent .signature := by
  simp only [settleComparison, hr, hq]

/-- R149: what a pass is compared against is the reference, of its own signature. -/
theorem settleComparison_against {number : Nat} (h : settleComparison l kind sig = .against r number) :
    kind = .play ∧ l.reference = some r ∧ ∃ q, l.slots[r] = some q ∧ q.header.signature = sig := by
  cases kind with
  | capture => cases h
  | play =>
    cases hr : l.reference with
    | none =>
      rw [settleComparison_noReference hr] at h
      cases h
    | some r' =>
      cases hq : l.slots[r'] with
      | none =>
        simp only [settleComparison, hr, hq] at h
        cases h
      | some q =>
        rw [settleComparison_play hr hq] at h
        split at h
        · next hsig =>
          cases h
          exact ⟨rfl, rfl, q, hq, hsig⟩
        · cases h

/-! ### The log with a pass opened -/

/-- R149: the pass that a log opens. -/
def PassLog.opened (l : PassLog) (kind : PassKind) (sig : BitVec 32) (axes : Vector Bool 16) : PassRec :=
  { header := openHeader (nextNumber l.counter) kind sig axes (settleComparison l kind sig), records := [] }

theorem openPass_slot (l : PassLog) (kind : PassKind) (sig : BitVec 32) (axes : Vector Bool 16) :
    (openPass l kind sig axes).slots[chooseSlot l] = some (l.opened kind sig axes) := put_get_same ..

theorem openPass_other (h : j ≠ chooseSlot l) : (openPass l kind sig axes).slots[j] = l.slots[j] := put_get_other _ _ (Ne.symm h)

theorem openPass_newest (l : PassLog) (kind : PassKind) (sig : BitVec 32) (axes : Vector Bool 16) :
    (openPass l kind sig axes).age.getLast? = some (chooseSlot l) := List.getLast?_concat

end Sys2Proof.Machine
end

/-! SUPPORT. The log and the output queue through a pass start (R75, R149, R150, R152, R194). -/
section
namespace Sys2Proof.Machine

variable {s t : State} {l l' l'' : PassLog} {i : PassSlot} {p : PassRec} {e : RunEntry} {kind : PassKind}

/-! ### A message that waits in the queue -/

/-- A message waits in a queue of at most n, with none held. -/
structure Console.Holds (m : Message) (n : Nat) (c : Console) : Prop where
  mem : m ∈ c.outQ
  held : c.held = []
  length : c.outQ.length ≤ n

namespace Console.Holds

variable {m : Message} {n k : Nat} {c : Console}

theorem mono {n' : Nat} (h : c.Holds m n) (hn : n ≤ n') : c.Holds m n' := ⟨h.mem, h.held, h.length.trans hn⟩

theorem queueMessage (h : c.Holds m n) (hn : n < 64) (m' : Message) : (queueMessage c m').Holds m (n + 1) := by
  rw [queueMessage_of_room h.held (Nat.lt_of_le_of_lt h.length hn)]
  refine ⟨List.mem_append_left _ h.mem, h.held, ?_⟩
  rw [List.length_append]
  exact Nat.succ_le_succ h.length

theorem queueFaultReport (h : c.Holds m n) (hn : n < 64) : (queueFaultReport c).Holds m (n + 1) := by
  unfold Machine.queueFaultReport
  split
  · exact h.mono (Nat.le_succ n)
  · exact h.queueMessage hn _

theorem reportFaultsIf {s : State} (h : s.console.Holds m n) (hn : n < 64) (b : Bool) :
    (s.reportFaultsIf b).console.Holds m (n + 1) := by
  cases b with
  | false => exact h.mono (Nat.le_succ n)
  | true => exact h.queueFaultReport hn

end Console.Holds

/-- R194: with room for it a FRAME report joins the queue, with the count of those skipped. -/
theorem Console.Roomy.holds_frame {n k : Nat} {c : Console} (h : c.Roomy n k) (hn : n < 48) (body : List Byte) :
    (Machine.queueFrameReport c body).Holds (.frame (body ++ [BitVec.ofNat 8 k])) (n + 1) := by
  rw [Machine.queueFrameReport, if_pos (Nat.lt_of_le_of_lt h.length hn), h.skipped]
  refine ⟨List.mem_append_right _ List.mem_cons_self, h.held, ?_⟩
  rw [List.length_append]
  exact Nat.succ_le_succ h.length

/-- R194: the FRAME report of a pass frame that one is due for. -/
theorem recordFrame_holds {n k : Nat} (h : s.console.Roomy n k) (hn : n < 48) {c : Crossing} (hc : c.interval ≠ 0)
    (hd : c.passFrame % c.interval = 0) (r : FrameRec) :
    ∃ body, (s.recordFrame c r).console.Holds (.frame (body ++ [BitVec.ofNat 8 k])) (n + 1) := by
  have hreport : s.recordFrame c r =
      { s with
        log := writeRecord s.log r
        console := queueFrameReport s.console (State.frameReportBytes { s with log := writeRecord s.log r } c.mask r) } :=
    if_pos ⟨hc, hd⟩
  rw [hreport]
  exact ⟨_, h.holds_frame hn _⟩

/-! ### CAPTURE_SHORT -/

/-- From l to l' at most the pass being recorded has been marked short. -/
structure MarksShort (l l' : PassLog) : Prop where
  recording : l'.recording = l.recording
  reference : l'.reference = l.reference
  age : l'.age = l.age
  heldSlot : l'.heldSlot = l.heldSlot
  slot : ∀ (i : PassSlot) (p : PassRec), l.recording = some i → l.slots[i] = some p →
    ∃ b, l'.slots[i] = some { p with header := { p.header with captureShort := b } }

theorem MarksShort.refl (l : PassLog) : MarksShort l l := ⟨rfl, rfl, rfl, rfl, fun _ p _ hp => ⟨p.header.captureShort, hp⟩⟩

theorem MarksShort.trans (h : MarksShort l l') (h' : MarksShort l' l'') : MarksShort l l'' where
  recording := h'.recording.trans h.recording
  reference := h'.reference.trans h.reference
  age := h'.age.trans h.age
  heldSlot := h'.heldSlot.trans h.heldSlot
  slot i p hi hp := by
    obtain ⟨b, hb⟩ := h.slot i p hi hp
    obtain ⟨b', hb'⟩ := h'.slot i _ (h.recording.trans hi) hb
    exact ⟨b', hb'⟩

theorem markShort_marksShort (l : PassLog) : MarksShort l (markShort l) := by
  unfold markShort
  cases hr : recordedPass l with
  | none => exact .refl l
  | some ip =>
    refine ⟨rfl, rfl, rfl, rfl, fun i p hi hp => ⟨true, ?_⟩⟩
    cases hr.symm.trans (recordedPass_eq_some.mpr ⟨hi, hp⟩)
    exact put_get_same ..

theorem stageFor_marksShort (e : RunEntry) (n : Nat) (s : State) (b : Nat × Binding) :
    MarksShort s.log (State.stageFor e n s b).log := by
  unfold State.stageFor
  simp only
  split
  · exact markShort_marksShort s.log
  · exact .refl s.log

theorem foldl_stageFor_marksShort (e : RunEntry) (n : Nat) (bs : List (Nat × Binding)) :
    ∀ s : State, MarksShort s.log (bs.foldl (State.stageFor e n) s).log := by
  induction bs with
  | nil => exact fun s => .refl s.log
  | cons b bs ih => exact fun s => (stageFor_marksShort e n s b).trans (ih _)

theorem stageKeys_marksShort (s : State) (n : Nat) : MarksShort s.log (s.stageKeys n).log := by
  unfold State.stageKeys
  split
  · exact .refl s.log
  · split
    · exact foldl_stageFor_marksShort _ _ _ s
    · exact .refl s.log

theorem startCapture_marksShort (s : State) : MarksShort s.log s.startCapture.log := by
  unfold State.startCapture
  split
  · obtain ⟨st, gen, h⟩ := openCaptureStaging_spec s
    rw [h]
    exact stageKeys_marksShort { s with store := st, gen := gen } 0
  · exact .refl s.log

/-! ### The pass start -/

/-- The first record of a pass (R75, R150). -/
def State.startRecord (s : State) : FrameRec := State.frameRecord (s.crossingAt 0) s.startSample

/-- The pass start up to its REPEAT evaluations: the record is written and its FRAME report queued. -/
theorem passBegun_log (s : State) : MarksShort (writeRecord s.log s.startRecord) s.passBegun.log ∧
    s.passBegun.console = (s.recordFrame (s.crossingAt 0) s.startRecord).console := by
  have hbegun : s.passBegun = ((s.recordFrame (s.crossingAt 0) s.startRecord).fireCues 0).startCapture := rfl
  obtain ⟨d, hd⟩ := recordFrame_spec s (s.crossingAt 0) s.startRecord
  obtain ⟨ls, hls⟩ := fireCues_spec (s.recordFrame (s.crossingAt 0) s.startRecord) 0
  have hmarks := startCapture_marksShort ((s.recordFrame (s.crossingAt 0) s.startRecord).fireCues 0)
  obtain ⟨st, gen, log, hstart, -⟩ := startCapture_spec ((s.recordFrame (s.crossingAt 0) s.startRecord).fireCues 0)
  rw [← hbegun] at hmarks hstart
  rw [hls, hd] at hmarks hstart
  rw [hd]
  exact ⟨hmarks, by rw [hstart]⟩

/-- What a pass start with no REPEAT action in force leaves of the log and the queue. -/
theorem passStart_log (hp : s.ctrl.pass.isSome = true)
    (hno : s.log.heldSlot = none ∨ ∀ a : Axis, inForce s.mon.settings[condOn .repeatDev a] = none) :
    MarksShort (writeRecord s.log s.startRecord) s.passStart.log ∧
      ∀ (m : Message) (n : Nat), n < 64 → (s.recordFrame (s.crossingAt 0) s.startRecord).console.Holds m n →
        s.passStart.console.Holds m (n + 1) := by
  obtain ⟨hlog, hconsole⟩ := passBegun_log s
  obtain ⟨c, log, st, gen, hb, -⟩ := passBegun_starts s
  have hev : s.passStart = (s.passBegun.recorded s.startEvaluations).reportFaultsIf
      (evaluateAll s.passBegun.mon s.passBegun.stampNow s.startEvaluations).changed := by
    rw [passStart_eq]
    refine evaluateEvent_of_pass (by rw [hb]; exact hp) _ fun e he _ => ?_
    rw [hb]
    obtain hn | hn := hno
    · have hes : s.startEvaluations = [] := repeatEvaluations_nil hn _ _
      rw [hes] at he
      cases he
    · obtain ⟨a, _, _, rfl⟩ := mem_repeatEvaluations he
      exact hn a
  rw [← hconsole]
  refine ⟨?_, fun m n hn h => ?_⟩
  · obtain ⟨d, hd, -⟩ := (s.passBegun.recorded s.startEvaluations).reportFaultsIf_spec
      (evaluateAll s.passBegun.mon s.passBegun.stampNow s.startEvaluations).changed
    rw [hev, hd]
    exact hlog
  · rw [hev]
    exact Console.Holds.reportFaultsIf (s := s.passBegun.recorded s.startEvaluations) h hn _

/-! ### The pass opened -/

/-- R149: the signature that GO takes for its pass. -/
def State.goSignature (s : State) : BitVec 32 := (s.check.record.bind (·.signature)).getD 0

theorem finishClosing_grows (s : State) : s.console.Grows s.finishClosing.console := by
  unfold State.finishClosing
  split
  · obtain ⟨c, log, h, hg, -⟩ := s.finalizePass_spec _
    rw [h]
    exact hg
  · exact .refl _

/-- The log, the clock and the controller begin a pass from a settled log. -/
theorem startPass_opensLog (e : RunEntry) (hk : s.purposeKind = kind) :
    ∃ c l, SettlesLog s.log l ∧ (s.console.Roomy 41 0 → c.Roomy 43 0) ∧ s.console.Grows c ∧
      s.startPass e =
        if s.clock.cfg.sync = .follower then
          s.passOpened e kind c (openPass l kind s.goSignature (tabulate s.configured))
        else (s.passOpened e kind c (openPass l kind s.goSignature (tabulate s.configured))).passStart := by
  subst hk
  have hsettles := finishClosing_settlesLog { s with ctrl := { s.ctrl with entry := 1, landing := false, pass := some s.purposeKind } }
  have hroomy := finishClosing_roomy (s := { s with ctrl := { s.ctrl with entry := 1, landing := false, pass := some s.purposeKind } })
    (n := 41) (k := 0)
  obtain ⟨c, l, hs⟩ := finishClosing_spec { s with ctrl := { s.ctrl with entry := 1, landing := false, pass := some s.purposeKind } }
  have hgrows := finishClosing_grows { s with ctrl := { s.ctrl with entry := 1, landing := false, pass := some s.purposeKind } }
  rw [hs] at hsettles hroomy hgrows
  refine ⟨queueStateReport c .running (some s.purposeKind) 1, l, hsettles,
    fun h => (hroomy h (by decide)).queueStateReport (by decide) _ _ _, hgrows.trans (Console.grows_queueStateReport _ _ _ _), ?_⟩
  have hbegin : State.beginPass { s with ctrl := { s.ctrl with entry := 1, landing := false, pass := some s.purposeKind } }
        s.purposeKind =
      { s with
        ctrl := { s.ctrl with entry := 1, landing := false, pass := some s.purposeKind }
        console := c, log := openPass l s.purposeKind s.goSignature (tabulate s.configured) } := by
    rw [State.beginPass, hs]
    rfl
  have hcfg : (startPassClock s.clock e).cfg.sync = s.clock.cfg.sync := by rw [startPassClock_cfg]
  simp only [State.startPass, hbegin]
  exact if_congr (by rw [← hcfg]; exact Iff.rfl) rfl rfl

end Sys2Proof.Machine
end

/-! SUPPORT. GO in ARMED in the pass log (R75, R148, R149, R150, R153): the pass it opens and its first record. -/
section
namespace Sys2Proof.Machine

variable {s t : State} {l : PassLog} {kind : PassKind} {e : RunEntry} {a : Axis}

/-- R75, R150: the record of pass frame 0 of a pass that GO begins. -/
def State.firstRecord (s : State) (e : RunEntry) : FrameRec :=
  { passFrame := 0, entry := 1, time := e.startFrame * subframes, samples := tabulate fun a => some (s.startSample a) }

theorem passOpened_startRecord (s : State) (e : RunEntry) (kind : PassKind) (c : Console) (log : PassLog) :
    (s.passOpened e kind c log).startRecord = s.firstRecord e := by
  obtain ⟨htime, -⟩ := startPassClock_fields s.clock e
  simp only [State.startRecord, State.frameRecord, State.crossingAt, State.passOpened, State.firstRecord, htime, begunCtrl]
  rfl

/-- R149: the log in which GO opens its pass, from the settled log l. -/
def State.openedLog (s : State) (kind : PassKind) (l : PassLog) : PassLog := openPass l kind s.goSignature (tabulate s.configured)

/-- R149: the pass that GO opens, before its first record. -/
def State.openedPass (s : State) (kind : PassKind) (l : PassLog) : PassRec := l.opened kind s.goSignature (tabulate s.configured)

/-- R75: the pass that GO begins: in FOLLOWER mode its first record is still to come. -/
def State.begunPass (s : State) (e : RunEntry) (kind : PassKind) (l : PassLog) : PassRec :=
  if s.clock.cfg.sync = .follower then s.openedPass kind l
  else (s.openedLog kind l).withRecord (s.openedPass kind l) (s.firstRecord e)

/-- From s to t a pass has been opened in the pass log, which l is when it has been settled. -/
structure OpensLog (s t : State) (e : RunEntry) (kind : PassKind) (l : PassLog) : Prop where
  settles : SettlesLog s.log l
  recording : t.log.recording = some (chooseSlot l)
  reference : t.log.reference = s.log.reference
  newest : t.log.age.getLast? = some (chooseSlot l)
  heldSlot : t.log.heldSlot = heldBy (settleComparison l kind s.goSignature)
  slot : ∃ b, t.log.slots[chooseSlot l] =
    some { s.begunPass e kind l with header := { (s.begunPass e kind l).header with captureShort := b } }
  frame : s.clock.cfg.sync ≠ .follower → s.console.interval ≠ 0 → s.console.Roomy 41 0 →
    ∃ body, .frame (body ++ [0]) ∈ t.console.outQ

namespace SettlesLog

variable {l' : PassLog} {j r : PassSlot} {q : PassRec} {sig : BitVec 32}

theorem chooseSlot_empty (h : SettlesLog l l') (hj : l.slots[j] = none) (hk : ∀ k : PassSlot, k < j → l.slots[k] ≠ none) :
    chooseSlot l' = j :=
  Machine.chooseSlot_empty ((h.empty j).mpr hj) fun k hlt hn => hk k hlt ((h.empty k).mp hn)

theorem chooseSlot_oldest {older rest : List PassSlot} (h : SettlesLog l l') (hfull : ∀ k : PassSlot, l.slots[k] ≠ none)
    (hage : l.age = older ++ j :: rest) (holder : ∀ k ∈ older, l.reference = some k) (hj : l.reference ≠ some j) :
    chooseSlot l' = j :=
  Machine.chooseSlot_oldest (fun k hn => hfull k ((h.empty k).mp hn)) (h.age.trans hage) (fun k hk => h.reference.trans (holder k hk))
    (by rw [h.reference]; exact hj)

theorem comparison_play (h : SettlesLog l l') (hr : l.reference = some r) (hq : l.slots[r] = some q) :
    settleComparison l' .play sig = if q.header.signature = sig then .against r q.header.number else .absent .signature := by
  obtain ⟨q', hq', -, hs, hn⟩ := h.kept r q hq
  rw [settleComparison_play (h.reference.trans hr) hq', hs, hn]

end SettlesLog

/-- What a pass compared against holds: a reference of the pass's signature (R149). -/
theorem SettlesLog.against {r : PassSlot} {number : Nat} {l' : PassLog} {sig : BitVec 32} (h : SettlesLog l l')
    (hc : settleComparison l' kind sig = .against r number) :
    kind = .play ∧ l.reference = some r ∧ ∃ q, l.slots[r] = some q ∧ q.header.signature = sig := by
  obtain ⟨hk, hr, q', hq', hsig⟩ := settleComparison_against hc
  refine ⟨hk, h.reference.symm.trans hr, ?_⟩
  cases hq : l.slots[r] with
  | none =>
    rw [(h.empty r).mpr hq] at hq'
    cases hq'
  | some q =>
    obtain ⟨q'', hq'', -, hs, -⟩ := h.kept r q hq
    cases hq''.symm.trans hq'
    exact ⟨q, rfl, hs.symm.trans hsig⟩

theorem startPass_log (hk : s.purposeKind = kind) (e : RunEntry)
    (hno : kind = .play → s.clock.cfg.sync ≠ .follower → ∀ r q, s.log.reference = some r → s.log.slots[r] = some q →
      q.header.signature = s.goSignature → ∀ a : Axis, inForce s.mon.settings[condOn .repeatDev a] = none) :
    ∃ l, OpensLog s (s.startPass e) e kind l := by
  obtain ⟨c, l, hsettles, hroomy, hgrows, heq⟩ := startPass_opensLog e hk
  refine ⟨l, ?_⟩
  have hslot : (s.openedLog kind l).slots[chooseSlot l] = some (s.openedPass kind l) := openPass_slot ..
  have hnewest : (s.openedLog kind l).age.getLast? = some (chooseSlot l) := openPass_newest ..
  rw [heq]
  by_cases hf : s.clock.cfg.sync = .follower
  · rw [if_pos hf]
    refine ⟨hsettles, rfl, hsettles.reference, hnewest, rfl, ⟨false, hslot.trans ?_⟩, fun h => absurd hf h⟩
    rw [State.begunPass, if_pos hf]
    rfl
  · rw [if_neg hf]
    have hcalm : (s.passOpened e kind c (s.openedLog kind l)).log.heldSlot = none ∨
        ∀ a : Axis, inForce (s.passOpened e kind c (s.openedLog kind l)).mon.settings[condOn .repeatDev a] = none := by
      cases hc : settleComparison l kind s.goSignature with
      | absent why => exact .inl (congrArg heldBy hc)
      | against r number =>
        obtain ⟨hplay, hr, q, hq, hsig⟩ := hsettles.against hc
        exact .inr (hno hplay hf r q hr hq hsig)
    have hlog := passStart_log (s := s.passOpened e kind c (s.openedLog kind l)) rfl hcalm
    rw [passOpened_startRecord] at hlog
    obtain ⟨hmarks, hholds⟩ := hlog
    have hwrite := writeRecord_eq (l := s.openedLog kind l) rfl hslot (s.firstRecord e)
    have hwritten := writeRecord_slot (l := s.openedLog kind l) rfl hslot (s.firstRecord e)
    have hlogged : (s.passOpened e kind c (s.openedLog kind l)).log = s.openedLog kind l := rfl
    rw [hlogged] at hmarks
    have hfirst := hmarks.slot (chooseSlot l) _ (by rw [hwrite]; rfl) hwritten
    refine ⟨hsettles, hmarks.recording.trans ?_, hmarks.reference.trans ?_, (congrArg List.getLast? hmarks.age).trans ?_,
      hmarks.heldSlot.trans ?_, ?_, fun _ hi hr => ?_⟩
    · rw [hwrite]
      rfl
    · rw [hwrite]
      exact hsettles.reference
    · rw [hwrite]
      exact hnewest
    · rw [hwrite]
      rfl
    · rw [State.begunPass, if_neg hf]
      exact hfirst
    · have hdue : ((s.passOpened e kind c (s.openedLog kind l)).crossingAt 0).interval ≠ 0 :=
        hgrows.interval.trans_ne hi
      obtain ⟨body, hbody⟩ := recordFrame_holds (s := s.passOpened e kind c (s.openedLog kind l)) (hroomy hr) (by decide) hdue
        (Nat.zero_mod _) (s.firstRecord e)
      exact ⟨body, (hholds _ _ (by decide) hbody).mem⟩

end Sys2Proof.Machine
end

/-! SUPPORT. The close of the batch after a crossing in the pass log and the output queue (R114, R150, R154, R194). -/
section
namespace Sys2Proof.Machine

variable {s t u v : State} {c : Crossing} {i : PassSlot} {pass : PassRec} {p : LinkPeriod} {a : Axis}

/-! ### The output queue through a report -/

/-- No FRAME report waits after that did not wait before. -/
def Console.NoNewFrame (c d : Console) : Prop := ∀ m ∈ d.waiting, isFrameReport m = true → m ∈ c.waiting

namespace Console.NoNewFrame

variable {c d e : Console}

theorem refl (c : Console) : NoNewFrame c c := fun _ h _ => h

theorem trans (h : NoNewFrame c d) (h' : NoNewFrame d e) : NoNewFrame c e := fun m hm hf => h m (h' m hm hf) hf

theorem queueMessage (c : Console) {m : Message} (hm : isFrameReport m = false) : NoNewFrame c (queueMessage c m) := by
  intro m' hm' hf
  have hne : m' ≠ m := by
    rintro rfl
    rw [hm] at hf
    cases hf
  obtain ⟨h, -⟩ | ⟨before, report, after, hc, -, h⟩ := waiting_queueMessage c m
  · rw [h] at hm'
    exact (List.mem_append.mp hm').resolve_right fun hh => hne (List.mem_singleton.mp hh)
  · rw [h] at hm'
    have := (List.mem_append.mp hm').resolve_right fun hh => hne (List.mem_singleton.mp hh)
    rw [hc, List.mem_append, List.mem_cons]
    exact (List.mem_append.mp this).imp_right .inr

end Console.NoNewFrame

/-- From c to d at most a FAULT report has been queued. -/
def Console.Reports (c d : Console) : Prop := d = c ∨ d = queueFaultReport c

namespace Console.Reports

variable {c d : Console} {m : Message} {n k : Nat}

theorem noNewFrame (h : Reports c d) : NoNewFrame c d := by
  obtain rfl | rfl := h
  · exact .refl _
  · unfold queueFaultReport
    split
    · exact .refl _
    · exact .queueMessage c rfl

theorem roomy (h : Reports c d) (hc : c.Roomy n k) (hn : n < 64) : d.Roomy (n + 1) k := by
  obtain rfl | rfl := h
  · exact hc.mono (Nat.le_succ n)
  · exact hc.queueFaultReport hn

theorem holds (h : Reports c d) (hc : c.Holds m n) (hn : n < 64) : d.Holds m (n + 1) := by
  obtain rfl | rfl := h
  · exact hc.mono (Nat.le_succ n)
  · exact hc.queueFaultReport hn

end Console.Reports

theorem releaseAll_console (s : State) : s.releaseAll.console = s.console := by
  have fold : ∀ (as : List Axis) (s : State), (as.foldl State.releaseAxis s).console = s.console := by
    intro as
    induction as with
    | nil => exact fun _ => rfl
    | cons a as ih =>
      intro s
      obtain ⟨-, h⟩ | ⟨-, h⟩ := releaseAxis_cases s a <;> rw [List.foldl_cons, ih, h]
      rfl
  exact fold allAxes s

theorem settleFaults_reports (s : State) (b : Bool) : s.console.Reports (s.settleFaults b).console := by
  have hconsole := releaseAll_console s
  unfold State.settleFaults State.reportFaultsIf
  generalize s.releaseAll = r at hconsole ⊢
  simp only
  split
  · exact .inr (congrArg queueFaultReport hconsole)
  · exact .inl hconsole

/-- R139, R142: an event with no action in force at most reports. -/
theorem evaluateEvent_reports (es : List Evidence) (h : ∀ e ∈ es, e.truth = true → inForce s.mon.settings[e.id] = none) :
    s.console.Reports (s.evaluateEvent es).console := by
  rw [evaluateEvent_of_no_action es h]
  exact settleFaults_reports (s.recorded es) _

/-! ### The state that takes a crossing -/

/-- From s to v the batch of a period has been monitored and counted: the log stands, and the crossing's samples are the batch's. -/
structure HandsBatch (s v : State) (p : LinkPeriod) : Prop where
  log : v.log = s.log
  settings : v.mon.settings = s.mon.settings
  reports : s.console.Reports v.console
  sample : ∀ a : Axis, p.axes.contains a = true → s.configured a = true → v.crossingSample a =
    { setpoint := (s.link.recs[a]).lastSent, measured := (s.link.recs[a]).measured, stale := !p.good.contains a
      clamped := s.ctrl.clamped[a] && decide (s.driveOf a = .on), detached := !(s.mon.detached[a]).isEmpty }

theorem closeBatch_hands (hno : ∀ j : CondId, j.val < 96 → inForce s.mon.settings[j] = none) (p : LinkPeriod) :
    ∃ v, HandsBatch s v p ∧ s.closeBatch p = v.logCrossing := by
  refine ⟨(s.closeLink p).monitorBatch.countInPosition, ?_, rfl⟩
  have hitem := fun a => (closeLink_closes s p).item a
  obtain ⟨link, hclose, -⟩ := closeLink_eq s p
  rw [hclose] at hitem ⊢
  have hr := monitorBatch_records (s := { s with link := link }) hno
  have hreports : s.console.Reports (State.monitorBatch { s with link := link }).console := by
    obtain ⟨blank, hfall, -⟩ := fallBlanking_eq { s with link := link }
    rw [State.monitorBatch, hfall]
    refine evaluateEvent_reports (s := { s with link := link, mon := { s.mon with blank := blank } }) _ fun e he _ => ?_
    obtain ⟨a, -, ha⟩ := List.mem_flatMap.mp he
    obtain ⟨-, c, -, -, -, hid⟩ := axisEvaluations_id ha
    exact hno _ (by rw [hid]; exact condOn_lt _ _)
  obtain ⟨blank, hfall, -⟩ := fallBlanking_eq { s with link := link }
  rw [hfall] at hr
  generalize State.monitorBatch { s with link := link } = v at hr hreports ⊢
  obtain ⟨n, hcount⟩ := countInPosition_eq v
  rw [hcount]
  refine ⟨hr.log, hr.settings, hreports, fun a hp hc => ?_⟩
  have hbatch : v.link.batch[a] = some (s.closedItem p a) := by
    rw [hr.link]
    exact hitem a hp hc
  simp only [State.crossingSample, hbatch]
  rfl

/-! ### The crossing's record -/

theorem finishClosing_closing {o : PassOutcome} (h : s.log.closing = some o) (hi : s.log.recording = some i)
    (hp : s.log.slots[i] = some pass) :
    s.finishClosing =
      { s with
        log :=
          { s.log with
            slots := put s.log.slots i (some (closedPass pass o)), recording := none, heldSlot := none, crossing := none
            closing := none }
        console := queueMessage s.console (closedReport i pass o) } := by
  simp only [State.finishClosing, h, State.finalizePass, recordedPass_eq_some.mpr ⟨hi, hp⟩]
  rfl

section
variable (hi : s.log.recording = some i) (hp : s.log.slots[i] = some pass)

/-- R150: a crossing's record is written, and the pass goes on. -/
theorem recordedCrossing_open (h : s.log.closing = none) :
    (s.recordedCrossing c).log = { writeRecord s.log (State.frameRecord c s.crossingSample) with crossing := none } ∧
      (s.recordedCrossing c).console = (s.recordFrame c (State.frameRecord c s.crossingSample)).console := by
  obtain ⟨d, hd⟩ := recordFrame_spec s c (State.frameRecord c s.crossingSample)
  have hclosing : (writeRecord s.log (State.frameRecord c s.crossingSample)).closing = none := by
    unfold writeRecord
    split <;> exact h
  simp only [State.recordedCrossing, hd, State.finishClosing, hclosing, and_self]

include hi hp

/-- R154: a crossing's record is written, and the pass that waited for it is closed and reported. -/
theorem recordedCrossing_closing {o : PassOutcome} (h : s.log.closing = some o) :
    (s.recordedCrossing c).log =
        { writeRecord s.log (State.frameRecord c s.crossingSample) with
          slots := put (writeRecord s.log (State.frameRecord c s.crossingSample)).slots i
            (some (closedPass (s.log.withRecord pass (State.frameRecord c s.crossingSample)) o))
          recording := none, heldSlot := none, crossing := none, closing := none } ∧
      (s.recordedCrossing c).console = queueMessage (s.recordFrame c (State.frameRecord c s.crossingSample)).console
        (closedReport i (s.log.withRecord pass (State.frameRecord c s.crossingSample)) o) := by
  obtain ⟨d, hd⟩ := recordFrame_spec s c (State.frameRecord c s.crossingSample)
  have hwrite := writeRecord_eq hi hp (State.frameRecord c s.crossingSample)
  have hslot := writeRecord_slot hi hp (State.frameRecord c s.crossingSample)
  unfold State.recordedCrossing
  generalize State.frameRecord c s.crossingSample = r at hd hwrite hslot ⊢
  have hclosing : (writeRecord s.log r).closing = some o := by
    rw [hwrite]
    exact h
  have hrec : (writeRecord s.log r).recording = some i := by
    rw [hwrite]
    exact hi
  rw [hd]
  have hfinish := finishClosing_closing (s := { s with console := d, log := { writeRecord s.log r with crossing := none } }) hclosing hrec
    hslot
  exact ⟨congrArg State.log hfinish, congrArg State.console hfinish⟩

theorem recordedCrossing_console :
    (s.recordedCrossing c).console = (s.recordFrame c (State.frameRecord c s.crossingSample)).console ∨
      ∃ m, isFrameReport m = false ∧
        (s.recordedCrossing c).console = queueMessage (s.recordFrame c (State.frameRecord c s.crossingSample)).console m := by
  cases h : s.log.closing with
  | none => exact .inl (recordedCrossing_open h).2
  | some o => exact .inr ⟨_, rfl, (recordedCrossing_closing hi hp h).2⟩

end

theorem recordFrame_not_due (h : c.interval = 0 ∨ c.passFrame % c.interval ≠ 0) (r : FrameRec) :
    (s.recordFrame c r).console = s.console := by
  have hno : ¬(c.interval ≠ 0 ∧ c.passFrame % c.interval = 0) := fun ⟨h1, h2⟩ => h.elim h1 fun h => h h2
  rw [State.recordFrame, State.reportFrame, if_neg hno]

theorem logCrossing_reports (hc : s.log.crossing = some c) (hno : ∀ j : CondId, j.val < 96 → inForce s.mon.settings[j] = none) :
    (s.recordedCrossing c).console.Reports s.logCrossing.console := by
  rw [logCrossing_some hc]
  obtain ⟨d, log, heq⟩ := recordedCrossing_eq s c
  refine evaluateEvent_reports _ fun e he _ => ?_
  obtain ⟨a, ha⟩ := crossingEvaluations_id he
  rw [heq]
  exact hno _ (by rw [ha]; exact condOn_lt _ _)

/-! ### FRAME reports of the close -/

section
variable (hi : s.log.recording = some i) (hp : s.log.slots[i] = some pass) (hc : s.log.crossing = some c)
  (hno : ∀ j : CondId, j.val < 96 → inForce s.mon.settings[j] = none)
include hi hp hc hno

/-- R194: with none due the close brings no FRAME report. -/
theorem logCrossing_noNewFrame (h : c.interval = 0 ∨ c.passFrame % c.interval ≠ 0) : s.console.NoNewFrame s.logCrossing.console := by
  have hreports := (logCrossing_reports hc hno).noNewFrame
  rw [← recordFrame_not_due (s := s) h (State.frameRecord c s.crossingSample)]
  obtain hsame | ⟨m, hm, hqueue⟩ := recordedCrossing_console (c := c) hi hp
  · rw [hsame] at hreports
    exact hreports
  · rw [hqueue] at hreports
    exact (Console.NoNewFrame.queueMessage _ hm).trans hreports

/-- R194: with one due and room for it the FRAME report waits after the close. -/
theorem logCrossing_frame {k : Nat} (h : c.interval ≠ 0) (hd : c.passFrame % c.interval = 0) (hroom : s.console.Roomy 41 k) :
    ∃ body, .frame (body ++ [BitVec.ofNat 8 k]) ∈ s.logCrossing.console.outQ := by
  obtain ⟨body, hbody⟩ := recordFrame_holds hroom (by decide) h hd (State.frameRecord c s.crossingSample)
  have hrecorded : (s.recordedCrossing c).console.Holds (.frame (body ++ [BitVec.ofNat 8 k])) 43 := by
    obtain hsame | ⟨m, -, hqueue⟩ := recordedCrossing_console (c := c) hi hp
    · rw [hsame]
      exact hbody.mono (by decide)
    · rw [hqueue]
      exact hbody.queueMessage (by decide) m
  exact ⟨body, ((logCrossing_reports hc hno).holds hrecorded (by decide)).mem⟩

end

end Sys2Proof.Machine
end

/-! The pass log's frames (R75, R80, R114, R147 to R151, R153, R154, R194): O44. -/
section
namespace Sys2Proof.Machine

variable {s : State} {l : PassLog} {i r : PassSlot} {p q : PassRec} {e : RunEntry} {kind : PassKind} {a : Axis}

/-! ### The pass that GO begins -/

theorem openedPass_header (s : State) (kind : PassKind) (l : PassLog) : (s.openedPass kind l).header =
    openHeader (nextNumber l.counter) kind s.goSignature (tabulate s.configured) (settleComparison l kind s.goSignature) := rfl

theorem openedPass_room (s : State) (kind : PassKind) (l : PassLog) : (s.openedPass kind l).records.length < maxFrameRecords :=
  (by decide : 0 < maxFrameRecords)

/-- R149: but for its summaries the header stands as GO opened it. -/
theorem begunPass_header (s : State) (e : RunEntry) (kind : PassKind) (l : PassLog) :
    ∃ summary, (s.begunPass e kind l).header = { (s.openedPass kind l).header with summary := summary } := by
  unfold State.begunPass
  split
  · exact ⟨_, rfl⟩
  · have h := (withRecord_room (l := s.openedLog kind l) (openedPass_room s kind l) (s.firstRecord e)).2
    exact ⟨_, congrArg (fun x : PassHeader => { x with
      summary := ((s.openedLog kind l).withRecord (s.openedPass kind l) (s.firstRecord e)).header.summary }) h⟩

theorem begunPass_comparison (s : State) (e : RunEntry) (kind : PassKind) (l : PassLog) :
    (s.begunPass e kind l).header.comparison = settleComparison l kind s.goSignature := by
  obtain ⟨summary, h⟩ := begunPass_header s e kind l
  rw [h]
  rfl

/-- R75, R147: the records of a pass that GO has begun. -/
theorem begunPass_records (s : State) (e : RunEntry) (kind : PassKind) (l : PassLog) : (s.begunPass e kind l).records =
    if s.clock.cfg.sync = .follower then []
    else [{ passFrame := 0, entry := 1, time := e.startFrame * 65536
            samples := tabulate fun a => if s.configured a then some (s.startSample a) else none }] := by
  unfold State.begunPass
  split
  · rfl
  · rw [(withRecord_room (openedPass_room s kind l) _).1]
    have hsamples : (restrictRecord (s.openedPass kind l).header.axes (s.firstRecord e)).samples =
        tabulate fun a => if s.configured a then some (s.startSample a) else none := by
      have haxes : (s.openedPass kind l).header.axes = tabulate s.configured := rfl
      simp only [restrictRecord, haxes, tabulate_get, State.firstRecord]
    exact congrArg (fun v => [({ passFrame := 0, entry := 1, time := e.startFrame * 65536, samples := v } : FrameRec)]) hsamples

/-- R153: with nothing to compare with, the summaries are as GO opened them. -/
theorem begunPass_unheld {why : NoCompare} (h : settleComparison l kind s.goSignature = .absent why) (e : RunEntry) :
    (s.begunPass e kind l).header.summary = fill 16 { maxDev := 0, atFrame := none, compared := 0 } := by
  unfold State.begunPass
  split
  · rfl
  · exact withRecord_summary_unheld (l := s.openedLog kind l) (openedPass_room s kind l) (congrArg heldBy h) _

/-- R153: the summary of an axis whose reference record holds pass frame 0. -/
theorem begunPass_summary {number : Nat} {old : FrameRec} {y : AxisSample} (hf : s.clock.cfg.sync ≠ .follower)
    (hage : l.age.length = 4 ∧ l.age.Nodup) (hcomp : settleComparison l kind s.goSignature = .against r number)
    (hq : l.slots[r] = some q) (hold : q.records[0]? = some old) (hconf : s.configured a = true) (hy : old.samples[a] = some y) (e : RunEntry) :
    (s.begunPass e kind l).header.summary[a] =
      if (s.startSample a).stale = true ∨ y.stale = true then { maxDev := 0, atFrame := none, compared := 0 }
      else
        { maxDev := ((s.startSample a).measured - y.measured).natAbs
          atFrame := if (s.startSample a).measured = y.measured then none else some 0, compared := 1 } := by
  have hne : r ≠ chooseSlot l := (chooseSlot_ne_reference hage (settleComparison_against hcomp).2.1 hq).symm
  have href : (s.openedLog kind l).slots[r] = some q := (openPass_other hne).trans hq
  have hheld : (s.openedLog kind l).heldSlot = some r := congrArg heldBy hcomp
  have hsample : (restrictRecord (s.openedPass kind l).header.axes (s.firstRecord e)).samples[a] = some (s.startSample a) := by
    rw [restrictRecord_sample_of]
    · exact tabulate_get _ a
    · exact (tabulate_get s.configured a).trans hconf
  have hfresh : (s.openedPass kind l).header.summary[a] = { maxDev := 0, atFrame := none, compared := 0 } := fill_getElem ..
  rw [State.begunPass, if_neg hf, withRecord_summary (openedPass_room s kind l), hfresh, deviations_held hheld href hold]
  split
  · next hstale =>
    rw [deviation_stale hsample hy hstale]
    rfl
  · next hstale =>
    rw [not_or, Bool.not_eq_true, Bool.not_eq_true] at hstale
    rw [deviation_fresh hsample hy hstale.1 hstale.2, updateSummary_some]
    have hzero : 0 < ((s.startSample a).measured - y.measured).natAbs ↔ ¬(s.startSample a).measured = y.measured := by omega
    simp only [Nat.zero_max, hzero, ite_not, Nat.zero_add]
    rfl

theorem goReply_interval (s : State) (tag : Byte) :
    (s.reply Kind.go tag .ok []).clearSkipped.console.interval = s.console.interval := by
  obtain ⟨-, -, -, hinterval, -⟩ := Console.queueMessage_settings s.console (.reply (Kind.go ||| 0x80#8) tag [statusCode .ok])
  exact hinterval

/-- Settles O44. -/
theorem passFramesAreRecordedAndCompared : Obligations.PassFramesAreRecordedAndCompared := by
  unfold Obligations.PassFramesAreRecordedAndCompared
  refine ⟨?_, ?_, ?_⟩
  · intro l mon i p r hr hp
    refine ⟨fun hfull => ⟨?_, repeatEvaluations_full hr hp hfull mon r⟩, fun hroom => ?_⟩
    · rw [writeRecord_slot hr hp, PassLog.withRecord, appendRecord_full hfull]
    obtain ⟨hrecords, hheader⟩ := withRecord_room (l := l) hroom r
    refine ⟨l.withRecord p r, writeRecord_eq hr hp r, hrecords, hheader,
      fun hh => ⟨withRecord_summary_unheld hroom hh r, repeatEvaluations_nil hh mon r⟩, ?_⟩
    intro h ref old a x y hh href hold hax hx hy
    have hsample := (restrictRecord_sample_of (r := r) hax).trans hx
    have hdev := deviations_held (r := restrictRecord p.header.axes r) hh href hold a
    have hsummary := withRecord_summary (l := l) hroom r a
    refine ⟨fun hstale => ?_, fun h1 h2 => ?_⟩
    · rw [deviation_stale hsample hy hstale] at hdev
      rw [hdev] at hsummary
      refine ⟨hsummary, fun ev hev hid => ?_⟩
      obtain ⟨b, d, hd, rfl⟩ := (mem_repeatEvaluations_iff hr hp hroom).mp hev
      obtain ⟨-, rfl⟩ := condOn_inj.mp hid
      cases hdev.symm.trans hd
    · rw [deviation_fresh hsample hy h1 h2] at hdev
      rw [hdev, updateSummary_some] at hsummary
      rw [hsummary]
      exact ⟨rfl, rfl, rfl, _, (mem_repeatEvaluations_iff hr hp hroom).mpr ⟨a, _, hdev, rfl⟩, rfl, rfl, rfl⟩
  · intro tag s e es kind sig hst hrun hk hsig hno
    subst hsig
    have hpurpose : (s.reply Kind.go tag .ok []).clearSkipped.purposeKind = kind := by
      have : (s.reply Kind.go tag .ok []).clearSkipped.ctrl.purpose = some (.arm kind) := hk
      simp only [State.purposeKind, this]
    obtain ⟨l, h⟩ := startPass_log hpurpose e hno
    have hexec := exec_go_armed tag hst hrun
    have hroomy := goReply_roomy (s := s) tag
    have hinterval := goReply_interval s tag
    have hlog : (s.reply Kind.go tag .ok []).clearSkipped.log = s.log := rfl
    have hsample (a : Axis) : (s.reply Kind.go tag .ok []).clearSkipped.startSample a = s.startSample a := rfl
    generalize hu : (s.reply Kind.go tag .ok []).clearSkipped = u at h hexec hroomy hinterval hlog hsample
    obtain ⟨b, hslot⟩ := h.slot
    have hsettles := h.settles
    have hcomp := begunPass_comparison u e kind l
    obtain ⟨summary, hheader⟩ := begunPass_header u e kind l
    have hsig : u.goSignature = (s.check.record.bind (·.signature)).getD 0 := by rw [← hu]; rfl
    rw [hlog] at hsettles
    refine ⟨u.startPass e, chooseSlot l, _, hexec, h.recording, hslot, ?_, h.newest, ?_, ?_, ?_, ?_, ?_, ?_, ?_, ?_, ?_, ?_, ?_⟩
    · rw [h.reference, hlog]
    · exact fun j hj hk => hsettles.chooseSlot_empty hj hk
    · exact fun older j rest hfull hage holder hj => hsettles.chooseSlot_oldest hfull hage holder hj
    · rw [hheader, openedPass_header, hsig, hsettles.counter, ← hu]
      rfl
    · intro hkind
      rw [hcomp, hkind, settleComparison_capture]
    · intro hkind href
      rw [hcomp, hkind, settleComparison_noReference (hsettles.reference.trans href)]
    · intro r q hkind href hq
      rw [hcomp, hkind, hsettles.comparison_play href hq, hsig]
    · intro why hwhy
      rw [hcomp] at hwhy
      exact ⟨h.heldSlot.trans (congrArg heldBy hwhy), begunPass_unheld hwhy e⟩
    · intro r number hagainst
      rw [hcomp] at hagainst
      refine ⟨h.heldSlot.trans (congrArg heldBy hagainst), fun hlaw hf q old a y hq hold hconf hy => ?_⟩
      obtain ⟨q', hq', hrecords, -⟩ := hsettles.kept r q hq
      rw [← hsample]
      exact begunPass_summary (by rw [← hu]; exact hf) (by rw [hsettles.age]; exact hlaw.age) hagainst hq'
        (by rw [hrecords]; exact hold) (by rw [← hu]; exact hconf) hy e
    · refine (begunPass_records u e kind l).trans ?_
      rw [← hu]
      rfl
    · intro a x hx
      simp only [State.startSample, State.crossingSample, hx]
    · intro hf hi hh hl
      exact h.frame (by rw [← hu]; exact hf) (hinterval.trans_ne hi) (hroomy hh hl)
  · intro s p c i pass hq hperiod hc hl _ hno hcross hi hp
    obtain ⟨v, hv, hclose⟩ := closeBatch_hands hno p
    rw [← hv.settings] at hno
    rw [← hv.log] at hcross hi hp ⊢
    have hrec := logCrossing_records hcross hno
    refine ⟨v.logCrossing, State.frameRecord c v.crossingSample, _, by rw [slotEnd_eq hq hperiod, endSlot_last hc hl, hclose], rfl, rfl,
      rfl, fun a hax hconf => ?_, writeRecord_slot hi hp _, fun hopen => hrec.log.trans (recordedCrossing_open hopen).1,
      fun o ho => ⟨hrec.log.trans (recordedCrossing_closing hi hp ho).1, ?_⟩, fun h m hm hf => ?_, fun h1 h2 h3 h4 => ?_⟩
    · rw [← hv.sample a hax hconf]
      exact tabulate_get _ a
    · refine hrec.grows.mem ?_ rfl
      rw [(recordedCrossing_closing hi hp ho).2]
      exact Console.mem_queueMessage _ _
    · exact hv.reports.noNewFrame m (logCrossing_noNewFrame hi hp hcross hno h m hm hf) hf
    · exact logCrossing_frame hi hp hcross hno h1 h2 (hv.reports.roomy ⟨h3, h4, rfl⟩ (by decide))

end Sys2Proof.Machine
end
